-- ==== Sys2Proof/Word.lean ====
section
/-!
DEFINITION. The words of the machine: the 16-bit word, the byte, and the 32-bit long with its two halves
(00_scope.md R14, R16, R24). Only the types and their plainest arithmetic stand here.
-/
namespace Sys2Proof

/-- The sixteen-bit word, "the primary unit of storage" (00_scope.md R14). -/
abbrev Word := BitVec 16

/-- `BYTE`, eight bits (00_scope.md R16). -/
abbrev Byte := BitVec 8

/-- A double word (`LONG`), thirty-two bits (00_scope.md R24). -/
abbrev LongWord := BitVec 32

/-- `NIBBLE`, four bits (00_scope.md R16). -/
abbrev Nibble := BitVec 4

/-- `LowHalf(u) = u mod 2^16` (00_scope.md R24). -/
def lowHalf (u : LongWord) : Word := u.setWidth 16

/-- `HighHalf(u) = floor(u / 2^16)` (00_scope.md R24). -/
def highHalf (u : LongWord) : Word := u.extractLsb' 16 16

/-- The long with halves `low` and `high`: `high * 2^16 + low` (00_scope.md R24). -/
def mkLong (low high : Word) : LongWord := high ++ low

/-- `zext_16`: supply sixteen high-order zeros (00_scope.md R28). -/
def zextLong (u : Word) : LongWord := u.setWidth 32

/-- Widen a byte with high-order zeros (00_scope.md R26). -/
def zextByte (b : Byte) : Word := b.setWidth 16

/-- Widen a byte to a long with high-order zeros (00_scope.md R26). -/
def zextByteLong (b : Byte) : LongWord := b.setWidth 32

/-- Widen a nibble with high-order zeros (00_scope.md R26). -/
def zextNibble (n : Nibble) : Word := n.setWidth 16

/-- Widen a nibble to a long with high-order zeros (00_scope.md R26). -/
def zextNibbleLong (n : Nibble) : LongWord := n.setWidth 32

end Sys2Proof
end

