-- ==== Sys2Proof/Machine/Flags.lean ====
section
/-!
DEFINITION. The machine has no flags and no condition codes (10_state.md R76): what other machines keep in flags, this
one computes as a pushed value or as a jump's condition. Those comparisons stand here.
-/
namespace Sys2Proof.Machine

/-- A Boolean on the stack: TRUE is 1, FALSE is 0 (48_process_instructions.md R688). -/
def booleanWord (b : Bool) : Word := if b then 1 else 0

/-- The result of `DCMP`: 1, 0 or minus one by signed comparison (41_stack_instructions.md R300). -/
def compareSigned (j k : LongWord) : Word := if k.slt j then 1 else if j.slt k then 0xFFFF else 0

/-- The result of `UDCMP`: the same by unsigned comparison (41_stack_instructions.md R301). -/
def compareUnsigned (s t : LongWord) : Word := if t.ult s then 1 else if s.ult t then 0xFFFF else 0

/-- The high word of a lengthened `INTEGER`: copies of its sign (41_stack_instructions.md R264). -/
def signWord (i : Word) : Word := if i.slt 0 then 0xFFFF else 0

/-- The relations of the comparing jumps (42_jump_instructions.md R322, R330 to R337). -/
inductive Relation where
  | equal
  | notEqual
  | signedLess
  | signedLessEqual
  | signedGreater
  | signedGreaterEqual
  | unsignedLess
  | unsignedLessEqual
  | unsignedGreater
  | unsignedGreaterEqual
  deriving DecidableEq, Repr

/-- Whether the relation holds of the deeper operand and the top one. -/
def Relation.holds {w : Nat} (r : Relation) (deeper top : BitVec w) : Bool :=
  match r with
  | .equal => deeper == top
  | .notEqual => deeper != top
  | .signedLess => deeper.slt top
  | .signedLessEqual => deeper.sle top
  | .signedGreater => top.slt deeper
  | .signedGreaterEqual => top.sle deeper
  | .unsignedLess => deeper.ult top
  | .unsignedLessEqual => deeper.ule top
  | .unsignedGreater => top.ult deeper
  | .unsignedGreaterEqual => top.ule deeper

end Sys2Proof.Machine
end

