-- ==== Sys2Proof/Config.lean ====
section
/-!
DEFINITION. What one implementation fixes (the named parameters of 92_eei_decisions.md at that file's defaults)
and the FREE VALUES: constants with no body, of which nothing can be proved, standing for values the spec leaves open.
-/
namespace Sys2Proof.Config

/-- `P.vmPages`: the number of virtual pages, here the full architecture's 2^24 (92_eei_decisions.md). DESIGN CHOICE, log entry 2. -/
def vmPages : Nat := 2 ^ 24

/-- `P.realPages`: real pages 0 to 2^16 - 1 exist (92_eei_decisions.md). DESIGN CHOICE, log entry 2. -/
def realPages : Nat := 2 ^ 16

/-- `P.cWM`, the constant contents of `WM` (60_exceptions.md R801). DESIGN CHOICE, log entry 2. -/
def cWM : Word := 0

/-- `P.wdcMax`, at least `cWDC = 7` (10_state.md R67). DESIGN CHOICE, log entry 2. -/
def wdcMax : Word := 7

/-- `P.pulseMicros`, the pulse of `IT` in microseconds, 1 to 100 (10_state.md R64). DESIGN CHOICE, log entry 2. -/
def pulseMicros : Nat := 1

/-- `P.timeOutInterval`, in pulses: a nominal tick of 40 milliseconds (60_exceptions.md R811). DESIGN CHOICE, log entry 2. -/
def timeOutInterval : Nat := 40000 / pulseMicros

/-- `P.hasMP`: the optional register `MP` is present (10_state.md R63). DESIGN CHOICE, log entry 2. -/
def hasMP : Bool := true

/-- `P.svSize`, the words software allots to a state vector, at least `cSV = 18`; the processor uses the first eighteen
(48_process_instructions.md R723, 60_exceptions.md R794). DESIGN CHOICE, log entry 2. -/
def svSize : Nat := 18

/-- `P.ioArea`, the place of `IOArea` in the first 64K words: unset, and used by no rule (20_memory.md R126). DESIGN CHOICE,
log entry 2. -/
def ioArea : Option LongWord := none

/-- `P.bootArea`, the size in words of the boot area that begins at virtual page zero: unset, and used by no rule
(70_reset_and_hazards.md R834). DESIGN CHOICE, log entry 2. -/
def bootArea : Option Nat := none

/-- `P.pid` (10_state.md R62); the first word must be zero. DESIGN CHOICE, log entry 2. -/
def pid : Vector Word 4 := Vector.replicate 4 0

/-- `Direction = {forward, backward}` of a bit block transfer (46_bitblt_txtblt.md R556). -/
inductive Direction where
  | forward
  | backward
  deriving DecidableEq, Repr

/-- `P.xPreference` (46_bitblt_txtblt.md R559, decision D16). DESIGN CHOICE, log entry 2. -/
def xPreference : Direction := .forward

/-- `P.yPreference` (46_bitblt_txtblt.md R559, decision D16). DESIGN CHOICE, log entry 2. -/
def yPreference : Direction := .forward

/-- FREE VALUE: the real page number that `ReadMap` returns for a vacant entry, "undefined" by 20_memory.md R107(b). -/
opaque vacantRealPage : Nat → BitVec 24

/-- FREE VALUE: the wakeups devices have posted in `WP` since the processor last sampled it (60_exceptions.md R800). -/
opaque wakeups : Nat → Word

/-- FREE VALUE: the pulses by which `IT` has advanced since the processor last sampled it (10_state.md R64). -/
opaque pulses : Nat → LongWord

end Sys2Proof.Config
end

