-- ==== Sys2Proof/Machine/State.lean ====
section
/-!
DEFINITION. Everything the spec gives the machine, as plain data, with the ways a step can stop and the events that
abort an instruction (10_state.md R40, R80; 00_scope.md R9, R10).
-/
namespace Sys2Proof.Machine

/-- One entry of the map: the three flags that exist and the real page number (20_memory.md R104, R105; decision D11
leaves out the reserved flags). -/
structure MapEntry where
  /-- the flag `protected`: stores into the page raise a write-protect fault -/
  writeProtect : Bool
  /-- the flag `dirty` -/
  dirty : Bool
  /-- the flag `referenced` -/
  referenced : Bool
  /-- the real page; 0 in a vacant entry, whose real page is undefined (20_memory.md R107) -/
  real : BitVec 24
  deriving DecidableEq, Repr

/-- One action of an I/O device (92_eei_decisions.md D9, 20_memory.md R113, R140, 60_exceptions.md R800). -/
inductive DeviceAction where
  /-- read the word at a virtual address; the Boolean says whether the access sets the map's flag, which the spec leaves open
  (91_not_in_source.md N3) -/
  | read (va : LongWord) (flags : Bool)
  /-- write the word at a virtual address; the Boolean says whether the access sets the map's flags -/
  | write (va : LongWord) (v : Word) (flags : Bool)
  /-- set bits of `WP` -/
  | wakeup (bits : Word)
  deriving DecidableEq, Repr

/-- The state of one Mesa processor with its map and real memory (10_state.md R40). -/
structure State where
  /-- `PSB`, the index of the current process (10_state.md R42) -/
  psb : BitVec 10
  /-- the high half of `MDS`; its low half is always zero (10_state.md R43) -/
  mds : Word
  /-- `LF` (10_state.md R44) -/
  lf : Word
  /-- `GF` (10_state.md R45) -/
  gf : Word
  /-- `CB` (10_state.md R46) -/
  cb : LongWord
  /-- `PC`, a byte offset from `CB` (10_state.md R47) -/
  pc : Word
  /-- the evaluation stack (10_state.md R50) -/
  stack : Vector Word 14
  /-- `SP`, 0 to 14 (10_state.md R52) -/
  sp : Fin 15
  /-- `PID`, read only (10_state.md R62) -/
  pid : Vector Word 4
  /-- `MP`, write only (10_state.md R63) -/
  mp : Word
  /-- `IT` as it was when the processor last sampled it (10_state.md R64) -/
  it : LongWord
  /-- `WM`, read only (10_state.md R65) -/
  wm : Word
  /-- `WP` as it was when the processor last sampled it (10_state.md R66) -/
  wp : Word
  /-- `WDC` (10_state.md R67) -/
  wdc : Word
  /-- `PTC` (10_state.md R68) -/
  ptc : Word
  /-- `XTS` (10_state.md R69) -/
  xts : Word
  /-- `break` (10_state.md R72) -/
  brk : Byte
  /-- `savedPC` (10_state.md R73) -/
  savedPC : Word
  /-- `savedSP` (10_state.md R73) -/
  savedSP : Fin 15
  /-- `running` (10_state.md R74) -/
  running : Bool
  /-- `time` (10_state.md R75) -/
  time : LongWord
  /-- the map: listed virtual pages, rising, none listed with its unlisted value (20_memory.md R104) -/
  map : List (Nat × MapEntry)
  /-- real memory: listed bytes, rising, none listed with its unlisted value (20_memory.md R101) -/
  mem : List Host.Cell
  /-- whether `Initialize` has performed the boot transfer (30_encoding.md R170, 70_reset_and_hazards.md R830) -/
  booted : Bool
  /-- the MODEL's own field: the index of the next free value (log entry 11) -/
  draw : Nat
  /-- the MODEL's own field, an INPUT: what the devices do in each of their turns to come, and then nothing. A turn comes before
  each step, each access of the processor to memory and each operation on the map (log entry 7) -/
  devices : List (List DeviceAction)
  deriving DecidableEq, Repr

/-- Why the machine is stuck: it has no next state (93_implementation_defined.md, "stuck"). -/
inductive Fault where
  /-- A trap's transfer traps, and so on for ever, without a handler ever running (R840's "loop"). Raised when an
  exception is delivered. Safe: the machine makes no progress either. -/
  | trapLoop
  /-- Faults taken inside process switches follow one another beyond the number of processes. Raised when an exception
  is delivered. Safe: the model stops. -/
  | faultLoop
  deriving DecidableEq, Repr

/-- Why an instruction is refused: the `Illegal` outcome of decision D4, one name for each condition. -/
inductive Refusal where
  /-- The instruction has no meaning yet. Raised by `exec` only. Safe. -/
  | notModelled (mnemonic : String)
  /-- A first byte 0 or 255 was dispatched (30_encoding.md R173, U1). Safe. -/
  | reservedOpcode (opcode : Byte)
  /-- The operand of `ROB` or `WOB` is not 1 to 4 (40_map_register_instructions.md R205, R206). Safe. -/
  | overheadIndex (alpha : Byte)
  /-- The operand of `SHIFTSB` is not -15 to 15 (41_stack_instructions.md R266). Safe. -/
  | shiftCount (alpha : Byte)
  /-- A field specifier crosses the word (44_assign_string_field.md R481, U11). Safe. -/
  | fieldSpecifier (spec : Byte)
  /-- `SM` was given a real page that does not exist, or an access reached one through the map (20_memory.md R101, U8). Safe. -/
  | realPageAbsent (page : LongWord)
  /-- `SM` would map a second virtual page to one real page (20_memory.md R107, U3). Safe. -/
  | realPageShared (page : LongWord)
  /-- A chain of indirect control links does not end (47_control_transfers.md R613). Safe. -/
  | linkChain
  /-- A trap handler's link is indirect (47_control_transfers.md R610, R613, R767). Safe. -/
  | trapLinkIndirect
  /-- A chain of indirect allocation-vector items does not end (47_control_transfers.md R599). Safe. -/
  | frameListChain
  /-- An indirect allocation-vector item names a slot above 255 (47_control_transfers.md R599). Safe. -/
  | frameListSlot (item : Word)
  /-- An allocation-vector item has the unused tag (47_control_transfers.md R598). Safe. -/
  | frameListTag (item : Word)
  /-- A trap or fault inside `XE` (47_control_transfers.md R657). Safe. -/
  | abortInXE
  /-- A trap or fault inside the trap of `CheckForXferTraps` (60_exceptions.md R790). Safe. -/
  | abortInXferTrap
  /-- A fault inside `SaveProcess` (48_process_instructions.md R722). Safe. -/
  | abortInSaveProcess
  /-- A fault inside `LoadProcess` (48_process_instructions.md R723). Safe. -/
  | abortInLoadProcess
  /-- A fault inside the fault routine's own accesses to the PDA (60_exceptions.md R798(b)). Safe. -/
  | abortInFault
  /-- A trap or fault inside the boot transfer (70_reset_and_hazards.md R835, U25). Safe. -/
  | abortInBoot
  /-- A state vector's stack pointer exceeds 14 (47_control_transfers.md R653, U17). Safe. -/
  | stackPointer (stkptr : Byte)
  /-- The break byte is `BRK` itself (47_control_transfers.md R660, U18). Safe. -/
  | breakOnBreak
  /-- A monitor lock or condition on a write-protected page faults after the process was requeued or the monitor was
  exited (48_process_instructions.md R691, R693, U19). Safe. -/
  | queueWriteProtected
  /-- `Requeue` of the null process (48_process_instructions.md R700, U21, U28). Safe. -/
  | nullProcess
  /-- A search of a process queue does not end (48_process_instructions.md R701, U21). Safe. -/
  | queueSearch
  /-- A process is to leave a queue that it is not on (48_process_instructions.md R700, R701, 60_exceptions.md R798(a),
  U21). Safe. -/
  | notOnQueue
  /-- `PDA.count` reaches beyond the last PSB (60_exceptions.md R812, U22). Safe. -/
  | timeoutCount (count : Word)
  /-- `Exit` of a monitor that is not locked (48_process_instructions.md R692). Safe. -/
  | monitorNotLocked
  /-- No state vector is free (48_process_instructions.md R725). Safe. -/
  | noStateVector
  /-- A state vector's address is outside the PDA (48_process_instructions.md R674). Safe. -/
  | pdaOffset
  /-- An illegal `BITBLT` argument record or pointer (46_bitblt_txtblt.md R561, R562, U15). Safe. -/
  | bitBltArgument
  /-- A gray brick with `yOffset > heightMinusOne` (46_bitblt_txtblt.md R560, U14). Safe. -/
  | bitBltGrayOffset
  /-- `BITBLT` entered with neither one nor two words on the stack (46_bitblt_txtblt.md R565, U15). Safe. -/
  | bitBltStack
  /-- An illegal `TXTBLT` argument record or pointer (46_bitblt_txtblt.md R575, R576, U15). Safe. -/
  | txtBltArgument
  /-- `TXTBLT` would paint at a bit position above 32767, or at one that underflowed (46_bitblt_txtblt.md R577,
  00_scope.md R27). Safe. -/
  | txtBltPosition (offset : Word)
  deriving DecidableEq, Repr

/-- `XferType` (47_control_transfers.md R610). -/
inductive XferType where
  | ret
  | call
  | localCall
  | port
  | xfer
  | trap
  | processSwitch
  deriving DecidableEq, Repr

/-- `FaultIndex` of the three faults the processor raises (60_exceptions.md R794 to R797). -/
inductive FaultIndex where
  | frameFault
  | pageFault
  | writeProtectFault
  deriving DecidableEq, Repr

/-- What ends an instruction before its end: the argument of the trap or fault routine that will raise `Abort`
(00_scope.md R10, 60_exceptions.md R764, R790, R794), or a stop of the model. -/
inductive Abort where
  /-- `TrapZero(ptr)` -/
  | trapZero (ptr : Word)
  /-- `TrapOne(ptr, p)` -/
  | trapOne (ptr : Word) (p : Word)
  /-- `TrapTwo(ptr, p)` -/
  | trapTwo (ptr : Word) (p : LongWord)
  /-- the xfer trap, with its two parameters -/
  | xferTrap (dst : LongWord) (type : XferType)
  /-- `FaultOne(fi, p)` -/
  | faultOne (fi : FaultIndex) (p : Word)
  /-- `FaultTwo(fi, p)` -/
  | faultTwo (fi : FaultIndex) (p : LongWord)
  /-- the machine is stuck -/
  | stuck (f : Fault)
  /-- the model refuses -/
  | refuse (r : Refusal)
  deriving DecidableEq, Repr

/-- The machine after `Initialize` has assigned its registers and before its boot transfer: the table of 10_state.md
R80. Registers the table leaves unspecified hold zero (DESIGN CHOICE, log entry 1); nothing is listed in the map and in
memory (log entries 4 and 9), and no device acts (log entry 7). -/
def State.reset : State where
  psb := 0
  mds := 0
  lf := 0
  gf := 0
  cb := 0
  pc := 0
  stack := Vector.replicate 14 0
  sp := 0
  pid := Config.pid
  mp := 0
  it := 0
  wm := Config.cWM
  wp := 0
  wdc := 1
  ptc := 0
  xts := 0
  brk := 0
  savedPC := 0
  savedSP := 0
  running := true
  time := 0
  map := []
  mem := []
  booted := false
  draw := 0
  devices := []

end Sys2Proof.Machine
end

