-- ==== Sys2Proof/Machine/Memory.lean ====
section
/-!
DEFINITION. Sparse tables in one canonical form, and with them the map and real memory (20_memory.md R101, R104 to R108,
R120). Addresses of real memory are word addresses; a word's two bytes are held at the byte keys `2 * a` (left, most
significant) and `2 * a + 1` (right) (log entry 8).
-/
namespace Sys2Proof.Machine

/-- What a table holds at a key: the listed value, else the unlisted one. -/
def tableGet {α : Type} (unlisted : Nat → α) (t : List (Nat × α)) (key : Nat) : α :=
  match t with
  | [] => unlisted key
  | (k, v) :: rest => if k = key then v else tableGet unlisted rest key

/-- Put a value at a key, keeping the form: keys rising, nothing listed with its unlisted value. -/
def tablePut {α : Type} [DecidableEq α] (unlisted : Nat → α) (t : List (Nat × α)) (key : Nat) (value : α) :
    List (Nat × α) :=
  match t with
  | [] => if value = unlisted key then [] else [(key, value)]
  | (k, v) :: rest =>
    if key < k then (if value = unlisted key then (k, v) :: rest else (key, value) :: (k, v) :: rest)
    else if k = key then (if value = unlisted key then rest else (key, value) :: rest)
    else (k, v) :: tablePut unlisted rest key value

/-- The canonical form from a lowest key on, below a size: keys strictly rising, no entry equal to its unlisted value. -/
def tableWfFrom {α : Type} [DecidableEq α] (unlisted : Nat → α) (size low : Nat) (t : List (Nat × α)) : Bool :=
  match t with
  | [] => true
  | (k, v) :: rest =>
    decide (low ≤ k) && decide (k < size) && !decide (v = unlisted k) && tableWfFrom unlisted size (k + 1) rest

/-! ### Real memory -/

/-- What a byte of real memory that nothing has written reads as. DESIGN CHOICE, log entry 9 (70_reset_and_hazards.md R834
makes the contents at boot an input). -/
def unlistedByte (_ : Nat) : Byte := 0

/-- The byte keys that exist: two for each word of the real pages (20_memory.md R101). -/
def memoryBytes : Nat := 2 * (256 * Config.realPages)

/-- Real memory is in its canonical form. -/
def Memory.wf (m : List Host.Cell) : Bool := tableWfFrom unlistedByte memoryBytes 0 m

/-- The word at a real word address: its left byte is the most significant (20_memory.md R120). -/
def readReal (m : List Host.Cell) (a : Nat) : Word :=
  tableGet unlistedByte m (2 * a) ++ tableGet unlistedByte m (2 * a + 1)

/-- Store a word at a real word address. -/
def writeReal (m : List Host.Cell) (a : Nat) (v : Word) : List Host.Cell :=
  tablePut unlistedByte (tablePut unlistedByte m (2 * a) (v.extractLsb' 8 8)) (2 * a + 1) (v.extractLsb' 0 8)

/-! ### The map -/

/-- `Vacant(flags)`: protected and dirty and not referenced (20_memory.md R106). -/
def MapEntry.vacant (e : MapEntry) : Bool := e.writeProtect && e.dirty && !e.referenced

/-- The vacant entry; its real page is undefined and held as 0 (20_memory.md R107). -/
def vacantEntry : MapEntry := { writeProtect := true, dirty := true, referenced := false, real := 0 }

/-- The real page exists: it is in `P.realPages` (20_memory.md R101). -/
def realPageExists (page : BitVec 24) : Bool := page.toNat < Config.realPages

/-- The map at boot: every real page is mapped, at the virtual page of the same number, with its flags clear, and every
other entry is vacant. DESIGN CHOICE within 70_reset_and_hazards.md R833, log entry 4. -/
def unlistedEntry (vp : Nat) : MapEntry :=
  if vp < Config.realPages then
    { writeProtect := false, dirty := false, referenced := false, real := BitVec.ofNat 24 vp }
  else vacantEntry

/-- `ReadMap` (20_memory.md R104). Beyond `P.vmPages` the answer is vacant (decision D8). -/
def State.readMap (s : State) (vp : Nat) : MapEntry :=
  if vp < Config.vmPages then tableGet unlistedEntry s.map vp else vacantEntry

/-- `WriteMap` (20_memory.md R104): a vacant entry's real page is ignored (R107(c)); no effect beyond `P.vmPages` (D8). -/
def State.writeMap (s : State) (vp : Nat) (e : MapEntry) : State :=
  if vp < Config.vmPages then
    { s with map := tablePut unlistedEntry s.map vp (if e.vacant then vacantEntry else e) }
  else s

/-- Another virtual page is already mapped to the real page (20_memory.md R107(a)): a listed one, or the unlisted one
of the same number. -/
def State.realPageTaken (s : State) (vp : Nat) (real : BitVec 24) : Bool :=
  s.map.any (fun p => p.1 != vp && !p.2.vacant && p.2.real == real)
    || (real.toNat != vp && !(s.readMap real.toNat).vacant && (s.readMap real.toNat).real == real)

/-- `MapFlags` as a word: protected has value 4, dirty 2, referenced 1; the reserved bits read as zero
(20_memory.md R105, decision D11). -/
def MapEntry.flagsWord (e : MapEntry) : Word :=
  (if e.writeProtect then 4 else 0) ||| (if e.dirty then 2 else 0) ||| (if e.referenced then 1 else 0)

/-- The entry with the flags of a word and a real page; reserved bits are ignored (20_memory.md R105). -/
def entryOfFlags (flags : Word) (real : BitVec 24) : MapEntry :=
  { writeProtect := flags.getLsbD 2, dirty := flags.getLsbD 1, referenced := flags.getLsbD 0, real := real }

/-- The kind of a memory access (20_memory.md R110). -/
inductive Access where
  | read
  | write
  deriving DecidableEq, Repr

/-- `VirtualPageNumber` of an address (20_memory.md R102). -/
def pageOf (va : LongWord) : Nat := va.toNat / 256

/-- The real address of a virtual one, or the fault of the access (20_memory.md R110): vacant is tested before protected. A
real page that does not exist is refused (20_memory.md R101, U8, log entry 23). -/
def State.translate (s : State) (va : LongWord) (op : Access) : Except Abort Nat :=
  let e := s.readMap (pageOf va)
  if e.vacant then .error (.faultTwo .pageFault va)
  else if op = .write && e.writeProtect then .error (.faultTwo .writeProtectFault va)
  else if realPageExists e.real then .ok (e.real.toNat * 256 + va.toNat % 256)
  else .error (.refuse (.realPageAbsent (e.real.setWidth 32)))

/-- What a successful access does to the map: `referenced` is set, and by a store also `dirty` (20_memory.md R110). -/
def State.mark (s : State) (va : LongWord) (op : Access) : State :=
  let e := s.readMap (pageOf va)
  s.writeMap (pageOf va) { e with dirty := e.dirty || decide (op = .write), referenced := true }

end Sys2Proof.Machine
end

