-- ==== Sys2Proof/Syntax.lean ====
section
/-!
DEFINITION. The instructions, WHOLE: one constructor for each of the 343 rows of spec/opcode_table.json: first those with operand
fields, then those without, each in the table's order (Lean's compiler wants a constructor with fields among the first 244).
Operand fields are those of the table: `alpha`, `beta` bytes; `word` a 16-bit operand, high byte first; `left`, `right`
the nibbles of a pair byte; `pos`, `size` a field specifier (30_encoding.md R161, R168). An instruction whose `n` is
built into the opcode is a constructor per value of `n`. The prefixes `ESC` and `ESCL` stand for that prefix followed by
a second byte assigned to no instruction of that prefix (30_encoding.md R171, R174). `REC` and `REC2` are `recover` and
`recover2`, since `Instr.rec` is a name Lean makes itself, and `CATCH` is `catchByte`, since `catch` is a word of Lean.
-/
namespace Sys2Proof

/-- One instruction of the Mesa processor (30_encoding.md R177, R179). -/
inductive Instr where
  /-- `LLB`, format OPA (43_assign_immediate_frame_pointer.md R385). -/
  | llb (alpha : Byte)
  /-- `LLDB`, format OPA (43_assign_immediate_frame_pointer.md R387). -/
  | lldb (alpha : Byte)
  /-- `SLB`, format OPA (43_assign_immediate_frame_pointer.md R389). -/
  | slb (alpha : Byte)
  /-- `PLB`, format OPA (43_assign_immediate_frame_pointer.md R394). -/
  | plb (alpha : Byte)
  /-- `PLDB`, format OPA (43_assign_immediate_frame_pointer.md R396). -/
  | pldb (alpha : Byte)
  /-- `LGB`, format OPA (43_assign_immediate_frame_pointer.md R403). -/
  | lgb (alpha : Byte)
  /-- `LGDB`, format OPA (43_assign_immediate_frame_pointer.md R405). -/
  | lgdb (alpha : Byte)
  /-- `SGB`, format OPA (43_assign_immediate_frame_pointer.md R406). -/
  | sgb (alpha : Byte)
  /-- `RB`, format OPA (43_assign_immediate_frame_pointer.md R411). -/
  | rb (alpha : Byte)
  /-- `RLB`, format OPA (43_assign_immediate_frame_pointer.md R413). -/
  | rlb (alpha : Byte)
  /-- `RDB`, format OPA (43_assign_immediate_frame_pointer.md R415). -/
  | rdb (alpha : Byte)
  /-- `RDLB`, format OPA (43_assign_immediate_frame_pointer.md R417). -/
  | rdlb (alpha : Byte)
  /-- `WB`, format OPA (43_assign_immediate_frame_pointer.md R421). -/
  | wb (alpha : Byte)
  /-- `PSB`, format OPA (43_assign_immediate_frame_pointer.md R426). -/
  | psb (alpha : Byte)
  /-- `WLB`, format OPA (43_assign_immediate_frame_pointer.md R422). -/
  | wlb (alpha : Byte)
  /-- `PSLB`, format OPA (43_assign_immediate_frame_pointer.md R429). -/
  | pslb (alpha : Byte)
  /-- `WDB`, format OPA (43_assign_immediate_frame_pointer.md R423). -/
  | wdb (alpha : Byte)
  /-- `PSDB`, format OPA (43_assign_immediate_frame_pointer.md R428). -/
  | psdb (alpha : Byte)
  /-- `WDLB`, format OPA (43_assign_immediate_frame_pointer.md R424). -/
  | wdlb (alpha : Byte)
  /-- `PSDLB`, format OPA (43_assign_immediate_frame_pointer.md R430). -/
  | psdlb (alpha : Byte)
  /-- `RLIP`, format OPA (43_assign_immediate_frame_pointer.md R441). -/
  | rlip (left : Nibble) (right : Nibble)
  /-- `RLILP`, format OPA (43_assign_immediate_frame_pointer.md R442). -/
  | rlilp (left : Nibble) (right : Nibble)
  /-- `RLDIP`, format OPA (43_assign_immediate_frame_pointer.md R446). -/
  | rldip (left : Nibble) (right : Nibble)
  /-- `RLDILP`, format OPA (43_assign_immediate_frame_pointer.md R447). -/
  | rldilp (left : Nibble) (right : Nibble)
  /-- `RGIP`, format OPA (43_assign_immediate_frame_pointer.md R443). -/
  | rgip (left : Nibble) (right : Nibble)
  /-- `RGILP`, format OPA (43_assign_immediate_frame_pointer.md R444). -/
  | rgilp (left : Nibble) (right : Nibble)
  /-- `WLIP`, format OPA (43_assign_immediate_frame_pointer.md R450). -/
  | wlip (left : Nibble) (right : Nibble)
  /-- `WLILP`, format OPA (43_assign_immediate_frame_pointer.md R451). -/
  | wlilp (left : Nibble) (right : Nibble)
  /-- `WLDILP`, format OPA (43_assign_immediate_frame_pointer.md R452). -/
  | wldilp (left : Nibble) (right : Nibble)
  /-- `RS`, format OPA (44_assign_string_field.md R472). -/
  | rs (alpha : Byte)
  /-- `RLS`, format OPA (44_assign_string_field.md R473). -/
  | rls (alpha : Byte)
  /-- `WS`, format OPA (44_assign_string_field.md R474). -/
  | ws (alpha : Byte)
  /-- `WLS`, format OPA (44_assign_string_field.md R475). -/
  | wls (alpha : Byte)
  /-- `R0F`, format OPA (44_assign_string_field.md R484). -/
  | r0f (pos : Nibble) (size : Nibble)
  /-- `RF`, format OPAB (44_assign_string_field.md R483). -/
  | rf (alpha : Byte) (pos : Nibble) (size : Nibble)
  /-- `RL0F`, format OPA (44_assign_string_field.md R486). -/
  | rl0f (pos : Nibble) (size : Nibble)
  /-- `RLF`, format OPAB (44_assign_string_field.md R485). -/
  | rlf (alpha : Byte) (pos : Nibble) (size : Nibble)
  /-- `RLIPF`, format OPAB (44_assign_string_field.md R489). -/
  | rlipf (left : Nibble) (right : Nibble) (pos : Nibble) (size : Nibble)
  /-- `RLILPF`, format OPAB (44_assign_string_field.md R490). -/
  | rlilpf (left : Nibble) (right : Nibble) (pos : Nibble) (size : Nibble)
  /-- `W0F`, format OPA (44_assign_string_field.md R492). -/
  | w0f (pos : Nibble) (size : Nibble)
  /-- `WF`, format OPAB (44_assign_string_field.md R491). -/
  | wf (alpha : Byte) (pos : Nibble) (size : Nibble)
  /-- `PSF`, format OPAB (44_assign_string_field.md R499). -/
  | psf (alpha : Byte) (pos : Nibble) (size : Nibble)
  /-- `PS0F`, format OPA (44_assign_string_field.md R498). -/
  | ps0f (pos : Nibble) (size : Nibble)
  /-- `WS0F`, format OPA (44_assign_string_field.md R497). -/
  | ws0f (pos : Nibble) (size : Nibble)
  /-- `WL0F`, format OPA (44_assign_string_field.md R494). -/
  | wl0f (pos : Nibble) (size : Nibble)
  /-- `WLF`, format OPAB (44_assign_string_field.md R493). -/
  | wlf (alpha : Byte) (pos : Nibble) (size : Nibble)
  /-- `PSLF`, format OPAB (44_assign_string_field.md R500). -/
  | pslf (alpha : Byte) (pos : Nibble) (size : Nibble)
  /-- `SLDB`, format OPA (43_assign_immediate_frame_pointer.md R391). -/
  | sldb (alpha : Byte)
  /-- `SGDB`, format OPA (43_assign_immediate_frame_pointer.md R407). -/
  | sgdb (alpha : Byte)
  /-- `LLKB`, format OPA (47_control_transfers.md R631). -/
  | llkb (alpha : Byte)
  /-- `RKIB`, format OPA (47_control_transfers.md R632). -/
  | rkib (alpha : Byte)
  /-- `RKDIB`, format OPA (47_control_transfers.md R633). -/
  | rkdib (alpha : Byte)
  /-- `LKB`, format OPA (47_control_transfers.md R622). -/
  | lkb (alpha : Byte)
  /-- `SHIFTSB`, format OPA (41_stack_instructions.md R266). -/
  | shiftsb (alpha : Byte)
  /-- `CATCH`, format OPA (42_jump_instructions.md R316). -/
  | catchByte (alpha : Byte)
  /-- `JB`, format OPA (42_jump_instructions.md R313). -/
  | jb (alpha : Byte)
  /-- `JW`, format OPAB (42_jump_instructions.md R314). -/
  | jw (word : Word)
  /-- `JEP`, format OPA (42_jump_instructions.md R324). -/
  | jep (left : Nibble) (right : Nibble)
  /-- `JEB`, format OPA (42_jump_instructions.md R322). -/
  | jeb (alpha : Byte)
  /-- `JEBB`, format OPAB (42_jump_instructions.md R326). -/
  | jebb (alpha : Byte) (beta : Byte)
  /-- `JNEP`, format OPA (42_jump_instructions.md R325). -/
  | jnep (left : Nibble) (right : Nibble)
  /-- `JNEB`, format OPA (42_jump_instructions.md R323). -/
  | jneb (alpha : Byte)
  /-- `JNEBB`, format OPAB (42_jump_instructions.md R327). -/
  | jnebb (alpha : Byte) (beta : Byte)
  /-- `JLB`, format OPA (42_jump_instructions.md R330). -/
  | jlb (alpha : Byte)
  /-- `JGEB`, format OPA (42_jump_instructions.md R333). -/
  | jgeb (alpha : Byte)
  /-- `JGB`, format OPA (42_jump_instructions.md R332). -/
  | jgb (alpha : Byte)
  /-- `JLEB`, format OPA (42_jump_instructions.md R331). -/
  | jleb (alpha : Byte)
  /-- `JULB`, format OPA (42_jump_instructions.md R334). -/
  | julb (alpha : Byte)
  /-- `JUGEB`, format OPA (42_jump_instructions.md R337). -/
  | jugeb (alpha : Byte)
  /-- `JUGB`, format OPA (42_jump_instructions.md R336). -/
  | jugb (alpha : Byte)
  /-- `JULEB`, format OPA (42_jump_instructions.md R335). -/
  | juleb (alpha : Byte)
  /-- `JZB`, format OPA (42_jump_instructions.md R320). -/
  | jzb (alpha : Byte)
  /-- `JNZB`, format OPA (42_jump_instructions.md R321). -/
  | jnzb (alpha : Byte)
  /-- `JDEB`, format OPA (42_jump_instructions.md R328). -/
  | jdeb (alpha : Byte)
  /-- `JDNEB`, format OPA (42_jump_instructions.md R329). -/
  | jdneb (alpha : Byte)
  /-- `JIB`, format OPAB (42_jump_instructions.md R340). -/
  | jib (word : Word)
  /-- `JIW`, format OPAB (42_jump_instructions.md R341). -/
  | jiw (word : Word)
  /-- `ADDSB`, format OPA (41_stack_instructions.md R260). -/
  | addsb (alpha : Byte)
  /-- `AL0IB`, format OPA (43_assign_immediate_frame_pointer.md R397). -/
  | al0ib (alpha : Byte)
  /-- `LIB`, format OPA (43_assign_immediate_frame_pointer.md R366). -/
  | lib (alpha : Byte)
  /-- `LIW`, format OPAB (43_assign_immediate_frame_pointer.md R369). -/
  | liw (word : Word)
  /-- `LINB`, format OPA (43_assign_immediate_frame_pointer.md R367). -/
  | linb (alpha : Byte)
  /-- `LIHB`, format OPA (43_assign_immediate_frame_pointer.md R368). -/
  | lihb (alpha : Byte)
  /-- `LAB`, format OPA (43_assign_immediate_frame_pointer.md R379). -/
  | lab (alpha : Byte)
  /-- `LAW`, format OPAB (43_assign_immediate_frame_pointer.md R380). -/
  | law (word : Word)
  /-- `GAB`, format OPA (43_assign_immediate_frame_pointer.md R400). -/
  | gab (alpha : Byte)
  /-- `GAW`, format OPAB (43_assign_immediate_frame_pointer.md R401). -/
  | gaw (word : Word)
  /-- `EFCB`, format OPA (47_control_transfers.md R619). -/
  | efcb (alpha : Byte)
  /-- `LFC`, format OPAB (47_control_transfers.md R616). -/
  | lfc (word : Word)
  /-- `KFCB`, format OPA (47_control_transfers.md R621). -/
  | kfcb (alpha : Byte)
  /-- `ESC`, format ESC (30_encoding.md R171). -/
  | esc (code : Byte)
  /-- `ESCL`, format ESCL (30_encoding.md R171). -/
  | escl (code : Byte)
  /-- `RC`, format ESCL (43_assign_immediate_frame_pointer.md R431). -/
  | rc (alpha : Byte)
  /-- `ROB`, format ESCL (40_map_register_instructions.md R205). -/
  | rob (alpha : Byte)
  /-- `WOB`, format ESCL (40_map_register_instructions.md R206). -/
  | wob (alpha : Byte)
  /-- `DSK`, format ESCL (47_control_transfers.md R654). -/
  | dsk (alpha : Byte)
  /-- `XE`, format ESCL (47_control_transfers.md R657). -/
  | xe (alpha : Byte)
  /-- `XF`, format ESCL (47_control_transfers.md R656). -/
  | xf (alpha : Byte)
  /-- `LSK`, format ESCL (47_control_transfers.md R655). -/
  | lsk (alpha : Byte)
  /-- `LL0`, format OP (43_assign_immediate_frame_pointer.md R384). -/
  | ll0
  /-- `LL1`, format OP (43_assign_immediate_frame_pointer.md R384). -/
  | ll1
  /-- `LL2`, format OP (43_assign_immediate_frame_pointer.md R384). -/
  | ll2
  /-- `LL3`, format OP (43_assign_immediate_frame_pointer.md R384). -/
  | ll3
  /-- `LL4`, format OP (43_assign_immediate_frame_pointer.md R384). -/
  | ll4
  /-- `LL5`, format OP (43_assign_immediate_frame_pointer.md R384). -/
  | ll5
  /-- `LL6`, format OP (43_assign_immediate_frame_pointer.md R384). -/
  | ll6
  /-- `LL7`, format OP (43_assign_immediate_frame_pointer.md R384). -/
  | ll7
  /-- `LL8`, format OP (43_assign_immediate_frame_pointer.md R384). -/
  | ll8
  /-- `LL9`, format OP (43_assign_immediate_frame_pointer.md R384). -/
  | ll9
  /-- `LL10`, format OP (43_assign_immediate_frame_pointer.md R384). -/
  | ll10
  /-- `LL11`, format OP (43_assign_immediate_frame_pointer.md R384). -/
  | ll11
  /-- `LLD0`, format OP (43_assign_immediate_frame_pointer.md R386). -/
  | lld0
  /-- `LLD1`, format OP (43_assign_immediate_frame_pointer.md R386). -/
  | lld1
  /-- `LLD2`, format OP (43_assign_immediate_frame_pointer.md R386). -/
  | lld2
  /-- `LLD3`, format OP (43_assign_immediate_frame_pointer.md R386). -/
  | lld3
  /-- `LLD4`, format OP (43_assign_immediate_frame_pointer.md R386). -/
  | lld4
  /-- `LLD5`, format OP (43_assign_immediate_frame_pointer.md R386). -/
  | lld5
  /-- `LLD6`, format OP (43_assign_immediate_frame_pointer.md R386). -/
  | lld6
  /-- `LLD7`, format OP (43_assign_immediate_frame_pointer.md R386). -/
  | lld7
  /-- `LLD8`, format OP (43_assign_immediate_frame_pointer.md R386). -/
  | lld8
  /-- `LLD10`, format OP (43_assign_immediate_frame_pointer.md R386). -/
  | lld10
  /-- `SL0`, format OP (43_assign_immediate_frame_pointer.md R388). -/
  | sl0
  /-- `SL1`, format OP (43_assign_immediate_frame_pointer.md R388). -/
  | sl1
  /-- `SL2`, format OP (43_assign_immediate_frame_pointer.md R388). -/
  | sl2
  /-- `SL3`, format OP (43_assign_immediate_frame_pointer.md R388). -/
  | sl3
  /-- `SL4`, format OP (43_assign_immediate_frame_pointer.md R388). -/
  | sl4
  /-- `SL5`, format OP (43_assign_immediate_frame_pointer.md R388). -/
  | sl5
  /-- `SL6`, format OP (43_assign_immediate_frame_pointer.md R388). -/
  | sl6
  /-- `SL7`, format OP (43_assign_immediate_frame_pointer.md R388). -/
  | sl7
  /-- `SL8`, format OP (43_assign_immediate_frame_pointer.md R388). -/
  | sl8
  /-- `SL9`, format OP (43_assign_immediate_frame_pointer.md R388). -/
  | sl9
  /-- `SL10`, format OP (43_assign_immediate_frame_pointer.md R388). -/
  | sl10
  /-- `SLD0`, format OP (43_assign_immediate_frame_pointer.md R390). -/
  | sld0
  /-- `SLD1`, format OP (43_assign_immediate_frame_pointer.md R390). -/
  | sld1
  /-- `SLD2`, format OP (43_assign_immediate_frame_pointer.md R390). -/
  | sld2
  /-- `SLD3`, format OP (43_assign_immediate_frame_pointer.md R390). -/
  | sld3
  /-- `SLD4`, format OP (43_assign_immediate_frame_pointer.md R390). -/
  | sld4
  /-- `SLD5`, format OP (43_assign_immediate_frame_pointer.md R390). -/
  | sld5
  /-- `SLD6`, format OP (43_assign_immediate_frame_pointer.md R390). -/
  | sld6
  /-- `SLD8`, format OP (43_assign_immediate_frame_pointer.md R390). -/
  | sld8
  /-- `PL0`, format OP (43_assign_immediate_frame_pointer.md R393). -/
  | pl0
  /-- `PL1`, format OP (43_assign_immediate_frame_pointer.md R393). -/
  | pl1
  /-- `PL2`, format OP (43_assign_immediate_frame_pointer.md R393). -/
  | pl2
  /-- `PL3`, format OP (43_assign_immediate_frame_pointer.md R393). -/
  | pl3
  /-- `PLD0`, format OP (43_assign_immediate_frame_pointer.md R395). -/
  | pld0
  /-- `LG0`, format OP (43_assign_immediate_frame_pointer.md R402). -/
  | lg0
  /-- `LG1`, format OP (43_assign_immediate_frame_pointer.md R402). -/
  | lg1
  /-- `LG2`, format OP (43_assign_immediate_frame_pointer.md R402). -/
  | lg2
  /-- `LGD0`, format OP (43_assign_immediate_frame_pointer.md R404). -/
  | lgd0
  /-- `LGD2`, format OP (43_assign_immediate_frame_pointer.md R404). -/
  | lgd2
  /-- `BNDCK`, format OP (41_stack_instructions.md R250). -/
  | bndck
  /-- `BRK`, format OP (47_control_transfers.md R660). -/
  | brk
  /-- `R0`, format OP (43_assign_immediate_frame_pointer.md R410). -/
  | r0
  /-- `R1`, format OP (43_assign_immediate_frame_pointer.md R410). -/
  | r1
  /-- `RL0`, format OP (43_assign_immediate_frame_pointer.md R412). -/
  | rl0
  /-- `RD0`, format OP (43_assign_immediate_frame_pointer.md R414). -/
  | rd0
  /-- `RDL0`, format OP (43_assign_immediate_frame_pointer.md R416). -/
  | rdl0
  /-- `W0`, format OP (43_assign_immediate_frame_pointer.md R420). -/
  | w0
  /-- `PSD0`, format OP (43_assign_immediate_frame_pointer.md R427). -/
  | psd0
  /-- `RLI00`, format OP (43_assign_immediate_frame_pointer.md R440). -/
  | rli00
  /-- `RLI01`, format OP (43_assign_immediate_frame_pointer.md R440). -/
  | rli01
  /-- `RLI02`, format OP (43_assign_immediate_frame_pointer.md R440). -/
  | rli02
  /-- `RLI03`, format OP (43_assign_immediate_frame_pointer.md R440). -/
  | rli03
  /-- `RLDI00`, format OP (43_assign_immediate_frame_pointer.md R445). -/
  | rldi00
  /-- `RLFS`, format OP (44_assign_string_field.md R487). -/
  | rlfs
  /-- `WLFS`, format OP (44_assign_string_field.md R495). -/
  | wlfs
  /-- `SHIFT`, format OP (41_stack_instructions.md R274). -/
  | shift
  /-- `J2`, format OP (42_jump_instructions.md R312). -/
  | j2
  /-- `J3`, format OP (42_jump_instructions.md R312). -/
  | j3
  /-- `J4`, format OP (42_jump_instructions.md R312). -/
  | j4
  /-- `J5`, format OP (42_jump_instructions.md R312). -/
  | j5
  /-- `J6`, format OP (42_jump_instructions.md R312). -/
  | j6
  /-- `J7`, format OP (42_jump_instructions.md R312). -/
  | j7
  /-- `J8`, format OP (42_jump_instructions.md R312). -/
  | j8
  /-- `JZ3`, format OP (42_jump_instructions.md R318). -/
  | jz3
  /-- `JZ4`, format OP (42_jump_instructions.md R318). -/
  | jz4
  /-- `JNZ3`, format OP (42_jump_instructions.md R319). -/
  | jnz3
  /-- `JNZ4`, format OP (42_jump_instructions.md R319). -/
  | jnz4
  /-- `REC`, format OP (41_stack_instructions.md R241). -/
  | recover
  /-- `REC2`, format OP (41_stack_instructions.md R242). -/
  | recover2
  /-- `DIS`, format OP (41_stack_instructions.md R243). -/
  | dis
  /-- `DIS2`, format OP (41_stack_instructions.md R244). -/
  | dis2
  /-- `EXCH`, format OP (41_stack_instructions.md R245). -/
  | exch
  /-- `DEXCH`, format OP (41_stack_instructions.md R246). -/
  | dexch
  /-- `DUP`, format OP (41_stack_instructions.md R247). -/
  | dup
  /-- `DDUP`, format OP (41_stack_instructions.md R248). -/
  | ddup
  /-- `EXDIS`, format OP (41_stack_instructions.md R249). -/
  | exdis
  /-- `NEG`, format OP (41_stack_instructions.md R256). -/
  | neg
  /-- `INC`, format OP (41_stack_instructions.md R257). -/
  | inc
  /-- `DEC`, format OP (41_stack_instructions.md R259). -/
  | dec
  /-- `DINC`, format OP (41_stack_instructions.md R258). -/
  | dinc
  /-- `DBL`, format OP (41_stack_instructions.md R261). -/
  | dbl
  /-- `DDBL`, format OP (41_stack_instructions.md R262). -/
  | ddbl
  /-- `TRPL`, format OP (41_stack_instructions.md R263). -/
  | trpl
  /-- `AND`, format OP (41_stack_instructions.md R268). -/
  | and
  /-- `IOR`, format OP (41_stack_instructions.md R270). -/
  | ior
  /-- `ADD`, format OP (41_stack_instructions.md R280). -/
  | add
  /-- `SUB`, format OP (41_stack_instructions.md R281). -/
  | sub
  /-- `DADD`, format OP (41_stack_instructions.md R282). -/
  | dadd
  /-- `DSUB`, format OP (41_stack_instructions.md R283). -/
  | dsub
  /-- `ADC`, format OP (41_stack_instructions.md R284). -/
  | adc
  /-- `ACD`, format OP (41_stack_instructions.md R285). -/
  | acd
  /-- `MUL`, format OP (41_stack_instructions.md R286). -/
  | mul
  /-- `DCMP`, format OP (41_stack_instructions.md R300). -/
  | dcmp
  /-- `UDCMP`, format OP (41_stack_instructions.md R301). -/
  | udcmp
  /-- `LI0`, format OP (43_assign_immediate_frame_pointer.md R365). -/
  | li0
  /-- `LI1`, format OP (43_assign_immediate_frame_pointer.md R365). -/
  | li1
  /-- `LI2`, format OP (43_assign_immediate_frame_pointer.md R365). -/
  | li2
  /-- `LI3`, format OP (43_assign_immediate_frame_pointer.md R365). -/
  | li3
  /-- `LI4`, format OP (43_assign_immediate_frame_pointer.md R365). -/
  | li4
  /-- `LI5`, format OP (43_assign_immediate_frame_pointer.md R365). -/
  | li5
  /-- `LI6`, format OP (43_assign_immediate_frame_pointer.md R365). -/
  | li6
  /-- `LI7`, format OP (43_assign_immediate_frame_pointer.md R365). -/
  | li7
  /-- `LI8`, format OP (43_assign_immediate_frame_pointer.md R365). -/
  | li8
  /-- `LI9`, format OP (43_assign_immediate_frame_pointer.md R365). -/
  | li9
  /-- `LI10`, format OP (43_assign_immediate_frame_pointer.md R365). -/
  | li10
  /-- `LIN1`, format OP (43_assign_immediate_frame_pointer.md R362). -/
  | lin1
  /-- `LINI`, format OP (43_assign_immediate_frame_pointer.md R363). -/
  | lini
  /-- `LID0`, format OP (43_assign_immediate_frame_pointer.md R364). -/
  | lid0
  /-- `LA0`, format OP (43_assign_immediate_frame_pointer.md R378). -/
  | la0
  /-- `LA1`, format OP (43_assign_immediate_frame_pointer.md R378). -/
  | la1
  /-- `LA2`, format OP (43_assign_immediate_frame_pointer.md R378). -/
  | la2
  /-- `LA3`, format OP (43_assign_immediate_frame_pointer.md R378). -/
  | la3
  /-- `LA6`, format OP (43_assign_immediate_frame_pointer.md R378). -/
  | la6
  /-- `LA8`, format OP (43_assign_immediate_frame_pointer.md R378). -/
  | la8
  /-- `GA0`, format OP (43_assign_immediate_frame_pointer.md R399). -/
  | ga0
  /-- `GA1`, format OP (43_assign_immediate_frame_pointer.md R399). -/
  | ga1
  /-- `EFC0`, format OP (47_control_transfers.md R618). -/
  | efc0
  /-- `EFC1`, format OP (47_control_transfers.md R618). -/
  | efc1
  /-- `EFC2`, format OP (47_control_transfers.md R618). -/
  | efc2
  /-- `EFC3`, format OP (47_control_transfers.md R618). -/
  | efc3
  /-- `EFC4`, format OP (47_control_transfers.md R618). -/
  | efc4
  /-- `EFC5`, format OP (47_control_transfers.md R618). -/
  | efc5
  /-- `EFC6`, format OP (47_control_transfers.md R618). -/
  | efc6
  /-- `EFC7`, format OP (47_control_transfers.md R618). -/
  | efc7
  /-- `EFC8`, format OP (47_control_transfers.md R618). -/
  | efc8
  /-- `EFC9`, format OP (47_control_transfers.md R618). -/
  | efc9
  /-- `EFC10`, format OP (47_control_transfers.md R618). -/
  | efc10
  /-- `EFC11`, format OP (47_control_transfers.md R618). -/
  | efc11
  /-- `EFC12`, format OP (47_control_transfers.md R618). -/
  | efc12
  /-- `SFC`, format OP (47_control_transfers.md R620). -/
  | sfc
  /-- `RET`, format OP (47_control_transfers.md R623). -/
  | ret
  /-- `ME`, format OP (48_process_instructions.md R690). -/
  | me
  /-- `MX`, format OP (48_process_instructions.md R692). -/
  | mx
  /-- `BLT`, format OP (45_block_transfers.md R522). -/
  | blt
  /-- `BLTL`, format OP (45_block_transfers.md R523). -/
  | bltl
  /-- `BLTC`, format OP (45_block_transfers.md R525). -/
  | bltc
  /-- `BLTCL`, format OP (45_block_transfers.md R526). -/
  | bltcl
  /-- `LP`, format OP (40_map_register_instructions.md R204). -/
  | lp
  /-- `MW`, format ESC (48_process_instructions.md R693). -/
  | mw
  /-- `MR`, format ESC (48_process_instructions.md R694). -/
  | mr
  /-- `NC`, format ESC (48_process_instructions.md R695). -/
  | nc
  /-- `BC`, format ESC (48_process_instructions.md R696). -/
  | bc
  /-- `REQ`, format ESC (48_process_instructions.md R698). -/
  | req
  /-- `SM`, format ESC (40_map_register_instructions.md R201). -/
  | sm
  /-- `SMF`, format ESC (40_map_register_instructions.md R203). -/
  | smf
  /-- `GMF`, format ESC (40_map_register_instructions.md R202). -/
  | gmf
  /-- `AF`, format ESC (47_control_transfers.md R601). -/
  | af
  /-- `FF`, format ESC (47_control_transfers.md R602). -/
  | ff
  /-- `PI`, format ESC (47_control_transfers.md R628). -/
  | pi
  /-- `PO`, format ESC (47_control_transfers.md R626). -/
  | po
  /-- `POR`, format ESC (47_control_transfers.md R627). -/
  | por
  /-- `SPP`, format ESC (48_process_instructions.md R699). -/
  | spp
  /-- `DI`, format ESC (48_process_instructions.md R730). -/
  | di
  /-- `EI`, format ESC (48_process_instructions.md R731). -/
  | ei
  /-- `XOR`, format ESC (41_stack_instructions.md R272). -/
  | xor
  /-- `DAND`, format ESC (41_stack_instructions.md R269). -/
  | dand
  /-- `DIOR`, format ESC (41_stack_instructions.md R271). -/
  | dior
  /-- `DXOR`, format ESC (41_stack_instructions.md R273). -/
  | dxor
  /-- `ROTATE`, format ESC (41_stack_instructions.md R276). -/
  | rotate
  /-- `DSHIFT`, format ESC (41_stack_instructions.md R275). -/
  | dshift
  /-- `LINT`, format ESC (41_stack_instructions.md R264). -/
  | lint
  /-- `JS`, format ESC (42_jump_instructions.md R315). -/
  | js
  /-- `RCFS`, format ESC (44_assign_string_field.md R488). -/
  | rcfs
  /-- `UDIV`, format ESC (41_stack_instructions.md R290). -/
  | udiv
  /-- `LUDIV`, format ESC (41_stack_instructions.md R291). -/
  | ludiv
  /-- `BNDCKL`, format ESC (41_stack_instructions.md R251). -/
  | bndckl
  /-- `NILCK`, format ESC (49_listed_only_instructions.md R741). -/
  | nilck
  /-- `NILCKL`, format ESC (41_stack_instructions.md R252). -/
  | nilckl
  /-- `BLTLR`, format ESC (45_block_transfers.md R524). -/
  | bltlr
  /-- `BLEL`, format ESC (45_block_transfers.md R530). -/
  | blel
  /-- `BLECL`, format ESC (45_block_transfers.md R531). -/
  | blecl
  /-- `CKSUM`, format ESC (45_block_transfers.md R528). -/
  | cksum
  /-- `BITBLT`, format ESC (46_bitblt_txtblt.md R551). -/
  | bitblt
  /-- `TXTBLT`, format ESC (46_bitblt_txtblt.md R575). -/
  | txtblt
  /-- `BYTBLT`, format ESC (45_block_transfers.md R534). -/
  | bytblt
  /-- `BYTBLTR`, format ESC (45_block_transfers.md R535). -/
  | bytbltr
  /-- `VERSION`, format ESC (49_listed_only_instructions.md R742). -/
  | version
  /-- `DMUL`, format ESC (41_stack_instructions.md R287). -/
  | dmul
  /-- `SDIV`, format ESC (41_stack_instructions.md R289). -/
  | sdiv
  /-- `SDDIV`, format ESC (41_stack_instructions.md R292). -/
  | sddiv
  /-- `UDDIV`, format ESC (41_stack_instructions.md R293). -/
  | uddiv
  /-- `FADD`, format ESC (49_listed_only_instructions.md R744). -/
  | fadd
  /-- `FSUB`, format ESC (49_listed_only_instructions.md R744). -/
  | fsub
  /-- `FMUL`, format ESC (49_listed_only_instructions.md R744). -/
  | fmul
  /-- `FDIV`, format ESC (49_listed_only_instructions.md R744). -/
  | fdiv
  /-- `FCOMP`, format ESC (49_listed_only_instructions.md R744). -/
  | fcomp
  /-- `FIX`, format ESC (49_listed_only_instructions.md R744). -/
  | fix
  /-- `FLOAT`, format ESC (49_listed_only_instructions.md R744). -/
  | float
  /-- `FIXI`, format ESC (49_listed_only_instructions.md R744). -/
  | fixi
  /-- `FIXC`, format ESC (49_listed_only_instructions.md R744). -/
  | fixc
  /-- `FSTICKY`, format ESC (49_listed_only_instructions.md R744). -/
  | fsticky
  /-- `FREM`, format ESC (49_listed_only_instructions.md R744). -/
  | frem
  /-- `ROUND`, format ESC (49_listed_only_instructions.md R744). -/
  | round
  /-- `ROUNDI`, format ESC (49_listed_only_instructions.md R744). -/
  | roundi
  /-- `ROUNDC`, format ESC (49_listed_only_instructions.md R744). -/
  | roundc
  /-- `FSQRT`, format ESC (49_listed_only_instructions.md R744). -/
  | fsqrt
  /-- `FSC`, format ESC (49_listed_only_instructions.md R744). -/
  | fsc
  /-- `RECLAIMREF`, format ESC (49_listed_only_instructions.md R746). -/
  | reclaimref
  /-- `ALTERCOUNT`, format ESC (49_listed_only_instructions.md R746). -/
  | altercount
  /-- `RESETSTKBITS`, format ESC (49_listed_only_instructions.md R746). -/
  | resetstkbits
  /-- `GCSETUP`, format ESC (49_listed_only_instructions.md R746). -/
  | gcsetup
  /-- `a144`, format ESC (49_listed_only_instructions.md R746). -/
  | a144
  /-- `ENUMERATERECLAIMABLE`, format ESC (49_listed_only_instructions.md R746). -/
  | enumeratereclaimable
  /-- `a146`, format ESC (49_listed_only_instructions.md R746). -/
  | a146
  /-- `CREATEREF`, format ESC (49_listed_only_instructions.md R746). -/
  | createref
  /-- `a150`, format ESC (49_listed_only_instructions.md R746). -/
  | a150
  /-- `REFTYPE`, format ESC (49_listed_only_instructions.md R746). -/
  | reftype
  /-- `CANONICALREFTYPE`, format ESC (49_listed_only_instructions.md R746). -/
  | canonicalreftype
  /-- `ALLOCQUANTIZED`, format ESC (49_listed_only_instructions.md R746). -/
  | allocquantized
  /-- `ALLOCHEAP`, format ESC (49_listed_only_instructions.md R746). -/
  | allocheap
  /-- `FREEOBJECT`, format ESC (49_listed_only_instructions.md R746). -/
  | freeobject
  /-- `FREEQUANTIZED`, format ESC (49_listed_only_instructions.md R746). -/
  | freequantized
  /-- `FREEPREFIXED`, format ESC (49_listed_only_instructions.md R746). -/
  | freeprefixed
  /-- `WRPSB`, format ESC (40_map_register_instructions.md R225). -/
  | wrpsb
  /-- `WRMDS`, format ESC (40_map_register_instructions.md R224). -/
  | wrmds
  /-- `WRWP`, format ESC (40_map_register_instructions.md R230). -/
  | wrwp
  /-- `WRWDC`, format ESC (40_map_register_instructions.md R229). -/
  | wrwdc
  /-- `WRPTC`, format ESC (40_map_register_instructions.md R228). -/
  | wrptc
  /-- `WRIT`, format ESC (40_map_register_instructions.md R223). -/
  | writ
  /-- `WRXTS`, format ESC (40_map_register_instructions.md R231). -/
  | wrxts
  /-- `WRMP`, format ESC (40_map_register_instructions.md R227). -/
  | wrmp
  /-- `RRPSB`, format ESC (40_map_register_instructions.md R216). -/
  | rrpsb
  /-- `RRMDS`, format ESC (40_map_register_instructions.md R215). -/
  | rrmds
  /-- `RRWP`, format ESC (40_map_register_instructions.md R219). -/
  | rrwp
  /-- `RRWDC`, format ESC (40_map_register_instructions.md R218). -/
  | rrwdc
  /-- `RRPTC`, format ESC (40_map_register_instructions.md R217). -/
  | rrptc
  /-- `RRIT`, format ESC (40_map_register_instructions.md R214). -/
  | rrit
  /-- `RRXTS`, format ESC (40_map_register_instructions.md R220). -/
  | rrxts
  /-- `INPUT`, format ESC (49_listed_only_instructions.md R752). -/
  | input
  /-- `OUTPUT`, format ESC (49_listed_only_instructions.md R753). -/
  | output
  /-- `LOADRAMJ`, format ESC (49_listed_only_instructions.md R754). -/
  | loadramj
  /-- `BANDBLT`, format ESC (49_listed_only_instructions.md R755). -/
  | bandblt
  deriving DecidableEq, Repr

end Sys2Proof
end

