-- ==== Sys2Proof/WellFormed.lean ====
section
/-!
DEFINITION. Which instructions a legal program may contain. An instruction is well formed when it is what its encoding
stands for (the prefix constructors carry only second bytes that no instruction of the prefix has) and when no operand
is one that the spec calls illegal as an encoding (field specifiers, `SHIFTSB` counts, the operand of `ROB` and `WOB`).
-/
namespace Sys2Proof

/-- The second bytes assigned to instructions of `ESC`: the `a` codes (30_encoding.md R179). -/
def escAssigned (code : Byte) : Bool :=
  let c := code.toNat
  (0x02 ≤ c && c ≤ 0x1A) || c == 0x1C || c == 0x1D || (0x24 ≤ c && c ≤ 0x33) || (0x40 ≤ c && c ≤ 0x4F)
    || (0x60 ≤ c && c ≤ 0x7E) || (0x80 ≤ c && c ≤ 0x82) || c == 0xA0

/-- The second bytes assigned to instructions of `ESCL`: the `b` codes (30_encoding.md R179). -/
def esclAssigned (code : Byte) : Bool :=
  let c := code.toNat
  c == 0x1B || (0x1E ≤ c && c ≤ 0x23)

/-- A field specifier must not cross the word: `pos + size + 1 <= 16` (44_assign_string_field.md R481). -/
def fieldSpecLegal (pos size : Nibble) : Bool := pos.toNat + size.toNat + 1 ≤ 16

/-- The legal `alpha` of `SHIFTSB`: -15 to 15 in two's complement (41_stack_instructions.md R266). -/
def shiftCountLegal (alpha : Byte) : Bool := -15 ≤ alpha.toInt && alpha.toInt ≤ 15

/-- The legal operand of `ROB` and `WOB`: 1 to 4 (40_map_register_instructions.md R205, R206). -/
def overheadIndexLegal (alpha : Byte) : Bool := 1 ≤ alpha.toNat && alpha.toNat ≤ 4

/-- Whether the constructor's fields are ones that some encoding of it carries: every operand value is, but for the
second byte of the two prefix constructors (30_encoding.md R162, R171). -/
def Instr.encodable (i : Instr) : Bool :=
  match i with
  | .esc code => !escAssigned code
  | .escl code => !esclAssigned code
  | .ll0 | .ll1 | .ll2 | .ll3 | .ll4 | .ll5 | .ll6 | .ll7 | .ll8 | .ll9 | .ll10 | .ll11 | .llb _ | .lld0 | .lld1
  | .lld2 | .lld3 | .lld4 | .lld5 | .lld6 | .lld7 | .lld8 | .lld10 | .lldb _ | .sl0 | .sl1 | .sl2 | .sl3 | .sl4
  | .sl5 | .sl6 | .sl7 | .sl8 | .sl9 | .sl10 | .slb _ | .sld0 | .sld1 | .sld2 | .sld3 | .sld4 | .sld5 | .sld6
  | .sld8 | .pl0 | .pl1 | .pl2 | .pl3 | .plb _ | .pld0 | .pldb _ | .lg0 | .lg1 | .lg2 | .lgb _ | .lgd0 | .lgd2
  | .lgdb _ | .sgb _ | .bndck | .brk | .r0 | .r1 | .rb _ | .rl0 | .rlb _ | .rd0 | .rdb _ | .rdl0 | .rdlb _ | .w0
  | .wb _ | .psb _ | .wlb _ | .pslb _ | .wdb _ | .psd0 | .psdb _ | .wdlb _ | .psdlb _ | .rli00 | .rli01 | .rli02
  | .rli03 | .rlip _ _ | .rlilp _ _ | .rldi00 | .rldip _ _ | .rldilp _ _ | .rgip _ _ | .rgilp _ _ | .wlip _ _
  | .wlilp _ _ | .wldilp _ _ | .rs _ | .rls _ | .ws _ | .wls _ | .r0f _ _ | .rf _ _ _ | .rl0f _ _ | .rlf _ _ _
  | .rlfs | .rlipf _ _ _ _ | .rlilpf _ _ _ _ | .w0f _ _ | .wf _ _ _ | .psf _ _ _ | .ps0f _ _ | .ws0f _ _
  | .wl0f _ _ | .wlf _ _ _ | .pslf _ _ _ | .wlfs | .sldb _ | .sgdb _ | .llkb _ | .rkib _ | .rkdib _ | .lkb _
  | .shift | .shiftsb _ | .catchByte _ | .j2 | .j3 | .j4 | .j5 | .j6 | .j7 | .j8 | .jb _ | .jw _ | .jep _ _ | .jeb _
  | .jebb _ _ | .jnep _ _ | .jneb _ | .jnebb _ _ | .jlb _ | .jgeb _ | .jgb _ | .jleb _ | .julb _ | .jugeb _
  | .jugb _ | .juleb _ | .jz3 | .jz4 | .jzb _ | .jnz3 | .jnz4 | .jnzb _ | .jdeb _ | .jdneb _ | .jib _ | .jiw _
  | .recover | .recover2 | .dis | .dis2 | .exch | .dexch | .dup | .ddup | .exdis | .neg | .inc | .dec | .dinc
  | .dbl | .ddbl | .trpl | .and | .ior | .addsb _ | .add | .sub | .dadd | .dsub | .adc | .acd | .al0ib _ | .mul
  | .dcmp | .udcmp | .li0 | .li1 | .li2 | .li3 | .li4 | .li5 | .li6 | .li7 | .li8 | .li9 | .li10 | .lin1 | .lini
  | .lib _ | .liw _ | .linb _ | .lihb _ | .lid0 | .la0 | .la1 | .la2 | .la3 | .la6 | .la8 | .lab _ | .law _ | .ga0
  | .ga1 | .gab _ | .gaw _ | .efc0 | .efc1 | .efc2 | .efc3 | .efc4 | .efc5 | .efc6 | .efc7 | .efc8 | .efc9 | .efc10
  | .efc11 | .efc12 | .efcb _ | .lfc _ | .sfc | .ret | .kfcb _ | .me | .mx | .blt | .bltl | .bltc | .bltcl | .lp
  | .mw | .mr | .nc | .bc | .req | .sm | .smf | .gmf | .af | .ff | .pi | .po | .por | .spp | .di | .ei | .xor
  | .dand | .dior | .dxor | .rotate | .dshift | .lint | .js | .rcfs | .rc _ | .udiv | .ludiv | .rob _ | .wob _
  | .dsk _ | .xe _ | .xf _ | .lsk _ | .bndckl | .nilck | .nilckl | .bltlr | .blel | .blecl | .cksum | .bitblt
  | .txtblt | .bytblt | .bytbltr | .version | .dmul | .sdiv | .sddiv | .uddiv | .fadd | .fsub | .fmul | .fdiv
  | .fcomp | .fix | .float | .fixi | .fixc | .fsticky | .frem | .round | .roundi | .roundc | .fsqrt | .fsc
  | .reclaimref | .altercount | .resetstkbits | .gcsetup | .a144 | .enumeratereclaimable | .a146 | .createref
  | .a150 | .reftype | .canonicalreftype | .allocquantized | .allocheap | .freeobject | .freequantized
  | .freeprefixed | .wrpsb | .wrmds | .wrwp | .wrwdc | .wrptc | .writ | .wrxts | .wrmp | .rrpsb | .rrmds | .rrwp
  | .rrwdc | .rrptc | .rrit | .rrxts | .input | .output | .loadramj | .bandblt => true

/-- Well-formed instructions: encodable, and with no operand that the spec calls an illegal encoding. -/
def Instr.wellFormed (i : Instr) : Bool :=
  match i with
  | .esc code => !escAssigned code
  | .escl code => !esclAssigned code
  | .shiftsb alpha => shiftCountLegal alpha
  | .rob alpha | .wob alpha => overheadIndexLegal alpha
  | .r0f pos size | .rf _ pos size | .rl0f pos size | .rlf _ pos size | .rlipf _ _ pos size | .rlilpf _ _ pos size
  | .w0f pos size | .wf _ pos size | .psf _ pos size | .ps0f pos size | .ws0f pos size | .wl0f pos size
  | .wlf _ pos size | .pslf _ pos size => fieldSpecLegal pos size
  | .ll0 | .ll1 | .ll2 | .ll3 | .ll4 | .ll5 | .ll6 | .ll7 | .ll8 | .ll9 | .ll10 | .ll11 | .llb _ | .lld0 | .lld1
  | .lld2 | .lld3 | .lld4 | .lld5 | .lld6 | .lld7 | .lld8 | .lld10 | .lldb _ | .sl0 | .sl1 | .sl2 | .sl3 | .sl4
  | .sl5 | .sl6 | .sl7 | .sl8 | .sl9 | .sl10 | .slb _ | .sld0 | .sld1 | .sld2 | .sld3 | .sld4 | .sld5 | .sld6
  | .sld8 | .pl0 | .pl1 | .pl2 | .pl3 | .plb _ | .pld0 | .pldb _ | .lg0 | .lg1 | .lg2 | .lgb _ | .lgd0 | .lgd2
  | .lgdb _ | .sgb _ | .bndck | .brk | .r0 | .r1 | .rb _ | .rl0 | .rlb _ | .rd0 | .rdb _ | .rdl0 | .rdlb _ | .w0
  | .wb _ | .psb _ | .wlb _ | .pslb _ | .wdb _ | .psd0 | .psdb _ | .wdlb _ | .psdlb _ | .rli00 | .rli01 | .rli02
  | .rli03 | .rlip _ _ | .rlilp _ _ | .rldi00 | .rldip _ _ | .rldilp _ _ | .rgip _ _ | .rgilp _ _ | .wlip _ _
  | .wlilp _ _ | .wldilp _ _ | .rs _ | .rls _ | .ws _ | .wls _ | .rlfs | .wlfs | .sldb _ | .sgdb _ | .llkb _
  | .rkib _ | .rkdib _ | .lkb _ | .shift | .catchByte _ | .j2 | .j3 | .j4 | .j5 | .j6 | .j7 | .j8 | .jb _ | .jw _
  | .jep _ _ | .jeb _ | .jebb _ _ | .jnep _ _ | .jneb _ | .jnebb _ _ | .jlb _ | .jgeb _ | .jgb _ | .jleb _
  | .julb _ | .jugeb _ | .jugb _ | .juleb _ | .jz3 | .jz4 | .jzb _ | .jnz3 | .jnz4 | .jnzb _ | .jdeb _ | .jdneb _
  | .jib _ | .jiw _ | .recover | .recover2 | .dis | .dis2 | .exch | .dexch | .dup | .ddup | .exdis | .neg | .inc
  | .dec | .dinc | .dbl | .ddbl | .trpl | .and | .ior | .addsb _ | .add | .sub | .dadd | .dsub | .adc | .acd
  | .al0ib _ | .mul | .dcmp | .udcmp | .li0 | .li1 | .li2 | .li3 | .li4 | .li5 | .li6 | .li7 | .li8 | .li9 | .li10
  | .lin1 | .lini | .lib _ | .liw _ | .linb _ | .lihb _ | .lid0 | .la0 | .la1 | .la2 | .la3 | .la6 | .la8 | .lab _
  | .law _ | .ga0 | .ga1 | .gab _ | .gaw _ | .efc0 | .efc1 | .efc2 | .efc3 | .efc4 | .efc5 | .efc6 | .efc7 | .efc8
  | .efc9 | .efc10 | .efc11 | .efc12 | .efcb _ | .lfc _ | .sfc | .ret | .kfcb _ | .me | .mx | .blt | .bltl | .bltc
  | .bltcl | .lp | .mw | .mr | .nc | .bc | .req | .sm | .smf | .gmf | .af | .ff | .pi | .po | .por | .spp | .di
  | .ei | .xor | .dand | .dior | .dxor | .rotate | .dshift | .lint | .js | .rcfs | .rc _ | .udiv | .ludiv | .dsk _
  | .xe _ | .xf _ | .lsk _ | .bndckl | .nilck | .nilckl | .bltlr | .blel | .blecl | .cksum | .bitblt | .txtblt
  | .bytblt | .bytbltr | .version | .dmul | .sdiv | .sddiv | .uddiv | .fadd | .fsub | .fmul | .fdiv | .fcomp | .fix
  | .float | .fixi | .fixc | .fsticky | .frem | .round | .roundi | .roundc | .fsqrt | .fsc | .reclaimref
  | .altercount | .resetstkbits | .gcsetup | .a144 | .enumeratereclaimable | .a146 | .createref | .a150 | .reftype
  | .canonicalreftype | .allocquantized | .allocheap | .freeobject | .freequantized | .freeprefixed | .wrpsb
  | .wrmds | .wrwp | .wrwdc | .wrptc | .writ | .wrxts | .wrmp | .rrpsb | .rrmds | .rrwp | .rrwdc | .rrptc | .rrit
  | .rrxts | .input | .output | .loadramj | .bandblt => true

end Sys2Proof
end

