-- ==== Sys2Proof/Decode.lean ====
section
/-!
DEFINITION. The decoder, total on any bytes, and after it the encoder, both written from the opcode map of 30_encoding.md
R177 to R179 (the default of `P.opcodeMap`, decision D1). A byte sequence decodes to an instruction, or by name to an
unassigned first byte (which raises `OpcodeTrap`, R174), a reserved one (R173), or a sequence that is too short.
-/
namespace Sys2Proof

/-- `left` of a `NibblePair`, and `pos` of a field specifier: the high four bits (00_scope.md R16, 44_assign_string_field.md R480). -/
def hiNibble (b : Byte) : Nibble := b.extractLsb' 4 4

/-- `right` of a `NibblePair`, and `size` of a field specifier: the low four bits. -/
def loNibble (b : Byte) : Nibble := b.extractLsb' 0 4

/-- The byte whose `left` and `right` are given. -/
def nibblePair (left right : Nibble) : Byte := left ++ right

/-- The 16-bit operand `alpha * 256 + beta`, high byte first (30_encoding.md R165). -/
def codeWord (alpha beta : Byte) : Word := alpha ++ beta

/-- The high-order byte of a 16-bit operand. -/
def codeHigh (w : Word) : Byte := w.extractLsb' 8 8

/-- The low-order byte of a 16-bit operand. -/
def codeLow (w : Word) : Byte := w.extractLsb' 0 8

/-- What the opcode map says of a first byte: its format and the instruction it begins (30_encoding.md R161, R177). -/
inductive FirstByte where
  | op (i : Instr)
  | opa (f : Byte → Instr)
  | opab (f : Byte → Byte → Instr)
  | escape
  | escapeLong
  | unassigned
  | reserved

/-- What the opcode map says of a second byte: an `a` code belongs to `ESC`, a `b` code to `ESCL` (30_encoding.md R162, R179). -/
inductive SecondByte where
  | a (i : Instr)
  | b (f : Byte → Instr)
  | free

/-- First bytes (30_encoding.md R178), hexadecimal 00 to 0F. -/
def firstRow0 : List FirstByte :=
  [.reserved, .op .ll0, .op .ll1, .op .ll2, .op .ll3, .op .ll4, .op .ll5, .op .ll6, .op .ll7, .op .ll8, .op .ll9,
  .op .ll10, .op .ll11, .opa .llb, .op .lld0, .op .lld1]

/-- First bytes (30_encoding.md R178), hexadecimal 10 to 1F. -/
def firstRow1 : List FirstByte :=
  [.op .lld2, .op .lld3, .op .lld4, .op .lld5, .op .lld6, .op .lld7, .op .lld8, .op .lld10, .opa .lldb, .op .sl0,
  .op .sl1, .op .sl2, .op .sl3, .op .sl4, .op .sl5, .op .sl6]

/-- First bytes (30_encoding.md R178), hexadecimal 20 to 2F. -/
def firstRow2 : List FirstByte :=
  [.op .sl7, .op .sl8, .op .sl9, .op .sl10, .opa .slb, .op .sld0, .op .sld1, .op .sld2, .op .sld3, .op .sld4,
  .op .sld5, .op .sld6, .op .sld8, .op .pl0, .op .pl1, .op .pl2]

/-- First bytes (30_encoding.md R178), hexadecimal 30 to 3F. -/
def firstRow3 : List FirstByte :=
  [.op .pl3, .opa .plb, .op .pld0, .opa .pldb, .op .lg0, .op .lg1, .op .lg2, .opa .lgb, .op .lgd0, .op .lgd2,
  .opa .lgdb, .opa .sgb, .op .bndck, .op .brk, .op .r0, .op .r1]

/-- First bytes (30_encoding.md R178), hexadecimal 40 to 4F. -/
def firstRow4 : List FirstByte :=
  [.opa .rb, .op .rl0, .opa .rlb, .op .rd0, .opa .rdb, .op .rdl0, .opa .rdlb, .op .w0, .opa .wb, .opa .psb,
  .opa .wlb, .opa .pslb, .opa .wdb, .op .psd0, .opa .psdb, .opa .wdlb]

/-- First bytes (30_encoding.md R178), hexadecimal 50 to 5F. -/
def firstRow5 : List FirstByte :=
  [.opa .psdlb, .op .rli00, .op .rli01, .op .rli02, .op .rli03, .opa (fun a => .rlip (hiNibble a) (loNibble a)),
  .opa (fun a => .rlilp (hiNibble a) (loNibble a)), .op .rldi00, .opa (fun a => .rldip (hiNibble a) (loNibble a)),
  .opa (fun a => .rldilp (hiNibble a) (loNibble a)), .opa (fun a => .rgip (hiNibble a) (loNibble a)),
  .opa (fun a => .rgilp (hiNibble a) (loNibble a)), .opa (fun a => .wlip (hiNibble a) (loNibble a)),
  .opa (fun a => .wlilp (hiNibble a) (loNibble a)), .opa (fun a => .wldilp (hiNibble a) (loNibble a)), .opa .rs]

/-- First bytes (30_encoding.md R178), hexadecimal 60 to 6F. -/
def firstRow6 : List FirstByte :=
  [.opa .rls, .opa .ws, .opa .wls, .opa (fun a => .r0f (hiNibble a) (loNibble a)),
  .opab (fun a b => .rf a (hiNibble b) (loNibble b)), .opa (fun a => .rl0f (hiNibble a) (loNibble a)),
  .opab (fun a b => .rlf a (hiNibble b) (loNibble b)), .op .rlfs,
  .opab (fun a b => .rlipf (hiNibble a) (loNibble a) (hiNibble b) (loNibble b)),
  .opab (fun a b => .rlilpf (hiNibble a) (loNibble a) (hiNibble b) (loNibble b)),
  .opa (fun a => .w0f (hiNibble a) (loNibble a)), .opab (fun a b => .wf a (hiNibble b) (loNibble b)),
  .opab (fun a b => .psf a (hiNibble b) (loNibble b)), .opa (fun a => .ps0f (hiNibble a) (loNibble a)),
  .opa (fun a => .ws0f (hiNibble a) (loNibble a)), .opa (fun a => .wl0f (hiNibble a) (loNibble a))]

/-- First bytes (30_encoding.md R178), hexadecimal 70 to 7F. -/
def firstRow7 : List FirstByte :=
  [.opab (fun a b => .wlf a (hiNibble b) (loNibble b)), .opab (fun a b => .pslf a (hiNibble b) (loNibble b)),
  .op .wlfs, .opa .sldb, .opa .sgdb, .opa .llkb, .opa .rkib, .opa .rkdib, .opa .lkb, .op .shift, .opa .shiftsb,
  .unassigned, .unassigned, .unassigned, .unassigned, .unassigned]

/-- First bytes (30_encoding.md R178), hexadecimal 80 to 8F. -/
def firstRow8 : List FirstByte :=
  [.opa .catchByte, .op .j2, .op .j3, .op .j4, .op .j5, .op .j6, .op .j7, .op .j8, .opa .jb,
  .opab (fun a b => .jw (codeWord a b)), .opa (fun a => .jep (hiNibble a) (loNibble a)), .opa .jeb, .opab .jebb,
  .opa (fun a => .jnep (hiNibble a) (loNibble a)), .opa .jneb, .opab .jnebb]

/-- First bytes (30_encoding.md R178), hexadecimal 90 to 9F. -/
def firstRow9 : List FirstByte :=
  [.opa .jlb, .opa .jgeb, .opa .jgb, .opa .jleb, .opa .julb, .opa .jugeb, .opa .jugb, .opa .juleb, .op .jz3,
  .op .jz4, .opa .jzb, .op .jnz3, .op .jnz4, .opa .jnzb, .opa .jdeb, .opa .jdneb]

/-- First bytes (30_encoding.md R178), hexadecimal A0 to AF. -/
def firstRowA : List FirstByte :=
  [.opab (fun a b => .jib (codeWord a b)), .opab (fun a b => .jiw (codeWord a b)), .op .recover, .op .recover2,
  .op .dis, .op .dis2, .op .exch, .op .dexch, .op .dup, .op .ddup, .op .exdis, .op .neg, .op .inc, .op .dec,
  .op .dinc, .op .dbl]

/-- First bytes (30_encoding.md R178), hexadecimal B0 to BF. -/
def firstRowB : List FirstByte :=
  [.op .ddbl, .op .trpl, .op .and, .op .ior, .opa .addsb, .op .add, .op .sub, .op .dadd, .op .dsub, .op .adc,
  .op .acd, .opa .al0ib, .op .mul, .op .dcmp, .op .udcmp, .unassigned]

/-- First bytes (30_encoding.md R178), hexadecimal C0 to CF. -/
def firstRowC : List FirstByte :=
  [.op .li0, .op .li1, .op .li2, .op .li3, .op .li4, .op .li5, .op .li6, .op .li7, .op .li8, .op .li9, .op .li10,
  .op .lin1, .op .lini, .opa .lib, .opab (fun a b => .liw (codeWord a b)), .opa .linb]

/-- First bytes (30_encoding.md R178), hexadecimal D0 to DF. -/
def firstRowD : List FirstByte :=
  [.opa .lihb, .op .lid0, .op .la0, .op .la1, .op .la2, .op .la3, .op .la6, .op .la8, .opa .lab,
  .opab (fun a b => .law (codeWord a b)), .op .ga0, .op .ga1, .opa .gab, .opab (fun a b => .gaw (codeWord a b)),
  .unassigned, .op .efc0]

/-- First bytes (30_encoding.md R178), hexadecimal E0 to EF. -/
def firstRowE : List FirstByte :=
  [.op .efc1, .op .efc2, .op .efc3, .op .efc4, .op .efc5, .op .efc6, .op .efc7, .op .efc8, .op .efc9, .op .efc10,
  .op .efc11, .op .efc12, .opa .efcb, .opab (fun a b => .lfc (codeWord a b)), .op .sfc, .op .ret]

/-- First bytes (30_encoding.md R178), hexadecimal F0 to FF. -/
def firstRowF : List FirstByte :=
  [.opa .kfcb, .op .me, .op .mx, .op .blt, .op .bltl, .op .bltc, .op .bltcl, .op .lp, .escape, .escapeLong,
  .unassigned, .unassigned, .unassigned, .unassigned, .unassigned, .reserved]

/-- Second bytes (30_encoding.md R179), hexadecimal 00 to 0F. -/
def secondRow0 : List SecondByte :=
  [.free, .free, .a .mw, .a .mr, .a .nc, .a .bc, .a .req, .a .sm, .a .smf, .a .gmf, .a .af, .a .ff, .a .pi, .a .po,
  .a .por, .a .spp]

/-- Second bytes (30_encoding.md R179), hexadecimal 10 to 1F. -/
def secondRow1 : List SecondByte :=
  [.a .di, .a .ei, .a .xor, .a .dand, .a .dior, .a .dxor, .a .rotate, .a .dshift, .a .lint, .a .js, .a .rcfs,
  .b .rc, .a .udiv, .a .ludiv, .b .rob, .b .wob]

/-- Second bytes (30_encoding.md R179), hexadecimal 20 to 2F. -/
def secondRow2 : List SecondByte :=
  [.b .dsk, .b .xe, .b .xf, .b .lsk, .a .bndckl, .a .nilck, .a .nilckl, .a .bltlr, .a .blel, .a .blecl, .a .cksum,
  .a .bitblt, .a .txtblt, .a .bytblt, .a .bytbltr, .a .version]

/-- Second bytes (30_encoding.md R179), hexadecimal 30 to 3F. -/
def secondRow3 : List SecondByte :=
  [.a .dmul, .a .sdiv, .a .sddiv, .a .uddiv, .free, .free, .free, .free, .free, .free, .free, .free, .free, .free,
  .free, .free]

/-- Second bytes (30_encoding.md R179), hexadecimal 40 to 4F. -/
def secondRow4 : List SecondByte :=
  [.a .fadd, .a .fsub, .a .fmul, .a .fdiv, .a .fcomp, .a .fix, .a .float, .a .fixi, .a .fixc, .a .fsticky,
  .a .frem, .a .round, .a .roundi, .a .roundc, .a .fsqrt, .a .fsc]

/-- Second bytes (30_encoding.md R179), hexadecimal 50 to 5F. -/
def secondRow5 : List SecondByte :=
  [.free, .free, .free, .free, .free, .free, .free, .free, .free, .free, .free, .free, .free, .free, .free, .free]

/-- Second bytes (30_encoding.md R179), hexadecimal 60 to 6F. -/
def secondRow6 : List SecondByte :=
  [.a .reclaimref, .a .altercount, .a .resetstkbits, .a .gcsetup, .a .a144, .a .enumeratereclaimable, .a .a146,
  .a .createref, .a .a150, .a .reftype, .a .canonicalreftype, .a .allocquantized, .a .allocheap, .a .freeobject,
  .a .freequantized, .a .freeprefixed]

/-- Second bytes (30_encoding.md R179), hexadecimal 70 to 7F. -/
def secondRow7 : List SecondByte :=
  [.a .wrpsb, .a .wrmds, .a .wrwp, .a .wrwdc, .a .wrptc, .a .writ, .a .wrxts, .a .wrmp, .a .rrpsb, .a .rrmds,
  .a .rrwp, .a .rrwdc, .a .rrptc, .a .rrit, .a .rrxts, .free]

/-- Second bytes (30_encoding.md R179), hexadecimal 80 to 8F. -/
def secondRow8 : List SecondByte :=
  [.a .input, .a .output, .a .loadramj, .free, .free, .free, .free, .free, .free, .free, .free, .free, .free,
  .free, .free, .free]

/-- Second bytes (30_encoding.md R179), hexadecimal 90 to 9F. -/
def secondRow9 : List SecondByte :=
  [.free, .free, .free, .free, .free, .free, .free, .free, .free, .free, .free, .free, .free, .free, .free, .free]

/-- Second bytes (30_encoding.md R179), hexadecimal A0 to AF. -/
def secondRowA : List SecondByte :=
  [.a .bandblt, .free, .free, .free, .free, .free, .free, .free, .free, .free, .free, .free, .free, .free, .free,
  .free]

/-- Second bytes (30_encoding.md R179), hexadecimal B0 to BF. -/
def secondRowB : List SecondByte :=
  [.free, .free, .free, .free, .free, .free, .free, .free, .free, .free, .free, .free, .free, .free, .free, .free]

/-- Second bytes (30_encoding.md R179), hexadecimal C0 to CF. -/
def secondRowC : List SecondByte :=
  [.free, .free, .free, .free, .free, .free, .free, .free, .free, .free, .free, .free, .free, .free, .free, .free]

/-- Second bytes (30_encoding.md R179), hexadecimal D0 to DF. -/
def secondRowD : List SecondByte :=
  [.free, .free, .free, .free, .free, .free, .free, .free, .free, .free, .free, .free, .free, .free, .free, .free]

/-- Second bytes (30_encoding.md R179), hexadecimal E0 to EF. -/
def secondRowE : List SecondByte :=
  [.free, .free, .free, .free, .free, .free, .free, .free, .free, .free, .free, .free, .free, .free, .free, .free]

/-- Second bytes (30_encoding.md R179), hexadecimal F0 to FF. -/
def secondRowF : List SecondByte :=
  [.free, .free, .free, .free, .free, .free, .free, .free, .free, .free, .free, .free, .free, .free, .free, .free]

/-- The one-byte opcode map: entry `n` is the first byte `n` (30_encoding.md R178). -/
def firstMap : List FirstByte :=
  firstRow0 ++ firstRow1 ++ firstRow2 ++ firstRow3 ++ firstRow4 ++ firstRow5 ++ firstRow6 ++ firstRow7
    ++ firstRow8 ++ firstRow9 ++ firstRowA ++ firstRowB ++ firstRowC ++ firstRowD ++ firstRowE ++ firstRowF

/-- The escape opcode map: entry `n` is the second byte `n` (30_encoding.md R179). -/
def secondMap : List SecondByte :=
  secondRow0 ++ secondRow1 ++ secondRow2 ++ secondRow3 ++ secondRow4 ++ secondRow5 ++ secondRow6 ++ secondRow7
    ++ secondRow8 ++ secondRow9 ++ secondRowA ++ secondRowB ++ secondRowC ++ secondRowD ++ secondRowE ++ secondRowF

/-- A value of the parameter `P.opcodeMap`: what each first byte and each second byte is assigned to (decision D1). -/
structure OpcodeMap where
  /-- the one-byte opcodes -/
  first : List FirstByte
  /-- the second bytes of `ESC` and `ESCL` -/
  second : List SecondByte

/-- `P.opcodeMap` at its default, the tables of 30_encoding.md R178 and R179 (decision D1). PRESUMED, log entry 15. -/
def Config.opcodeMap : OpcodeMap := { first := firstMap, second := secondMap }

/-- What a byte sequence stands for. -/
inductive Decoded where
  /-- an instruction, and the bytes after it -/
  | instr (i : Instr) (rest : List Byte)
  /-- a first byte assigned to no instruction: `OpcodeTrap` (30_encoding.md R174) -/
  | unassigned (opcode : Byte)
  /-- the first bytes 0 and 255 (30_encoding.md R173) -/
  | reserved (opcode : Byte)
  /-- the sequence ends before the instruction does -/
  | short
  deriving DecidableEq, Repr

/-- The instruction behind the prefix `ESC`: its second byte selects it; a second byte that is not an `a` code is the
instruction `ESC` itself, which traps (30_encoding.md R171). -/
def decodeEsc (bytes : List Byte) : Decoded :=
  match bytes with
  | [] => .short
  | code :: rest =>
    match Config.opcodeMap.second.getD code.toNat .free with
    | .a i => .instr i rest
    | .b _ | .free => .instr (.esc code) rest

/-- The instruction behind the prefix `ESCL`, with its operand in the third byte. A second byte that is not a `b` code is
the instruction `ESCL` itself, which traps before a third byte is fetched (30_encoding.md R171). -/
def decodeEscl (bytes : List Byte) : Decoded :=
  match bytes with
  | [] => .short
  | code :: rest =>
    match Config.opcodeMap.second.getD code.toNat .free with
    | .b f =>
      match rest with
      | [] => .short
      | alpha :: rest => .instr (f alpha) rest
    | .a _ | .free => .instr (.escl code) rest

/-- `Dispatch` as a decoder (30_encoding.md R161, R171): the instruction that begins the byte sequence. -/
def decode (bytes : List Byte) : Decoded :=
  match bytes with
  | [] => .short
  | opcode :: rest =>
    match Config.opcodeMap.first.getD opcode.toNat .unassigned with
    | .op i => .instr i rest
    | .opa f =>
      match rest with
      | [] => .short
      | alpha :: rest => .instr (f alpha) rest
    | .opab f =>
      match rest with
      | alpha :: beta :: rest => .instr (f alpha beta) rest
      | _ => .short
    | .escape => decodeEsc rest
    | .escapeLong => decodeEscl rest
    | .unassigned => .unassigned opcode
    | .reserved => .reserved opcode

/-- The encoder: the bytes of an instruction, first byte first (30_encoding.md R161, R178, R179). `ESCL` with a second byte
that no instruction has is two bytes here: the processor traps before it would fetch a third. -/
def encode (i : Instr) : List Byte :=
  match i with
  | .esc code => [0xF8, code]
  | .escl code => [0xF9, code]
  | .ll0 => [0x01]
  | .ll1 => [0x02]
  | .ll2 => [0x03]
  | .ll3 => [0x04]
  | .ll4 => [0x05]
  | .ll5 => [0x06]
  | .ll6 => [0x07]
  | .ll7 => [0x08]
  | .ll8 => [0x09]
  | .ll9 => [0x0A]
  | .ll10 => [0x0B]
  | .ll11 => [0x0C]
  | .llb alpha => [0x0D, alpha]
  | .lld0 => [0x0E]
  | .lld1 => [0x0F]
  | .lld2 => [0x10]
  | .lld3 => [0x11]
  | .lld4 => [0x12]
  | .lld5 => [0x13]
  | .lld6 => [0x14]
  | .lld7 => [0x15]
  | .lld8 => [0x16]
  | .lld10 => [0x17]
  | .lldb alpha => [0x18, alpha]
  | .sl0 => [0x19]
  | .sl1 => [0x1A]
  | .sl2 => [0x1B]
  | .sl3 => [0x1C]
  | .sl4 => [0x1D]
  | .sl5 => [0x1E]
  | .sl6 => [0x1F]
  | .sl7 => [0x20]
  | .sl8 => [0x21]
  | .sl9 => [0x22]
  | .sl10 => [0x23]
  | .slb alpha => [0x24, alpha]
  | .sld0 => [0x25]
  | .sld1 => [0x26]
  | .sld2 => [0x27]
  | .sld3 => [0x28]
  | .sld4 => [0x29]
  | .sld5 => [0x2A]
  | .sld6 => [0x2B]
  | .sld8 => [0x2C]
  | .pl0 => [0x2D]
  | .pl1 => [0x2E]
  | .pl2 => [0x2F]
  | .pl3 => [0x30]
  | .plb alpha => [0x31, alpha]
  | .pld0 => [0x32]
  | .pldb alpha => [0x33, alpha]
  | .lg0 => [0x34]
  | .lg1 => [0x35]
  | .lg2 => [0x36]
  | .lgb alpha => [0x37, alpha]
  | .lgd0 => [0x38]
  | .lgd2 => [0x39]
  | .lgdb alpha => [0x3A, alpha]
  | .sgb alpha => [0x3B, alpha]
  | .bndck => [0x3C]
  | .brk => [0x3D]
  | .r0 => [0x3E]
  | .r1 => [0x3F]
  | .rb alpha => [0x40, alpha]
  | .rl0 => [0x41]
  | .rlb alpha => [0x42, alpha]
  | .rd0 => [0x43]
  | .rdb alpha => [0x44, alpha]
  | .rdl0 => [0x45]
  | .rdlb alpha => [0x46, alpha]
  | .w0 => [0x47]
  | .wb alpha => [0x48, alpha]
  | .psb alpha => [0x49, alpha]
  | .wlb alpha => [0x4A, alpha]
  | .pslb alpha => [0x4B, alpha]
  | .wdb alpha => [0x4C, alpha]
  | .psd0 => [0x4D]
  | .psdb alpha => [0x4E, alpha]
  | .wdlb alpha => [0x4F, alpha]
  | .psdlb alpha => [0x50, alpha]
  | .rli00 => [0x51]
  | .rli01 => [0x52]
  | .rli02 => [0x53]
  | .rli03 => [0x54]
  | .rlip left right => [0x55, nibblePair left right]
  | .rlilp left right => [0x56, nibblePair left right]
  | .rldi00 => [0x57]
  | .rldip left right => [0x58, nibblePair left right]
  | .rldilp left right => [0x59, nibblePair left right]
  | .rgip left right => [0x5A, nibblePair left right]
  | .rgilp left right => [0x5B, nibblePair left right]
  | .wlip left right => [0x5C, nibblePair left right]
  | .wlilp left right => [0x5D, nibblePair left right]
  | .wldilp left right => [0x5E, nibblePair left right]
  | .rs alpha => [0x5F, alpha]
  | .rls alpha => [0x60, alpha]
  | .ws alpha => [0x61, alpha]
  | .wls alpha => [0x62, alpha]
  | .r0f pos size => [0x63, nibblePair pos size]
  | .rf alpha pos size => [0x64, alpha, nibblePair pos size]
  | .rl0f pos size => [0x65, nibblePair pos size]
  | .rlf alpha pos size => [0x66, alpha, nibblePair pos size]
  | .rlfs => [0x67]
  | .rlipf left right pos size => [0x68, nibblePair left right, nibblePair pos size]
  | .rlilpf left right pos size => [0x69, nibblePair left right, nibblePair pos size]
  | .w0f pos size => [0x6A, nibblePair pos size]
  | .wf alpha pos size => [0x6B, alpha, nibblePair pos size]
  | .psf alpha pos size => [0x6C, alpha, nibblePair pos size]
  | .ps0f pos size => [0x6D, nibblePair pos size]
  | .ws0f pos size => [0x6E, nibblePair pos size]
  | .wl0f pos size => [0x6F, nibblePair pos size]
  | .wlf alpha pos size => [0x70, alpha, nibblePair pos size]
  | .pslf alpha pos size => [0x71, alpha, nibblePair pos size]
  | .wlfs => [0x72]
  | .sldb alpha => [0x73, alpha]
  | .sgdb alpha => [0x74, alpha]
  | .llkb alpha => [0x75, alpha]
  | .rkib alpha => [0x76, alpha]
  | .rkdib alpha => [0x77, alpha]
  | .lkb alpha => [0x78, alpha]
  | .shift => [0x79]
  | .shiftsb alpha => [0x7A, alpha]
  | .catchByte alpha => [0x80, alpha]
  | .j2 => [0x81]
  | .j3 => [0x82]
  | .j4 => [0x83]
  | .j5 => [0x84]
  | .j6 => [0x85]
  | .j7 => [0x86]
  | .j8 => [0x87]
  | .jb alpha => [0x88, alpha]
  | .jw word => [0x89, codeHigh word, codeLow word]
  | .jep left right => [0x8A, nibblePair left right]
  | .jeb alpha => [0x8B, alpha]
  | .jebb alpha beta => [0x8C, alpha, beta]
  | .jnep left right => [0x8D, nibblePair left right]
  | .jneb alpha => [0x8E, alpha]
  | .jnebb alpha beta => [0x8F, alpha, beta]
  | .jlb alpha => [0x90, alpha]
  | .jgeb alpha => [0x91, alpha]
  | .jgb alpha => [0x92, alpha]
  | .jleb alpha => [0x93, alpha]
  | .julb alpha => [0x94, alpha]
  | .jugeb alpha => [0x95, alpha]
  | .jugb alpha => [0x96, alpha]
  | .juleb alpha => [0x97, alpha]
  | .jz3 => [0x98]
  | .jz4 => [0x99]
  | .jzb alpha => [0x9A, alpha]
  | .jnz3 => [0x9B]
  | .jnz4 => [0x9C]
  | .jnzb alpha => [0x9D, alpha]
  | .jdeb alpha => [0x9E, alpha]
  | .jdneb alpha => [0x9F, alpha]
  | .jib word => [0xA0, codeHigh word, codeLow word]
  | .jiw word => [0xA1, codeHigh word, codeLow word]
  | .recover => [0xA2]
  | .recover2 => [0xA3]
  | .dis => [0xA4]
  | .dis2 => [0xA5]
  | .exch => [0xA6]
  | .dexch => [0xA7]
  | .dup => [0xA8]
  | .ddup => [0xA9]
  | .exdis => [0xAA]
  | .neg => [0xAB]
  | .inc => [0xAC]
  | .dec => [0xAD]
  | .dinc => [0xAE]
  | .dbl => [0xAF]
  | .ddbl => [0xB0]
  | .trpl => [0xB1]
  | .and => [0xB2]
  | .ior => [0xB3]
  | .addsb alpha => [0xB4, alpha]
  | .add => [0xB5]
  | .sub => [0xB6]
  | .dadd => [0xB7]
  | .dsub => [0xB8]
  | .adc => [0xB9]
  | .acd => [0xBA]
  | .al0ib alpha => [0xBB, alpha]
  | .mul => [0xBC]
  | .dcmp => [0xBD]
  | .udcmp => [0xBE]
  | .li0 => [0xC0]
  | .li1 => [0xC1]
  | .li2 => [0xC2]
  | .li3 => [0xC3]
  | .li4 => [0xC4]
  | .li5 => [0xC5]
  | .li6 => [0xC6]
  | .li7 => [0xC7]
  | .li8 => [0xC8]
  | .li9 => [0xC9]
  | .li10 => [0xCA]
  | .lin1 => [0xCB]
  | .lini => [0xCC]
  | .lib alpha => [0xCD, alpha]
  | .liw word => [0xCE, codeHigh word, codeLow word]
  | .linb alpha => [0xCF, alpha]
  | .lihb alpha => [0xD0, alpha]
  | .lid0 => [0xD1]
  | .la0 => [0xD2]
  | .la1 => [0xD3]
  | .la2 => [0xD4]
  | .la3 => [0xD5]
  | .la6 => [0xD6]
  | .la8 => [0xD7]
  | .lab alpha => [0xD8, alpha]
  | .law word => [0xD9, codeHigh word, codeLow word]
  | .ga0 => [0xDA]
  | .ga1 => [0xDB]
  | .gab alpha => [0xDC, alpha]
  | .gaw word => [0xDD, codeHigh word, codeLow word]
  | .efc0 => [0xDF]
  | .efc1 => [0xE0]
  | .efc2 => [0xE1]
  | .efc3 => [0xE2]
  | .efc4 => [0xE3]
  | .efc5 => [0xE4]
  | .efc6 => [0xE5]
  | .efc7 => [0xE6]
  | .efc8 => [0xE7]
  | .efc9 => [0xE8]
  | .efc10 => [0xE9]
  | .efc11 => [0xEA]
  | .efc12 => [0xEB]
  | .efcb alpha => [0xEC, alpha]
  | .lfc word => [0xED, codeHigh word, codeLow word]
  | .sfc => [0xEE]
  | .ret => [0xEF]
  | .kfcb alpha => [0xF0, alpha]
  | .me => [0xF1]
  | .mx => [0xF2]
  | .blt => [0xF3]
  | .bltl => [0xF4]
  | .bltc => [0xF5]
  | .bltcl => [0xF6]
  | .lp => [0xF7]
  | .mw => [0xF8, 0x02]
  | .mr => [0xF8, 0x03]
  | .nc => [0xF8, 0x04]
  | .bc => [0xF8, 0x05]
  | .req => [0xF8, 0x06]
  | .sm => [0xF8, 0x07]
  | .smf => [0xF8, 0x08]
  | .gmf => [0xF8, 0x09]
  | .af => [0xF8, 0x0A]
  | .ff => [0xF8, 0x0B]
  | .pi => [0xF8, 0x0C]
  | .po => [0xF8, 0x0D]
  | .por => [0xF8, 0x0E]
  | .spp => [0xF8, 0x0F]
  | .di => [0xF8, 0x10]
  | .ei => [0xF8, 0x11]
  | .xor => [0xF8, 0x12]
  | .dand => [0xF8, 0x13]
  | .dior => [0xF8, 0x14]
  | .dxor => [0xF8, 0x15]
  | .rotate => [0xF8, 0x16]
  | .dshift => [0xF8, 0x17]
  | .lint => [0xF8, 0x18]
  | .js => [0xF8, 0x19]
  | .rcfs => [0xF8, 0x1A]
  | .rc alpha => [0xF9, 0x1B, alpha]
  | .udiv => [0xF8, 0x1C]
  | .ludiv => [0xF8, 0x1D]
  | .rob alpha => [0xF9, 0x1E, alpha]
  | .wob alpha => [0xF9, 0x1F, alpha]
  | .dsk alpha => [0xF9, 0x20, alpha]
  | .xe alpha => [0xF9, 0x21, alpha]
  | .xf alpha => [0xF9, 0x22, alpha]
  | .lsk alpha => [0xF9, 0x23, alpha]
  | .bndckl => [0xF8, 0x24]
  | .nilck => [0xF8, 0x25]
  | .nilckl => [0xF8, 0x26]
  | .bltlr => [0xF8, 0x27]
  | .blel => [0xF8, 0x28]
  | .blecl => [0xF8, 0x29]
  | .cksum => [0xF8, 0x2A]
  | .bitblt => [0xF8, 0x2B]
  | .txtblt => [0xF8, 0x2C]
  | .bytblt => [0xF8, 0x2D]
  | .bytbltr => [0xF8, 0x2E]
  | .version => [0xF8, 0x2F]
  | .dmul => [0xF8, 0x30]
  | .sdiv => [0xF8, 0x31]
  | .sddiv => [0xF8, 0x32]
  | .uddiv => [0xF8, 0x33]
  | .fadd => [0xF8, 0x40]
  | .fsub => [0xF8, 0x41]
  | .fmul => [0xF8, 0x42]
  | .fdiv => [0xF8, 0x43]
  | .fcomp => [0xF8, 0x44]
  | .fix => [0xF8, 0x45]
  | .float => [0xF8, 0x46]
  | .fixi => [0xF8, 0x47]
  | .fixc => [0xF8, 0x48]
  | .fsticky => [0xF8, 0x49]
  | .frem => [0xF8, 0x4A]
  | .round => [0xF8, 0x4B]
  | .roundi => [0xF8, 0x4C]
  | .roundc => [0xF8, 0x4D]
  | .fsqrt => [0xF8, 0x4E]
  | .fsc => [0xF8, 0x4F]
  | .reclaimref => [0xF8, 0x60]
  | .altercount => [0xF8, 0x61]
  | .resetstkbits => [0xF8, 0x62]
  | .gcsetup => [0xF8, 0x63]
  | .a144 => [0xF8, 0x64]
  | .enumeratereclaimable => [0xF8, 0x65]
  | .a146 => [0xF8, 0x66]
  | .createref => [0xF8, 0x67]
  | .a150 => [0xF8, 0x68]
  | .reftype => [0xF8, 0x69]
  | .canonicalreftype => [0xF8, 0x6A]
  | .allocquantized => [0xF8, 0x6B]
  | .allocheap => [0xF8, 0x6C]
  | .freeobject => [0xF8, 0x6D]
  | .freequantized => [0xF8, 0x6E]
  | .freeprefixed => [0xF8, 0x6F]
  | .wrpsb => [0xF8, 0x70]
  | .wrmds => [0xF8, 0x71]
  | .wrwp => [0xF8, 0x72]
  | .wrwdc => [0xF8, 0x73]
  | .wrptc => [0xF8, 0x74]
  | .writ => [0xF8, 0x75]
  | .wrxts => [0xF8, 0x76]
  | .wrmp => [0xF8, 0x77]
  | .rrpsb => [0xF8, 0x78]
  | .rrmds => [0xF8, 0x79]
  | .rrwp => [0xF8, 0x7A]
  | .rrwdc => [0xF8, 0x7B]
  | .rrptc => [0xF8, 0x7C]
  | .rrit => [0xF8, 0x7D]
  | .rrxts => [0xF8, 0x7E]
  | .input => [0xF8, 0x80]
  | .output => [0xF8, 0x81]
  | .loadramj => [0xF8, 0x82]
  | .bandblt => [0xF8, 0xA0]

/-- The bytes of a table word, numbered as spec/opcode_table.json numbers them: an integer over the row's bytes with the
FIRST byte most significant (INDEX.md, "Conventions of opcode_table.json"), then two zero bytes, the longest operands an
instruction can still want. No row begins with a zero byte, so leading zero bytes are no part of the word. DEDUCED, log
entry 12. -/
def tableBytes (nbits w : Nat) : List Byte :=
  let n := (nbits + 7) / 8
  ((List.range n).map (fun k => BitVec.ofNat 8 (w / 2 ^ (8 * (n - 1 - k))))).dropWhile (fun b => b == 0) ++ [0, 0]

/-- The instruction the decoder reads from a table word. -/
def decodeTableWord (nbits w : Nat) : Option Instr :=
  match decode (tableBytes nbits w) with
  | .instr i _ => some i
  | _ => none

end Sys2Proof
end

