-- ==== Sys2Proof/Machine/Operands.lean ====
section
/-!
DEFINITION. The operand forms and the pure operations of the data types: bytes of words, sign extension, shifts and
rotations, signed division, fields and field descriptors (00_scope.md R16 to R26, 44_assign_string_field.md R480, R481).
-/
namespace Sys2Proof.Machine

/-- `HighByte`, and `left` of a `BytePair` (00_scope.md R16). -/
def leftByte (w : Word) : Byte := w.extractLsb' 8 8

/-- `LowByte`, and `right` of a `BytePair` (00_scope.md R16). -/
def rightByte (w : Word) : Byte := w.extractLsb' 0 8

/-- The word with the given bytes (00_scope.md R16). -/
def bytePair (left right : Byte) : Word := left ++ right

/-- `SignExtend` of a byte (00_scope.md R26). -/
def signExtendByte (b : Byte) : Word := b.signExtend 16

/-- The unsigned offset of a nibble pair or byte operand, added to a frame or a short pointer (30_encoding.md R168). -/
def offsetBy (base : Word) (n : Nat) : Word := base + BitVec.ofNat 16 n

/-- `Shift`: left by a positive count, right by a negative one, zeros shifted in (00_scope.md R18). -/
def shiftWord (data count : Word) : Word :=
  if 0 ≤ count.toInt then data <<< count.toNat else data >>> (-count.toInt).toNat

/-- `LongShift`: the same on 32 bits (00_scope.md R18). -/
def shiftLong (data : LongWord) (count : Word) : LongWord :=
  if 0 ≤ count.toInt then data <<< count.toNat else data >>> (-count.toInt).toNat

/-- `Rotate`: left by a positive count, right by a negative one; the period is sixteen (00_scope.md R19). -/
def rotateWord (data count : Word) : Word := data.rotateLeft (count.toNat % 16)

/-- The signed quotient, truncated toward zero and reduced modulo the width (00_scope.md R22, decision D6). -/
def signedQuotient {w : Nat} (j k : BitVec w) : BitVec w := BitVec.ofInt w (j.toInt.tdiv k.toInt)

/-- The remainder, which takes the sign of the dividend (00_scope.md R22). -/
def signedRemainder {w : Nat} (j k : BitVec w) : BitVec w := BitVec.ofInt w (j.toInt.tmod k.toInt)

/-- `MaskTable[k] = 2^(k+1) - 1` (44_assign_string_field.md R481). -/
def maskTable (k : Nibble) : Word := BitVec.ofNat 16 (2 ^ (k.toNat + 1) - 1)

/-- The distance of a field's last bit from the word's last bit (44_assign_string_field.md R481). -/
def fieldShift (pos size : Nibble) : Nat := 16 - (pos.toNat + size.toNat + 1)

/-- `ReadField` of a legal specifier: right-justified, zero-filled (44_assign_string_field.md R481). -/
def readField (source : Word) (pos size : Nibble) : Word := (source >>> fieldShift pos size) &&& maskTable size

/-- `WriteField` of a legal specifier (44_assign_string_field.md R481). -/
def writeField (dest : Word) (pos size : Nibble) (data : Word) : Word :=
  let mask := maskTable size <<< fieldShift pos size
  (dest &&& ~~~mask) ||| ((data <<< fieldShift pos size) &&& mask)

/-- `offset` of a field descriptor on the stack (44_assign_string_field.md R480). -/
def descOffset (desc : Word) : Byte := leftByte desc

/-- `field.pos` of a field descriptor on the stack (44_assign_string_field.md R480). -/
def descPos (desc : Word) : Nibble := hiNibble (rightByte desc)

/-- `field.size` of a field descriptor on the stack (44_assign_string_field.md R480). -/
def descSize (desc : Word) : Nibble := loNibble (rightByte desc)

/-- The byte of a word that an offset's least significant bit selects: even is the left (20_memory.md R120). -/
def selectByte (w : Word) (odd : Bool) : Byte := if odd then rightByte w else leftByte w

/-- The word with one byte replaced (44_assign_string_field.md R476). -/
def replaceByte (w : Word) (odd : Bool) (b : Byte) : Word :=
  if odd then bytePair (leftByte w) b else bytePair b (rightByte w)

/-- `Checksum`: "a ones' complement add-and-left-cycle" (45_block_transfers.md R528). -/
def checksumStep (chksum data : Word) : Word :=
  let sum := chksum + data
  let temp := if sum < chksum then sum + 1 else sum
  if 0x8000 ≤ temp then temp <<< 1 ||| 1 else temp <<< 1

end Sys2Proof.Machine
end

