-- ==== Sys2Proof/Machine/Ops.lean ====
section
/-!
DEFINITION. The named operations every meaning is built from: the evaluation stack, memory through the map, code fetch,
frames, `XFER`, the process queues and the scheduler, interrupts and timeouts, and TAKING AN EXCEPTION (`deliver`), each
written from the routine of the spec it cites.

A routine is an action `M`: it runs on a state and either ends with a value or is aborted; the state at the abort is
kept, because a trap or fault undoes nothing but `PC` and `SP` (60_exceptions.md R761).
-/
namespace Sys2Proof.Machine

/-- What a routine of the code is: a function of the state that ends with a value, or aborts (00_scope.md R10). -/
abbrev M (α : Type) := EStateM Abort State α

/-- What a step or a meaning answers. -/
abbrev Answer := Host.Outcome State Fault Refusal

/-- The state. -/
def getState : M State := fun s => .ok s s

/-- Change the state. -/
def update (f : State → State) : M Unit := fun s => .ok () (f s)

/-- Abort: a trap, a fault, or a stop of the model. -/
def raise {α : Type} (a : Abort) : M α := fun s => .error a s

/-- The model refuses (00_scope.md R9, decision D4). -/
def refuse {α : Type} (r : Refusal) : M α := raise (.refuse r)

/-- `ENABLE Abort => ERROR`: a trap or fault inside is refused under the given name (00_scope.md R10). -/
def noAbort {α : Type} (r : Refusal) (m : M α) : M α := fun s =>
  match m s with
  | .ok a s' => .ok a s'
  | .error a s' =>
    match a with
    | .stuck f => .error (.stuck f) s'
    | .refuse r' => .error (.refuse r') s'
    | _ => .error (.refuse r) s'

/-! ### Trap table entries -/

/-- `@SD[i] = mSD + 2 i` (60_exceptions.md R762). -/
def sdEntry (i : Word) : Word := 0x200 + 2 * i

/-- `@ETT[op] = mETT + 2 op` (60_exceptions.md R763). -/
def ettEntry (op : Byte) : Word := 0x400 + 2 * zextByte op

/-- `BreakTrap` (60_exceptions.md R772). -/
def breakTrap : Abort := .trapZero (sdEntry 0)

/-- `StackError` (60_exceptions.md R776). -/
def stackError : Abort := .trapZero (sdEntry 2)

/-- `RescheduleError` (60_exceptions.md R782). -/
def rescheduleError : Abort := .trapZero (sdEntry 3)

/-- The entry of the xfer trap (60_exceptions.md R762, R790). -/
def xferTrapEntry : Word := sdEntry 4

/-- `OpcodeTrap` (60_exceptions.md R774). -/
def opcodeTrap (op : Byte) : Abort := .trapOne (sdEntry 5) (zextByte op)

/-- `EscOpcodeTrap` (60_exceptions.md R770). -/
def escOpcodeTrap (op : Byte) : Abort := .trapOne (ettEntry op) (zextByte op)

/-- `ControlTrap` (60_exceptions.md R775). -/
def controlTrap (src : Word) : Abort := .trapOne (sdEntry 6) src

/-- `CodeTrap` (60_exceptions.md R773). -/
def codeTrap (gf : Word) : Abort := .trapOne (sdEntry 7) gf

/-- `UnboundTrap` (60_exceptions.md R783). -/
def unboundTrap (dst : LongWord) : Abort := .trapTwo (sdEntry 9) dst

/-- `DivZeroTrap` (60_exceptions.md R778). -/
def divZeroTrap : Abort := .trapZero (sdEntry 10)

/-- `DivCheckTrap` (60_exceptions.md R777). -/
def divCheckTrap : Abort := .trapZero (sdEntry 11)

/-- `InterruptError` (60_exceptions.md R779). -/
def interruptError : Abort := .trapZero (sdEntry 12)

/-- `ProcessTrap` (60_exceptions.md R781). -/
def processTrap : Abort := .trapZero (sdEntry 13)

/-- `BoundsTrap` (60_exceptions.md R771). -/
def boundsTrap : Abort := .trapZero (sdEntry 14)

/-- `PointerTrap` (60_exceptions.md R780). -/
def pointerTrap : Abort := .trapZero (sdEntry 15)

/-- `FrameFault` with the index first asked for (60_exceptions.md R795). -/
def frameFault (fsi : Word) : Abort := .faultOne .frameFault fsi

/-! ### The evaluation stack (10_state.md R50 to R61) -/

/-- The word in a slot of the stack. -/
def State.slot (s : State) (i : Nat) : Word := s.stack.getD i 0

/-- The stack word `k` below the top one. -/
def State.top (s : State) (k : Nat) : Word := s.slot (s.sp.val - (k + 1))

/-- `SP` lower by `n`; nothing is erased (10_state.md R54). -/
def State.dropped (s : State) (n : Nat) : State := { s with sp := ⟨s.sp.val - n, by omega⟩ }

/-- `SP` higher by one (10_state.md R59). -/
def State.raised (s : State) : State := { s with sp := ⟨min (s.sp.val + 1) 14, by omega⟩ }

/-- A word put at `stack[SP]`, and `SP` higher by one (10_state.md R53). -/
def State.pushed (s : State) (v : Word) : State :=
  { s with stack := s.stack.setIfInBounds s.sp.val v, sp := ⟨min (s.sp.val + 1) 14, by omega⟩ }

/-- `Push` (10_state.md R53). -/
def push (v : Word) : M Unit := fun s => if s.sp.val < 14 then .ok () (s.pushed v) else .error stackError s

/-- `Pop` (10_state.md R54). -/
def pop : M Word := fun s => if 0 < s.sp.val then .ok (s.top 0) (s.dropped 1) else .error stackError s

/-- `PushLong`: low word first (10_state.md R56). -/
def pushLong (v : LongWord) : M Unit := do
  push (lowHalf v)
  push (highHalf v)

/-- `PopLong`: high word first (10_state.md R57). -/
def popLong : M LongWord := do
  let high ← pop
  let low ← pop
  return mkLong low high

/-- `MinimalStack` (10_state.md R58). -/
def minimalStack : M Unit := fun s => if s.sp.val = 0 then .ok () s else .error stackError s

/-- `Recover` (10_state.md R59). The word exposed is what the slot holds (R61's model treatment, log entry 13). -/
def recoverTop : M Unit := fun s => if s.sp.val < 14 then .ok () s.raised else .error stackError s

/-- `Discard` (10_state.md R60). -/
def discard : M Unit := fun s => if 0 < s.sp.val then .ok () (s.dropped 1) else .error stackError s

/-! ### Devices (20_memory.md R113, R140, decision D9) -/

/-- One action of a device: an access goes through the map like any other, and a device makes none to a page that is vacant,
protected against it or without memory (20_memory.md R109, R113, decision D9, log entry 7). -/
def State.perform (s : State) (a : DeviceAction) : State :=
  match a with
  | .read va flags =>
    match s.translate va .read with
    | .ok _ => if flags then s.mark va .read else s
    | .error _ => s
  | .write va v flags =>
    match s.translate va .write with
    | .ok r => { (if flags then s.mark va .write else s) with mem := writeReal s.mem r v }
    | .error _ => s
  | .wakeup bits => { s with wp := s.wp ||| bits }

/-- The devices take their turn: the next list of actions is performed. A turn comes before each step, before each access of
the processor to memory and before each operation on the map (20_memory.md R112, R140, decision D9, log entry 7). -/
def State.afterDevices (s : State) : State :=
  match s.devices with
  | [] => s
  | actions :: rest => actions.foldl State.perform { s with devices := rest }

/-! ### Memory through the map (20_memory.md R110 to R118) -/

/-- `Map` by the processor alone: the real address of an access, with the flags set, or the fault (20_memory.md R110). -/
def translateMarked (va : LongWord) (op : Access) : M Nat := fun s =>
  match s.translate va op with
  | .ok a => .ok a (s.mark va op)
  | .error e => .error e s

/-- `Map`, which begins an access of the processor to memory, after a turn of the devices (20_memory.md R110, R140,
decision D9). -/
def mapAddress (va : LongWord) (op : Access) : M Nat := do
  update State.afterDevices
  translateMarked va op

/-- The real word at an address already translated (20_memory.md R114). -/
def readAt (a : Nat) : M Word := fun s => .ok (readReal s.mem a) s

/-- Store at an address already translated (20_memory.md R114). -/
def writeAt (a : Nat) (v : Word) : M Unit := update fun s => { s with mem := writeReal s.mem a v }

/-- `Fetch(va)^` = `MemRead(va, 1)` (20_memory.md R114). -/
def memRead (va : LongWord) : M Word := do
  let a ← mapAddress va .read
  readAt a

/-- `Store(va)^ <- v` = `MemWrite(va, 1, v)` (20_memory.md R114). -/
def memWrite (va : LongWord) (v : Word) : M Unit := do
  let a ← mapAddress va .write
  writeAt a v

/-- `Store(va)^ <- Pop[]`: the translation comes before the pop (43_assign_immediate_frame_pointer.md R361, decision D13). -/
def memWritePop (va : LongWord) : M Unit := do
  let a ← mapAddress va .write
  let v ← pop
  writeAt a v

/-- `ReadDbl`: low word first, each word translated (20_memory.md R115). -/
def readDbl (va : LongWord) : M LongWord := do
  let low ← memRead va
  let high ← memRead (va + 1)
  return mkLong low high

/-- `LengthenPointer`: the virtual address of a short pointer (20_memory.md R117). -/
def State.lengthen (s : State) (p : Word) : LongWord := mkLong p s.mds

/-- `FetchMds(p)^` (20_memory.md R117). -/
def memReadMds (p : Word) : M Word := do
  let s ← getState
  memRead (s.lengthen p)

/-- `StoreMds(p)^ <- v` (20_memory.md R117). -/
def memWriteMds (p v : Word) : M Unit := do
  let s ← getState
  memWrite (s.lengthen p) v

/-- `StoreMds(p)^ <- Pop[]` (20_memory.md R117, decision D13). -/
def memWritePopMds (p : Word) : M Unit := do
  let s ← getState
  memWritePop (s.lengthen p)

/-- `ReadDblMds`: lengthened once, then 32-bit addition (20_memory.md R117). -/
def readDblMds (p : Word) : M LongWord := do
  let s ← getState
  readDbl (s.lengthen p)

/-- `ReadCode` at a word offset from `CB` (20_memory.md R118). -/
def readCode (offset : Word) : M Word := do
  let s ← getState
  memRead (s.cb + zextLong offset)

/-- `FetchByte` (44_assign_string_field.md R471). -/
def fetchByte (ptr offset : LongWord) : M Byte := do
  let w ← memRead (ptr + offset >>> 1)
  return selectByte w (offset.getLsbD 0)

/-- `StoreByte`: a read, a merge and a write of the containing word (44_assign_string_field.md R476). -/
def storeByte (ptr offset : LongWord) (b : Byte) : M Unit := do
  let w ← memRead (ptr + offset >>> 1)
  memWrite (ptr + offset >>> 1) (replaceByte w (offset.getLsbD 0) b)

/-! ### Code bytes (30_encoding.md R164) -/

/-- `GetCodeByte` (30_encoding.md R164). -/
def getCodeByte : M Byte := do
  let s ← getState
  let w ← readCode (s.pc >>> 1)
  update fun s => { s with pc := s.pc + 1 }
  return selectByte w (s.pc.getLsbD 0)

/-- The byte after those of an instruction already fetched. The operand of `XE` is fetched inside its `ENABLE Abort => ERROR`
(47_control_transfers.md R657). -/
def getNextByte (bytes : List Byte) : M Byte :=
  if bytes = (encode (.xe 0)).take 2 then noAbort .abortInXE getCodeByte else getCodeByte

/-- Fetch the bytes that complete an instruction begun by `bytes`, at most `n` more, and decode it
(30_encoding.md R162, R169, R171). -/
def fetchMore (n : Nat) (bytes : List Byte) : M Decoded :=
  match n with
  | 0 => pure (decode bytes)
  | n + 1 =>
    match decode bytes with
    | .short => do
      let b ← getNextByte bytes
      fetchMore n (bytes ++ [b])
    | d => pure d

/-- Fetch and decode the instruction at `PC`, at most three bytes (30_encoding.md R160, R169). -/
def fetchInstruction : M Decoded := fetchMore 3 []

/-! ### Samples of the registers that change by themselves -/

/-- Read `WP` together with the wakeups devices have posted since (60_exceptions.md R800, log entry 6). -/
def sampleWakeups : M Word := fun s =>
  .ok (s.wp ||| Config.wakeups s.draw) { s with wp := s.wp ||| Config.wakeups s.draw, draw := s.draw + 1 }

/-- Read `IT` as it has advanced since (10_state.md R64, log entry 5). -/
def sampleTimer : M LongWord := fun s =>
  .ok (s.it + Config.pulses s.draw) { s with it := s.it + Config.pulses s.draw, draw := s.draw + 1 }

/-- A free real page number, for a vacant entry (20_memory.md R107(b), U2). -/
def drawRealPage : M (BitVec 24) := fun s => .ok (Config.vacantRealPage s.draw) { s with draw := s.draw + 1 }

/-- `InterruptPending` (60_exceptions.md R802). `WP` matters only while interrupts are enabled. -/
def interruptPending : M Bool := do
  let s ← getState
  if s.wdc = 0 then
    let wp ← sampleWakeups
    return wp != 0
  else return false

/-! ### Control links and frames (47_control_transfers.md R591 to R600) -/

/-- `LinkType` (47_control_transfers.md R591). -/
inductive LinkType where
  | frame
  | procedure
  | indirect
  deriving DecidableEq, Repr

/-- `ControlLinkType`: by the two low-order bits (47_control_transfers.md R591). -/
def controlLinkType (link : LongWord) : LinkType :=
  if link.extractLsb' 0 2 = 0#2 then .frame else if link.extractLsb' 0 2 = 2#2 then .indirect else .procedure

/-- `@AV[slot]`, modulo 2^16 (47_control_transfers.md R597, R601). -/
def avEntry (slot : Word) : Word := 0x100 + slot

/-- Follow indirect items of the allocation vector; the answer is the slot and its item. Among 257 items read a slot has
come again, so the chain does not end (47_control_transfers.md R599). -/
def findFrame (n : Nat) (slot : Word) : M (Word × Word) :=
  match n with
  | 0 => refuse .frameListChain
  | n + 1 => do
    let item ← memReadMds (avEntry slot)
    if item &&& 3 = 2 then
      if 255 < (item >>> 2).toNat then refuse (.frameListSlot item) else findFrame n (item >>> 2)
    else return (slot, item)

/-- `Alloc` (47_control_transfers.md R599). -/
def alloc (fsi : Word) : M Word := do
  let (slot, item) ← findFrame 257 fsi
  if item &&& 3 = 1 then raise (frameFault fsi)
  else if item &&& 3 = 3 then refuse (.frameListTag item)
  else do
    let next ← memReadMds item
    memWriteMds (avEntry slot) next
    return item

/-- `Free` (47_control_transfers.md R600). -/
def freeFrame (frame : Word) : M Unit := do
  let word ← memReadMds (frame - 4)
  let slot := avEntry (zextByte (rightByte word))
  let item ← memReadMds slot
  memWriteMds frame item
  memWriteMds slot frame

/-! ### XFER (47_control_transfers.md R610 to R615) -/

/-- `XferType` as the number the xfer trap's handler receives (60_exceptions.md R790). -/
def XferType.code (t : XferType) : Word :=
  match t with
  | .ret => 0
  | .call => 1
  | .localCall => 2
  | .port => 3
  | .xfer => 4
  | .trap => 5
  | .processSwitch => 6

/-- `CheckForXferTraps` up to its trap, whose taking is `deliver`'s (60_exceptions.md R790). -/
def checkForXferTraps (dst : LongWord) (type : XferType) : M Unit := do
  let s ← getState
  if s.xts.getLsbD 0 then do
    let word ← memReadMds (s.gf - 3)
    if word.getLsbD 1 then do
      update fun s => { s with xts := s.xts >>> 1 }
      raise (.xferTrap dst type)
    else pure ()
  else update fun s => { s with xts := s.xts >>> 1 }

/-- Follow indirect links to a frame link or a procedure descriptor; the Boolean says whether one was followed. There are
16384 short pointers with the indirect tag, so among 16385 one has come again (47_control_transfers.md R610, R613). -/
def resolveLink (n : Nat) (type : XferType) (link : LongWord) (followed : Bool) : M (LongWord × Bool) :=
  match n with
  | 0 => refuse .linkChain
  | n + 1 =>
    if controlLinkType link = .indirect then
      if type = .trap then refuse .trapLinkIndirect
      else do
        let link' ← readDblMds (lowHalf link)
        resolveLink n type link' true
    else pure (link, followed)

/-- Load `CB` for the global frame, and trap on an odd code base (47_control_transfers.md R610, R611). -/
def loadCodeBase (gf : Word) : M Unit := do
  let base ← readDblMds (gf - 2)
  update fun s => { s with cb := base }
  if base.getLsbD 0 then raise (codeTrap gf)

/-- A frame for the procedure at byte `pc` of the current code segment, whose byte there is the frame size index; the
answer is the frame, with its links stored (47_control_transfers.md R610, R616). -/
def enterProcedure (pc gf returnLink : Word) : M Word := do
  let word ← readCode (pc >>> 1)
  let frame ← alloc (zextByte (selectByte word (pc.getLsbD 0)))
  memWriteMds (frame - 2) gf
  memWriteMds (frame - 3) returnLink
  return frame

/-- The procedure arm of `XFER`: the new `LF` and `PC` (47_control_transfers.md R610). -/
def xferProcedure (dst link : LongWord) (src : Word) : M (Word × Word) := do
  let gf := lowHalf link &&& 0xFFFE
  update fun s => { s with gf := gf }
  if gf = 0 then raise (unboundTrap dst)
  loadCodeBase gf
  let pc := highHalf link
  if pc = 0 then raise (unboundTrap dst)
  let frame ← enterProcedure pc gf src
  return (frame, pc + 1)

/-- The frame arm of `XFER`: the new `LF` and `PC` (47_control_transfers.md R610). -/
def xferFrame (dst link : LongWord) (src : Word) (type : XferType) : M (Word × Word) := do
  let frame := lowHalf link
  if frame = 0 then raise (controlTrap src)
  let gf ← memReadMds (frame - 2)
  update fun s => { s with gf := gf }
  if gf = 0 then raise (unboundTrap dst)
  loadCodeBase gf
  let pc ← memReadMds (frame - 1)
  if pc = 0 then raise (unboundTrap dst)
  if type = .trap then do
    memWriteMds (frame - 3) src
    update fun s => { s with wdc := s.wdc + 1 }
  return (frame, pc)

/-- `XFER`, the one primitive of every control transfer, trap and process switch (47_control_transfers.md R610). -/
def xfer (dst : LongWord) (src : Word) (type : XferType) (free : Bool) : M Unit := do
  let (link, followed) ← resolveLink 16385 type dst false
  let (frame, pc) ←
    if controlLinkType link = .procedure then xferProcedure dst link src else xferFrame dst link src type
  if followed then do
    push (lowHalf dst)
    push src
    discard
    discard
  let s ← getState
  if free then freeFrame s.lf
  update fun s => { s with lf := frame, pc := pc }
  checkForXferTraps dst type

/-- `Call`: save `PC` and transfer, with the current frame as the source (47_control_transfers.md R617). -/
def call (dst : LongWord) : M Unit := do
  let s ← getState
  memWriteMds (s.lf - 1) s.pc
  xfer dst s.lf .call false

/-- `FetchLink`: from the global frame or, by `codelinks`, from before the code segment (47_control_transfers.md R630). -/
def fetchLink (k : Byte) : M LongWord := do
  let s ← getState
  let word ← memReadMds (s.gf - 3)
  if word.getLsbD 0 then readDbl (s.cb - 2 * (zextByteLong k + 1))
  else readDblMds (s.gf - 4 - 2 * (zextByte k + 1))

/-! ### State vectors (47_control_transfers.md R650 to R653) -/

/-- Store stack words `i`, `i + 1`, ... at a state vector, `n` of them. -/
def saveWords (state : LongWord) (n i : Nat) : M Unit :=
  match n with
  | 0 => pure ()
  | n + 1 => do
    let s ← getState
    memWrite (state + BitVec.ofNat 32 i) (s.slot i)
    saveWords state n (i + 1)

/-- `SaveStack` (47_control_transfers.md R652). -/
def saveStack (state : LongWord) : M Unit := do
  let s ← getState
  saveWords state (min (s.sp.val + 2) 14) 0
  memWrite (state + 14) (bytePair s.brk (BitVec.ofNat 8 s.sp.val))
  update fun s => { s with sp := 0, savedSP := 0, brk := 0 }

/-- Load stack words `i`, `i + 1`, ... from a state vector, `n` of them. -/
def loadWords (state : LongWord) (n i : Nat) : M Unit :=
  match n with
  | 0 => pure ()
  | n + 1 => do
    let w ← memRead (state + BitVec.ofNat 32 i)
    update fun s => { s with stack := s.stack.setIfInBounds i w }
    loadWords state n (i + 1)

/-- `LoadStack`; a stack pointer above 14 is refused (47_control_transfers.md R653, U17). -/
def loadStack (state : LongWord) : M Unit := do
  let word ← memRead (state + 14)
  let stkptr := (rightByte word).toNat
  if h : stkptr < 15 then do
    loadWords state (min (stkptr + 2) 14) 0
    update fun s => { s with sp := ⟨stkptr, h⟩, savedSP := ⟨stkptr, h⟩, brk := leftByte word }
  else refuse (.stackPointer (rightByte word))

/-! ### The Process Data Area (48_process_instructions.md R671 to R682) -/

/-- `LengthenPdaPtr`; the PDA is at `mPDA = 0x10000` (48_process_instructions.md R671, R674). -/
def pdaAddress (ptr : Word) : LongWord := mkLong ptr 1

/-- `OffsetPda` (48_process_instructions.md R674). -/
def offsetPda (p : LongWord) : M Word :=
  if highHalf p = 1 then pure (lowHalf p) else refuse .pdaOffset

/-- `Handle` (48_process_instructions.md R674). -/
def psbHandle (i : BitVec 10) : Word := i.setWidth 16 <<< 3

/-- `Index`, keeping ten bits (48_process_instructions.md R674, U9). -/
def psbIndex (handle : Word) : BitVec 10 := handle.extractLsb' 3 10

/-- The address of word `k` of a PSB (48_process_instructions.md R676). -/
def psbWord (i : BitVec 10) (k : Word) : LongWord := pdaAddress (psbHandle i + k)

/-- `@PDA.block[i].link` (48_process_instructions.md R676). -/
def psbLink (i : BitVec 10) : LongWord := psbWord i 0

/-- `@PDA.block[i].flags` (48_process_instructions.md R676). -/
def psbFlags (i : BitVec 10) : LongWord := psbWord i 1

/-- `@PDA.block[i].context` (48_process_instructions.md R676). -/
def psbContext (i : BitVec 10) : LongWord := psbWord i 2

/-- `@PDA.block[i].timeout` (48_process_instructions.md R676). -/
def psbTimeout (i : BitVec 10) : LongWord := psbWord i 3

/-- `@PDA.block[i].mds` (48_process_instructions.md R676). -/
def psbMds (i : BitVec 10) : LongWord := psbWord i 4

/-- `@PDA.ready` (48_process_instructions.md R671). -/
def readyQueue : LongWord := pdaAddress 0

/-- `@PDA.count` (48_process_instructions.md R671). -/
def pdaCount : LongWord := pdaAddress 1

/-- `@PDA.state[pri]` (48_process_instructions.md R671, R724). -/
def stateList (pri : BitVec 3) : LongWord := pdaAddress (8 + pri.setWidth 16)

/-- `@PDA.interrupt[level].condition` (48_process_instructions.md R671). -/
def interruptCondition (level : Nat) : LongWord := pdaAddress (16 + 2 * BitVec.ofNat 16 level)

/-- The number of a fault (60_exceptions.md R795 to R797). -/
def FaultIndex.code (fi : FaultIndex) : Word :=
  match fi with
  | .frameFault => 0
  | .pageFault => 1
  | .writeProtectFault => 2

/-- `@PDA.fault[fi].queue` (60_exceptions.md R794). -/
def faultQueue (fi : FaultIndex) : LongWord := pdaAddress (48 + 2 * fi.code)

/-- `@PDA.fault[fi].condition` (60_exceptions.md R794). -/
def faultCondition (fi : FaultIndex) : LongWord := pdaAddress (49 + 2 * fi.code)

/-- The PSB index of a link, flags, lock, condition or queue word: bits 12 to 3 (48_process_instructions.md R675). -/
def indexField (w : Word) : BitVec 10 := w.extractLsb' 3 10

/-- The word with its PSB index replaced (48_process_instructions.md R675). -/
def withIndex (w : Word) (i : BitVec 10) : Word := (w &&& 0xE007) ||| psbHandle i

/-- The word with one bit replaced. -/
def withBit (w : Word) (k : Nat) (b : Bool) : Word :=
  if b then w ||| (1#16 <<< k) else w &&& ~~~(1#16 <<< k)

/-- `PsbLink.priority` (48_process_instructions.md R677). -/
def linkPriority (w : Word) : BitVec 3 := w.extractLsb' 13 3

/-- The link word with its priority replaced (48_process_instructions.md R677). -/
def withPriority (w : Word) (p : BitVec 3) : Word := (w &&& 0x1FFF) ||| (p.setWidth 16 <<< 13)

/-- Weight of `PsbLink.failed` (48_process_instructions.md R677). -/
abbrev failedBit : Nat := 2

/-- Weight of `PsbLink.permanent` (48_process_instructions.md R677). -/
abbrev permanentBit : Nat := 1

/-- Weight of `PsbLink.preempted` (48_process_instructions.md R677). -/
abbrev preemptedBit : Nat := 0

/-- Weight of `PsbFlags.waiting` (48_process_instructions.md R678). -/
abbrev waitingBit : Nat := 1

/-- Weight of `PsbFlags.abort` (48_process_instructions.md R678). -/
abbrev abortBit : Nat := 0

/-- Weight of the `locked` bit of a monitor lock (48_process_instructions.md R680). -/
abbrev lockedBit : Nat := 0

/-- Weight of the `abortable` bit of a condition (48_process_instructions.md R681). -/
abbrev abortableBit : Nat := 1

/-- Weight of the `wakeup` bit of a condition (48_process_instructions.md R681). -/
abbrev wakeupBit : Nat := 0

/-! ### Queues (48_process_instructions.md R700 to R703) -/

/-- How many links a search of a ring may follow: there are 1024 PSB indexes (48_process_instructions.md R701, U21). -/
def ringBound : Nat := 1024

/-- The search of `Dequeue` for the entry before `psb`, and its link (48_process_instructions.md R701). -/
def findPrevious (n : Nat) (psb prev : BitVec 10) : M (BitVec 10 × Word) :=
  match n with
  | 0 => refuse .queueSearch
  | n + 1 => do
    let temp ← memRead (psbLink prev)
    if indexField temp = psb then return (prev, temp) else findPrevious n psb (indexField temp)

/-- Follow cleanup links from a PSB whose link is set: the head of the queue, or none where it is empty
(48_process_instructions.md R703). -/
def followCleanup (n : Nat) (psb : BitVec 10) (flags : Word) : M (Option (BitVec 10)) :=
  match n with
  | 0 => refuse .queueSearch
  | n + 1 =>
    if indexField flags = psb then pure none
    else do
      let next := indexField flags
      let flags' ← memRead (psbFlags next)
      if indexField flags' = 0 then return some next else followCleanup n next flags'

/-- The ready queue and the queues of the fault vector, whose headers are always correct: only a process that waits on a
condition variable can time out (48_process_instructions.md R704). -/
def queueNeverStale (que : LongWord) : Bool :=
  que = readyQueue || (List.range 8).any fun i => que = pdaAddress (48 + 2 * BitVec.ofNat 16 i)

/-- The word at a virtual address as the check of `aloneOnQueue` looks at it, 0 where the page cannot be read: a look of the
model and no access of the processor, so it marks no map entry and gives the devices no turn (log entry 29). -/
def State.peek (s : State) (va : LongWord) : Word :=
  match s.translate va .read with
  | .ok a => readReal s.mem a
  | .error _ => 0

/-- The cleanup links from `cur` on lead to `target`, as `CleanupCondition` would follow them
(48_process_instructions.md R703). -/
def State.cleanupLeadsTo (s : State) (n : Nat) (cur target : BitVec 10) : Bool :=
  match n with
  | 0 => false
  | n + 1 =>
    let next := indexField (s.peek (psbFlags cur))
    if next = 0 then cur = target
    else if next = cur then false
    else s.cleanupLeadsTo n next target

/-- A process alone on its ring is on the queue at `que`, whose tail is `tail`: it is the tail, or the queue is a condition
whose tail has been taken off it and whose cleanup links lead to the process (48_process_instructions.md R701, R703). -/
def State.aloneOnQueue (s : State) (que : LongWord) (psb tail : BitVec 10) : Bool :=
  tail = psb || (tail ≠ 0 && !queueNeverStale que && s.cleanupLeadsTo ringBound tail psb)

/-- The entry before `psb` on its ring, 0 where it is alone, with its link replaced by that of `psb`; `tail` is the tail of the
queue at `que`, or 0 where the queue is not known. A process that is not on the queue is refused; for one that is alone the
check looks at the state and makes no access (48_process_instructions.md R701, 60_exceptions.md R798, U21, log entry 29). -/
def unlink (que : LongWord) (tail psb : BitVec 10) (link : Word) : M (BitVec 10) :=
  if indexField link = psb then do
    let s ← getState
    if que = 0 ∨ s.aloneOnQueue que psb tail then pure 0 else refuse .notOnQueue
  else if que ≠ 0 ∧ tail = 0 then refuse .notOnQueue
  else do
    let (prev, temp) ← findPrevious ringBound psb (if que = 0 then psb else tail)
    memWrite (psbLink prev) (withIndex temp (indexField link))
    return prev

/-- `Dequeue`; a queue address of 0 means the queue is not known (48_process_instructions.md R701). -/
def dequeue (que : LongWord) (psb : BitVec 10) : M Unit := do
  let queue ← if que = 0 then pure 0 else memRead que
  let link ← memRead (psbLink psb)
  let prev ← unlink que (indexField queue) psb link
  if que = 0 then do
    let flags ← memRead (psbFlags psb)
    memWrite (psbFlags psb) (withIndex flags (indexField link))
  else if indexField queue = psb then memWrite que (withIndex queue prev)
  else pure ()

/-- The search of `Enqueue` for the entry after which a process of the given priority stands, and its link
(48_process_instructions.md R702). -/
def findPlace (n : Nat) (priority : BitVec 3) (prev : BitVec 10) (current : Word) : M (BitVec 10 × Word) :=
  match n with
  | 0 => refuse .queueSearch
  | n + 1 => do
    let next ← memRead (psbLink (indexField current))
    if (linkPriority next).ult priority then return (prev, current)
    else findPlace n priority (indexField current) next

/-- `Enqueue`, by priority (48_process_instructions.md R702). -/
def enqueue (que : LongWord) (psb : BitVec 10) : M Unit := do
  let queue ← memRead que
  let link ← memRead (psbLink psb)
  if indexField queue = 0 then do
    memWrite (psbLink psb) (withIndex link psb)
    memWrite que (withIndex queue psb)
  else do
    let tail := indexField queue
    let tailLink ← memRead (psbLink tail)
    let (prev, current) ←
      if (linkPriority link).ule (linkPriority tailLink) then do
        memWrite que (withIndex queue psb)
        pure (tail, tailLink)
      else findPlace ringBound (linkPriority link) tail tailLink
    memWrite (psbLink psb) (withIndex link (indexField current))
    memWrite (psbLink prev) (withIndex current psb)

/-- `Requeue` (48_process_instructions.md R700). -/
def requeue (src dst : LongWord) (psb : BitVec 10) : M Unit := do
  if psb = 0 then refuse .nullProcess
  dequeue src psb
  enqueue dst psb

/-- The entry of a ring whose successor is `head` (48_process_instructions.md R703). -/
def findTail (n : Nat) (head psb : BitVec 10) : M (BitVec 10) :=
  match n with
  | 0 => refuse .queueSearch
  | n + 1 => do
    let link ← memRead (psbLink psb)
    if indexField link = head then return psb else findTail n head (indexField link)

/-- `CleanupCondition` (48_process_instructions.md R703). -/
def cleanupCondition (c : LongWord) : M Unit := do
  let cond ← memRead c
  let psb := indexField cond
  if psb = 0 then pure ()
  else do
    let flags ← memRead (psbFlags psb)
    if indexField flags = 0 then pure ()
    else do
      let found ← followCleanup ringBound psb flags
      match found with
      | none => memWrite c (withIndex (withBit cond wakeupBit false) 0)
      | some head => do
        let tail ← findTail ringBound head head
        memWrite c (withIndex cond tail)

/-- `WakeHead` (48_process_instructions.md R697). -/
def wakeHead (c : LongWord) : M Unit := do
  let cond ← memRead c
  let link ← memRead (psbLink (indexField cond))
  let head := indexField link
  let flags ← memRead (psbFlags head)
  memWrite (psbFlags head) (withBit flags waitingBit false)
  memWrite (psbTimeout head) 0
  requeue c readyQueue head

/-- `NotifyWakeup` (60_exceptions.md R803). -/
def notifyWakeup (c : LongWord) : M Bool := do
  cleanupCondition c
  let cond ← memRead c
  if indexField cond = 0 then do
    memWrite c (withBit cond wakeupBit true)
    return false
  else do
    wakeHead c
    return true

/-! ### The scheduler (48_process_instructions.md R720 to R726) -/

/-- `ValidContext` (48_process_instructions.md R721). -/
def State.validContext (s : State) : Bool := 8 ≤ s.pc.toNat

/-- `EmptyState` (48_process_instructions.md R724). -/
def emptyState (pri : BitVec 3) : M Bool := do
  let head ← memRead (stateList pri)
  return head == 0

/-- `AllocState` (48_process_instructions.md R725). -/
def allocState (pri : BitVec 3) : M LongWord := do
  let offset ← memRead (stateList pri)
  if offset = 0 then refuse .noStateVector
  let next ← memRead (pdaAddress offset)
  memWrite (stateList pri) next
  return pdaAddress offset

/-- `FreeState` (48_process_instructions.md R726). -/
def freeState (pri : BitVec 3) (state : LongWord) : M Unit := do
  let head ← memRead (stateList pri)
  memWrite state head
  let offset ← offsetPda state
  memWrite (stateList pri) offset

/-- Store `PC` in the current frame, if the context is valid (48_process_instructions.md R722, 60_exceptions.md R765). -/
def savePC : M Unit := do
  let s ← getState
  if s.validContext then memWriteMds (s.lf - 1) s.pc

/-- `SaveProcess` (48_process_instructions.md R722). -/
def saveProcess (preemption : Bool) : M Unit := noAbort .abortInSaveProcess do
  let s ← getState
  let link ← memRead (psbLink s.psb)
  savePC
  let permanent := link.getLsbD permanentBit
  if preemption then do
    let state ←
      if permanent then do
        let context ← memRead (psbContext s.psb)
        pure (pdaAddress context)
      else allocState (linkPriority link)
    saveStack state
    memWrite (state + 15) s.lf
    if permanent then pure ()
    else do
      let offset ← offsetPda state
      memWrite (psbContext s.psb) offset
  else if permanent then do
    let context ← memRead (psbContext s.psb)
    memWrite (pdaAddress context + 15) s.lf
  else memWrite (psbContext s.psb) s.lf
  memWrite (psbLink s.psb) (withBit link preemptedBit preemption)

/-- `LoadProcess`: the frame of the process in `PSB` (48_process_instructions.md R723). -/
def loadProcess : M Word := noAbort .abortInLoadProcess do
  let s ← getState
  let link ← memRead (psbLink s.psb)
  let context ← memRead (psbContext s.psb)
  let frame ←
    if link.getLsbD preemptedBit then do
      let state := pdaAddress context
      loadStack state
      let frame ← memRead (state + 15)
      if link.getLsbD permanentBit then pure () else freeState (linkPriority link) state
      pure frame
    else do
      if link.getLsbD failedBit then do
        push 0
        memWrite (psbLink s.psb) (withBit link failedBit false)
      if link.getLsbD permanentBit then memRead (pdaAddress context + 15) else pure context
  let mds ← memRead (psbMds s.psb)
  update fun s => { s with mds := mds }
  return frame

/-- The first runnable process from `link`'s successor on, up to the tail (48_process_instructions.md R720). -/
def findRunnable (n : Nat) (tail : BitVec 10) (link : Word) : M (Option (BitVec 10)) :=
  match n with
  | 0 => refuse .queueSearch
  | n + 1 => do
    let psb := indexField link
    let link' ← memRead (psbLink psb)
    let runnable ←
      if link'.getLsbD permanentBit || link'.getLsbD preemptedBit then pure true
      else do
        let empty ← emptyState (linkPriority link')
        pure (!empty)
    if runnable then return some psb
    else if psb = tail then return none
    else findRunnable n tail link'

/-- The process `Reschedule` chooses, if any (48_process_instructions.md R720). -/
def chooseProcess : M (Option (BitVec 10)) := do
  let queue ← memRead readyQueue
  if indexField queue = 0 then return none
  else do
    let link ← memRead (psbLink (indexField queue))
    findRunnable ringBound (indexField queue) link

/-- `Reschedule` (48_process_instructions.md R720). -/
def reschedule (preemption : Bool) : M Unit := do
  let s ← getState
  if s.running then saveProcess preemption
  let chosen ← chooseProcess
  match chosen with
  | some psb => do
    update fun s => { s with psb := psb, pc := 0, savedPC := 0 }
    let frame ← loadProcess
    update fun s => { s with lf := frame, running := true }
    xfer (zextLong frame) 0 .processSwitch false
  | none => do
    let s ← getState
    if s.wdc = 0 then update fun s => { s with running := false } else raise rescheduleError

/-! ### Interrupts and timeouts (60_exceptions.md R802, R803, R812) -/

/-- The notifies of `Interrupt` from `level` 15 down to 0: `n` levels are left, and bit `15 - level` by weight is the
level's bit (60_exceptions.md R803). -/
def notifyLevels (n : Nat) (wakeups : Word) (woken : Bool) : M Bool :=
  match n with
  | 0 => pure woken
  | level + 1 =>
    if wakeups.getLsbD (15 - level) then do
      let w ← notifyWakeup (interruptCondition level)
      notifyLevels level wakeups (w || woken)
    else notifyLevels level wakeups woken

/-- `CheckForInterrupts`, with `Interrupt`'s atomic read and clear of `WP` (60_exceptions.md R802, R803). -/
def checkForInterrupts : M Bool := do
  let pending ← interruptPending
  if pending then do
    let s ← getState
    update fun s => { s with wp := 0 }
    notifyLevels 16 s.wp false
  else return false

/-- `TimeoutScan` over `n` PSBs from `psb` on (60_exceptions.md R812). -/
def timeoutScan (n psb : Nat) (woken : Bool) : M Bool :=
  match n with
  | 0 => pure woken
  | n + 1 => do
    let i := BitVec.ofNat 10 psb
    let timeout ← memRead (psbTimeout i)
    let s ← getState
    if timeout ≠ 0 ∧ timeout = s.ptc then do
      let flags ← memRead (psbFlags i)
      memWrite (psbFlags i) (withBit flags waitingBit false)
      memWrite (psbTimeout i) 0
      requeue 0 readyQueue i
      timeoutScan n (psb + 1) true
    else timeoutScan n (psb + 1) woken

/-- `CheckForTimeouts` (60_exceptions.md R812). -/
def checkForTimeouts : M Bool := do
  let s ← getState
  if s.wdc = 0 then do
    let now ← sampleTimer
    if Config.timeOutInterval ≤ (now - s.time).toNat then do
      update fun s => { s with time := now, ptc := if s.ptc + 1 = 0 then 1 else s.ptc + 1 }
      let count ← memRead pdaCount
      if 1024 < 8 + count.toNat then refuse (.timeoutCount count)
      timeoutScan count.toNat 8 false
    else return false
  else return false

/-! ### Taking an exception (60_exceptions.md R764, R765, R790, R794)

The return from one has no operation of its own: a handler ends with `LSK` and `XF` or `XE`, that is `loadStack` and
`xfer`, and a fault handler with `REQ`, that is `requeue` (60_exceptions.md R823). -/

/-- `Trap`: save the trapped context and transfer to the handler in the table entry (60_exceptions.md R765). -/
def trap (entry : Word) : M Unit := do
  let handler ← readDblMds entry
  update fun s => { s with pc := s.savedPC, sp := s.savedSP }
  savePC
  let s ← getState
  xfer handler s.lf .trap false

/-- Store a word in a local of the current frame: a trap parameter (60_exceptions.md R764, R766). -/
def storeParameter (k p : Word) : M Unit := do
  let s ← getState
  memWriteMds (s.lf + k) p

/-- The trap routines `TrapZero`, `TrapOne`, `TrapTwo` and that of the xfer trap (60_exceptions.md R764, R790). An abort
that is no trap is raised again. -/
def takeTrap (a : Abort) : M Unit :=
  match a with
  | .trapZero entry => trap entry
  | .trapOne entry p => do
    trap entry
    storeParameter 0 p
  | .trapTwo entry p => do
    trap entry
    storeParameter 0 (lowHalf p)
    storeParameter 1 (highHalf p)
  | .xferTrap dst type => do
    noAbort .abortInXferTrap (trap xferTrapEntry)
    storeParameter 0 (lowHalf dst)
    storeParameter 1 (highHalf dst)
    storeParameter 2 type.code
  | a => raise a

/-- `Fault`: the process goes to the fault queue, its handler's condition is notified, and the scheduler runs another
process; the answer is the faulted process (60_exceptions.md R794, R798). -/
def switchFromFault (fi : FaultIndex) : M (BitVec 10) := do
  let s ← getState
  noAbort .abortInFault do
    requeue readyQueue (faultQueue fi) s.psb
    let _ ← notifyWakeup (faultCondition fi)
  update fun s => { s with pc := s.savedPC, sp := s.savedSP }
  reschedule true
  return s.psb

/-- The offset in the PDA of the state vector that `SaveProcess` used for a faulted process, which the fault routines fetch
once (60_exceptions.md R794). -/
def faultState (psb : BitVec 10) : M Word := noAbort .abortInFault (memRead (psbContext psb))

/-- Store a word in the data part of the state vector at an offset in the PDA: a fault parameter (60_exceptions.md R794). -/
def storeFaultParameter (state k p : Word) : M Unit :=
  noAbort .abortInFault (memWrite (pdaAddress (state + 16 + k)) p)

/-- The fault routines `FaultOne` and `FaultTwo` (60_exceptions.md R794). An abort that is no fault is raised again. -/
def takeFault (a : Abort) : M Unit :=
  match a with
  | .faultOne fi p => do
    let psb ← switchFromFault fi
    let state ← faultState psb
    storeFaultParameter state 0 p
  | .faultTwo fi p => do
    let psb ← switchFromFault fi
    let state ← faultState psb
    storeFaultParameter state 0 (lowHalf p)
    storeFaultParameter state 1 (highHalf p)
  | a => raise a

/-- The abort is a trap. -/
def Abort.isTrap (a : Abort) : Bool :=
  match a with
  | .trapZero _ | .trapOne _ _ | .trapTwo _ _ | .xferTrap _ _ => true
  | .faultOne _ _ | .faultTwo _ _ | .stuck _ | .refuse _ => false

/-- Take a trap, and any trap its transfer raises in its place (60_exceptions.md R761, R822). The traps that a trap's
transfer can raise have three table entries in all, and nothing they read changes from one to the next, so after `n = 8`
of them an entry has come again and the machine goes round for ever (log entry 14). -/
def settleTraps (n : Nat) (a : Abort) (s : State) : EStateM.Result Abort State Unit :=
  match n with
  | 0 => .error (.stuck .trapLoop) s
  | n + 1 =>
    if a.isTrap then
      match takeTrap a s with
      | .ok _ s' => .ok () s'
      | .error a' s' => settleTraps n a' s'
    else .error a s

/-- Take an exception, and any exception that taking it raises. Each fault moves one more process to a fault queue, so
there are at most as many as there are processes (log entry 14). -/
def settle (n : Nat) (a : Abort) (s : State) : Answer :=
  match n with
  | 0 => .fault .faultLoop
  | n + 1 =>
    match settleTraps 8 a s with
    | .ok _ s' => .next s'
    | .error (.stuck f) _ => .fault f
    | .error (.refuse r) _ => .refused r
    | .error a' s' =>
      match takeFault a' s' with
      | .ok _ s'' => .next s''
      | .error a'' s'' => settle n a'' s''

/-- TAKING AN EXCEPTION: what the machine does once an instruction is aborted (60_exceptions.md R761). -/
def deliver (a : Abort) (s : State) : Answer := settle 1025 a s

/-- Run a routine as an instruction: its abort is delivered (30_encoding.md R170). -/
def run (m : M Unit) (s : State) : Answer :=
  match m s with
  | .ok _ s' => .next s'
  | .error a s' => deliver a s'

end Sys2Proof.Machine
end

