-- ==== Sys2Proof/Machine/Assign.lean ====
section
/-!
DEFINITION. The immediate, local frame, global frame, direct pointer and indirect pointer instructions
(43_assign_immediate_frame_pointer.md). Short pointers wrap within the MDS, long pointers are 32-bit (R360(c)); a double
store writes the higher address first (R392), a double load reads the lower address first.
-/
namespace Sys2Proof.Machine

/-- Push the word at a short pointer. -/
def loadShort (p : Word) : M Unit := do
  let w ← memReadMds p
  push w

/-- Push the double word at a short pointer, each word as soon as it is read (43_assign_immediate_frame_pointer.md R386). -/
def loadShortDouble (p : Word) : M Unit := do
  loadShort p
  loadShort (p + 1)

/-- Push the double word at a short pointer after both reads (43_assign_immediate_frame_pointer.md R414). -/
def fetchShortDouble (p : Word) : M Unit := do
  let u ← memReadMds p
  let v ← memReadMds (p + 1)
  push u
  push v

/-- Push the word at a long pointer. -/
def loadLong (p : LongWord) : M Unit := do
  let w ← memRead p
  push w

/-- Push the double word at a long pointer after both reads (43_assign_immediate_frame_pointer.md R416). -/
def fetchLongDouble (p : LongWord) : M Unit := do
  let u ← memRead p
  let v ← memRead (p + 1)
  push u
  push v

/-- Pop a long and store it at a short pointer (43_assign_immediate_frame_pointer.md R390, R392). -/
def storeShortDouble (p : Word) : M Unit := do
  memWritePopMds (p + 1)
  memWritePopMds p

/-- Pop a long and store it at a long pointer (43_assign_immediate_frame_pointer.md R424, R392). -/
def storeLongDouble (p : LongWord) : M Unit := do
  memWritePop (p + 1)
  memWritePop p

/-- The address of a local variable: `LF + n` (43_assign_immediate_frame_pointer.md R378). -/
def localAddress (n : Word) : M Word := do
  let s ← getState
  return s.lf + n

/-- The address of a global variable: `GF + n` (43_assign_immediate_frame_pointer.md R399). -/
def globalAddress (n : Word) : M Word := do
  let s ← getState
  return s.gf + n

/-- `LAn` (43_assign_immediate_frame_pointer.md R378). -/
def pushLocalAddress (n : Word) : M Unit := do
  let p ← localAddress n
  push p

/-- `GAn` (43_assign_immediate_frame_pointer.md R399). -/
def pushGlobalAddress (n : Word) : M Unit := do
  let p ← globalAddress n
  push p

/-- `LLn` (43_assign_immediate_frame_pointer.md R384). -/
def loadLocal (n : Word) : M Unit := do
  let p ← localAddress n
  loadShort p

/-- `LLDn` (43_assign_immediate_frame_pointer.md R386). -/
def loadLocalDouble (n : Word) : M Unit := do
  let p ← localAddress n
  loadShortDouble p

/-- `SLn` (43_assign_immediate_frame_pointer.md R388). -/
def storeLocal (n : Word) : M Unit := do
  let p ← localAddress n
  memWritePopMds p

/-- `SLDn` (43_assign_immediate_frame_pointer.md R390). -/
def storeLocalDouble (n : Word) : M Unit := do
  let p ← localAddress n
  storeShortDouble p

/-- `PLn` (43_assign_immediate_frame_pointer.md R393). -/
def putLocal (n : Word) : M Unit := do
  storeLocal n
  recoverTop

/-- `PLD0` with any offset (43_assign_immediate_frame_pointer.md R395). -/
def putLocalDouble (n : Word) : M Unit := do
  storeLocalDouble n
  recoverTop
  recoverTop

/-- `LGn` (43_assign_immediate_frame_pointer.md R402). -/
def loadGlobal (n : Word) : M Unit := do
  let p ← globalAddress n
  loadShort p

/-- `LGDn` (43_assign_immediate_frame_pointer.md R404). -/
def loadGlobalDouble (n : Word) : M Unit := do
  let p ← globalAddress n
  loadShortDouble p

/-- `RB` with any offset (43_assign_immediate_frame_pointer.md R411). -/
def readShort (n : Word) : M Unit := do
  let ptr ← pop
  loadShort (ptr + n)

/-- `RLB` with any offset (43_assign_immediate_frame_pointer.md R413). -/
def readLong (n : LongWord) : M Unit := do
  let ptr ← popLong
  loadLong (ptr + n)

/-- `RDB` with any offset (43_assign_immediate_frame_pointer.md R415). -/
def readShortDouble (n : Word) : M Unit := do
  let ptr ← pop
  fetchShortDouble (ptr + n)

/-- `RDLB` with any offset (43_assign_immediate_frame_pointer.md R417). -/
def readLongDouble (n : LongWord) : M Unit := do
  let ptr ← popLong
  fetchLongDouble (ptr + n)

/-- `WB` with any offset (43_assign_immediate_frame_pointer.md R421). -/
def writeShort (n : Word) : M Unit := do
  let ptr ← pop
  memWritePopMds (ptr + n)

/-- `PSDB` with any offset (43_assign_immediate_frame_pointer.md R428). -/
def putSwappedDouble (n : Word) : M Unit := do
  let v ← pop
  let u ← pop
  let ptr ← pop
  memWriteMds (ptr + n + 1) v
  memWriteMds (ptr + n) u
  recoverTop

/-- The short pointer in a local (43_assign_immediate_frame_pointer.md R441). -/
def localPointer (left : Word) : M Word := do
  let p ← localAddress left
  memReadMds p

/-- The long pointer in two locals (43_assign_immediate_frame_pointer.md R442). -/
def localLongPointer (left : Word) : M LongWord := do
  let p ← localAddress left
  readDblMds p

/-- `RLIP` (43_assign_immediate_frame_pointer.md R440, R441). -/
def readLocalIndirect (left right : Word) : M Unit := do
  let ptr ← localPointer left
  loadShort (ptr + right)

/-- `RLDIP` (43_assign_immediate_frame_pointer.md R445, R446). -/
def readLocalDoubleIndirect (left right : Word) : M Unit := do
  let ptr ← localPointer left
  fetchShortDouble (ptr + right)

/-- `LIN1` (43_assign_immediate_frame_pointer.md R362). -/
def doLin1 : M Unit := push 0xFFFF

/-- The meaning of `LIN1`. -/
def execLin1 (s : State) : Answer := run doLin1 s

/-- `LINI` (43_assign_immediate_frame_pointer.md R363). -/
def doLini : M Unit := push 0x8000

/-- The meaning of `LINI`. -/
def execLini (s : State) : Answer := run doLini s

/-- `LID0` (43_assign_immediate_frame_pointer.md R364). -/
def doLid0 : M Unit := pushLong 0

/-- The meaning of `LID0`. -/
def execLid0 (s : State) : Answer := run doLid0 s

/-- `LI0` (43_assign_immediate_frame_pointer.md R365). -/
def doLi0 : M Unit := push 0

/-- The meaning of `LI0`. -/
def execLi0 (s : State) : Answer := run doLi0 s

/-- `LI1` (43_assign_immediate_frame_pointer.md R365). -/
def doLi1 : M Unit := push 1

/-- The meaning of `LI1`. -/
def execLi1 (s : State) : Answer := run doLi1 s

/-- `LI2` (43_assign_immediate_frame_pointer.md R365). -/
def doLi2 : M Unit := push 2

/-- The meaning of `LI2`. -/
def execLi2 (s : State) : Answer := run doLi2 s

/-- `LI3` (43_assign_immediate_frame_pointer.md R365). -/
def doLi3 : M Unit := push 3

/-- The meaning of `LI3`. -/
def execLi3 (s : State) : Answer := run doLi3 s

/-- `LI4` (43_assign_immediate_frame_pointer.md R365). -/
def doLi4 : M Unit := push 4

/-- The meaning of `LI4`. -/
def execLi4 (s : State) : Answer := run doLi4 s

/-- `LI5` (43_assign_immediate_frame_pointer.md R365). -/
def doLi5 : M Unit := push 5

/-- The meaning of `LI5`. -/
def execLi5 (s : State) : Answer := run doLi5 s

/-- `LI6` (43_assign_immediate_frame_pointer.md R365). -/
def doLi6 : M Unit := push 6

/-- The meaning of `LI6`. -/
def execLi6 (s : State) : Answer := run doLi6 s

/-- `LI7` (43_assign_immediate_frame_pointer.md R365). -/
def doLi7 : M Unit := push 7

/-- The meaning of `LI7`. -/
def execLi7 (s : State) : Answer := run doLi7 s

/-- `LI8` (43_assign_immediate_frame_pointer.md R365). -/
def doLi8 : M Unit := push 8

/-- The meaning of `LI8`. -/
def execLi8 (s : State) : Answer := run doLi8 s

/-- `LI9` (43_assign_immediate_frame_pointer.md R365). -/
def doLi9 : M Unit := push 9

/-- The meaning of `LI9`. -/
def execLi9 (s : State) : Answer := run doLi9 s

/-- `LI10` (43_assign_immediate_frame_pointer.md R365). -/
def doLi10 : M Unit := push 10

/-- The meaning of `LI10`. -/
def execLi10 (s : State) : Answer := run doLi10 s

/-- `LIB` (43_assign_immediate_frame_pointer.md R366). -/
def doLib (alpha : Byte) : M Unit := push (zextByte alpha)

/-- The meaning of `LIB`. -/
def execLib (alpha : Byte) (s : State) : Answer := run (doLib alpha) s

/-- `LINB` (43_assign_immediate_frame_pointer.md R367). -/
def doLinb (alpha : Byte) : M Unit := push (bytePair 0xFF alpha)

/-- The meaning of `LINB`. -/
def execLinb (alpha : Byte) (s : State) : Answer := run (doLinb alpha) s

/-- `LIHB` (43_assign_immediate_frame_pointer.md R368). -/
def doLihb (alpha : Byte) : M Unit := push (bytePair alpha 0)

/-- The meaning of `LIHB`. -/
def execLihb (alpha : Byte) (s : State) : Answer := run (doLihb alpha) s

/-- `LIW` (43_assign_immediate_frame_pointer.md R369). -/
def doLiw (word : Word) : M Unit := push word

/-- The meaning of `LIW`. -/
def execLiw (word : Word) (s : State) : Answer := run (doLiw word) s

/-- `LA0` (43_assign_immediate_frame_pointer.md R378). -/
def doLa0 : M Unit := pushLocalAddress 0

/-- The meaning of `LA0`. -/
def execLa0 (s : State) : Answer := run doLa0 s

/-- `LA1` (43_assign_immediate_frame_pointer.md R378). -/
def doLa1 : M Unit := pushLocalAddress 1

/-- The meaning of `LA1`. -/
def execLa1 (s : State) : Answer := run doLa1 s

/-- `LA2` (43_assign_immediate_frame_pointer.md R378). -/
def doLa2 : M Unit := pushLocalAddress 2

/-- The meaning of `LA2`. -/
def execLa2 (s : State) : Answer := run doLa2 s

/-- `LA3` (43_assign_immediate_frame_pointer.md R378). -/
def doLa3 : M Unit := pushLocalAddress 3

/-- The meaning of `LA3`. -/
def execLa3 (s : State) : Answer := run doLa3 s

/-- `LA6` (43_assign_immediate_frame_pointer.md R378). -/
def doLa6 : M Unit := pushLocalAddress 6

/-- The meaning of `LA6`. -/
def execLa6 (s : State) : Answer := run doLa6 s

/-- `LA8` (43_assign_immediate_frame_pointer.md R378). -/
def doLa8 : M Unit := pushLocalAddress 8

/-- The meaning of `LA8`. -/
def execLa8 (s : State) : Answer := run doLa8 s

/-- `LAB` (43_assign_immediate_frame_pointer.md R379). -/
def doLab (alpha : Byte) : M Unit := pushLocalAddress (zextByte alpha)

/-- The meaning of `LAB`. -/
def execLab (alpha : Byte) (s : State) : Answer := run (doLab alpha) s

/-- `LAW` (43_assign_immediate_frame_pointer.md R380). -/
def doLaw (word : Word) : M Unit := pushLocalAddress word

/-- The meaning of `LAW`. -/
def execLaw (word : Word) (s : State) : Answer := run (doLaw word) s

/-- `LL0` (43_assign_immediate_frame_pointer.md R384). -/
def doLl0 : M Unit := loadLocal 0

/-- The meaning of `LL0`. -/
def execLl0 (s : State) : Answer := run doLl0 s

/-- `LL1` (43_assign_immediate_frame_pointer.md R384). -/
def doLl1 : M Unit := loadLocal 1

/-- The meaning of `LL1`. -/
def execLl1 (s : State) : Answer := run doLl1 s

/-- `LL2` (43_assign_immediate_frame_pointer.md R384). -/
def doLl2 : M Unit := loadLocal 2

/-- The meaning of `LL2`. -/
def execLl2 (s : State) : Answer := run doLl2 s

/-- `LL3` (43_assign_immediate_frame_pointer.md R384). -/
def doLl3 : M Unit := loadLocal 3

/-- The meaning of `LL3`. -/
def execLl3 (s : State) : Answer := run doLl3 s

/-- `LL4` (43_assign_immediate_frame_pointer.md R384). -/
def doLl4 : M Unit := loadLocal 4

/-- The meaning of `LL4`. -/
def execLl4 (s : State) : Answer := run doLl4 s

/-- `LL5` (43_assign_immediate_frame_pointer.md R384). -/
def doLl5 : M Unit := loadLocal 5

/-- The meaning of `LL5`. -/
def execLl5 (s : State) : Answer := run doLl5 s

/-- `LL6` (43_assign_immediate_frame_pointer.md R384). -/
def doLl6 : M Unit := loadLocal 6

/-- The meaning of `LL6`. -/
def execLl6 (s : State) : Answer := run doLl6 s

/-- `LL7` (43_assign_immediate_frame_pointer.md R384). -/
def doLl7 : M Unit := loadLocal 7

/-- The meaning of `LL7`. -/
def execLl7 (s : State) : Answer := run doLl7 s

/-- `LL8` (43_assign_immediate_frame_pointer.md R384). -/
def doLl8 : M Unit := loadLocal 8

/-- The meaning of `LL8`. -/
def execLl8 (s : State) : Answer := run doLl8 s

/-- `LL9` (43_assign_immediate_frame_pointer.md R384). -/
def doLl9 : M Unit := loadLocal 9

/-- The meaning of `LL9`. -/
def execLl9 (s : State) : Answer := run doLl9 s

/-- `LL10` (43_assign_immediate_frame_pointer.md R384). -/
def doLl10 : M Unit := loadLocal 10

/-- The meaning of `LL10`. -/
def execLl10 (s : State) : Answer := run doLl10 s

/-- `LL11` (43_assign_immediate_frame_pointer.md R384). -/
def doLl11 : M Unit := loadLocal 11

/-- The meaning of `LL11`. -/
def execLl11 (s : State) : Answer := run doLl11 s

/-- `LLB` (43_assign_immediate_frame_pointer.md R385). -/
def doLlb (alpha : Byte) : M Unit := loadLocal (zextByte alpha)

/-- The meaning of `LLB`. -/
def execLlb (alpha : Byte) (s : State) : Answer := run (doLlb alpha) s

/-- `LLD0` (43_assign_immediate_frame_pointer.md R386). -/
def doLld0 : M Unit := loadLocalDouble 0

/-- The meaning of `LLD0`. -/
def execLld0 (s : State) : Answer := run doLld0 s

/-- `LLD1` (43_assign_immediate_frame_pointer.md R386). -/
def doLld1 : M Unit := loadLocalDouble 1

/-- The meaning of `LLD1`. -/
def execLld1 (s : State) : Answer := run doLld1 s

/-- `LLD2` (43_assign_immediate_frame_pointer.md R386). -/
def doLld2 : M Unit := loadLocalDouble 2

/-- The meaning of `LLD2`. -/
def execLld2 (s : State) : Answer := run doLld2 s

/-- `LLD3` (43_assign_immediate_frame_pointer.md R386). -/
def doLld3 : M Unit := loadLocalDouble 3

/-- The meaning of `LLD3`. -/
def execLld3 (s : State) : Answer := run doLld3 s

/-- `LLD4` (43_assign_immediate_frame_pointer.md R386). -/
def doLld4 : M Unit := loadLocalDouble 4

/-- The meaning of `LLD4`. -/
def execLld4 (s : State) : Answer := run doLld4 s

/-- `LLD5` (43_assign_immediate_frame_pointer.md R386). -/
def doLld5 : M Unit := loadLocalDouble 5

/-- The meaning of `LLD5`. -/
def execLld5 (s : State) : Answer := run doLld5 s

/-- `LLD6` (43_assign_immediate_frame_pointer.md R386). -/
def doLld6 : M Unit := loadLocalDouble 6

/-- The meaning of `LLD6`. -/
def execLld6 (s : State) : Answer := run doLld6 s

/-- `LLD7` (43_assign_immediate_frame_pointer.md R386). -/
def doLld7 : M Unit := loadLocalDouble 7

/-- The meaning of `LLD7`. -/
def execLld7 (s : State) : Answer := run doLld7 s

/-- `LLD8` (43_assign_immediate_frame_pointer.md R386). -/
def doLld8 : M Unit := loadLocalDouble 8

/-- The meaning of `LLD8`. -/
def execLld8 (s : State) : Answer := run doLld8 s

/-- `LLD10` (43_assign_immediate_frame_pointer.md R386). -/
def doLld10 : M Unit := loadLocalDouble 10

/-- The meaning of `LLD10`. -/
def execLld10 (s : State) : Answer := run doLld10 s

/-- `LLDB` (43_assign_immediate_frame_pointer.md R387). -/
def doLldb (alpha : Byte) : M Unit := loadLocalDouble (zextByte alpha)

/-- The meaning of `LLDB`. -/
def execLldb (alpha : Byte) (s : State) : Answer := run (doLldb alpha) s

/-- `SL0` (43_assign_immediate_frame_pointer.md R388). -/
def doSl0 : M Unit := storeLocal 0

/-- The meaning of `SL0`. -/
def execSl0 (s : State) : Answer := run doSl0 s

/-- `SL1` (43_assign_immediate_frame_pointer.md R388). -/
def doSl1 : M Unit := storeLocal 1

/-- The meaning of `SL1`. -/
def execSl1 (s : State) : Answer := run doSl1 s

/-- `SL2` (43_assign_immediate_frame_pointer.md R388). -/
def doSl2 : M Unit := storeLocal 2

/-- The meaning of `SL2`. -/
def execSl2 (s : State) : Answer := run doSl2 s

/-- `SL3` (43_assign_immediate_frame_pointer.md R388). -/
def doSl3 : M Unit := storeLocal 3

/-- The meaning of `SL3`. -/
def execSl3 (s : State) : Answer := run doSl3 s

/-- `SL4` (43_assign_immediate_frame_pointer.md R388). -/
def doSl4 : M Unit := storeLocal 4

/-- The meaning of `SL4`. -/
def execSl4 (s : State) : Answer := run doSl4 s

/-- `SL5` (43_assign_immediate_frame_pointer.md R388). -/
def doSl5 : M Unit := storeLocal 5

/-- The meaning of `SL5`. -/
def execSl5 (s : State) : Answer := run doSl5 s

/-- `SL6` (43_assign_immediate_frame_pointer.md R388). -/
def doSl6 : M Unit := storeLocal 6

/-- The meaning of `SL6`. -/
def execSl6 (s : State) : Answer := run doSl6 s

/-- `SL7` (43_assign_immediate_frame_pointer.md R388). -/
def doSl7 : M Unit := storeLocal 7

/-- The meaning of `SL7`. -/
def execSl7 (s : State) : Answer := run doSl7 s

/-- `SL8` (43_assign_immediate_frame_pointer.md R388). -/
def doSl8 : M Unit := storeLocal 8

/-- The meaning of `SL8`. -/
def execSl8 (s : State) : Answer := run doSl8 s

/-- `SL9` (43_assign_immediate_frame_pointer.md R388). -/
def doSl9 : M Unit := storeLocal 9

/-- The meaning of `SL9`. -/
def execSl9 (s : State) : Answer := run doSl9 s

/-- `SL10` (43_assign_immediate_frame_pointer.md R388). -/
def doSl10 : M Unit := storeLocal 10

/-- The meaning of `SL10`. -/
def execSl10 (s : State) : Answer := run doSl10 s

/-- `SLB` (43_assign_immediate_frame_pointer.md R389). -/
def doSlb (alpha : Byte) : M Unit := storeLocal (zextByte alpha)

/-- The meaning of `SLB`. -/
def execSlb (alpha : Byte) (s : State) : Answer := run (doSlb alpha) s

/-- `SLD0` (43_assign_immediate_frame_pointer.md R390). -/
def doSld0 : M Unit := storeLocalDouble 0

/-- The meaning of `SLD0`. -/
def execSld0 (s : State) : Answer := run doSld0 s

/-- `SLD1` (43_assign_immediate_frame_pointer.md R390). -/
def doSld1 : M Unit := storeLocalDouble 1

/-- The meaning of `SLD1`. -/
def execSld1 (s : State) : Answer := run doSld1 s

/-- `SLD2` (43_assign_immediate_frame_pointer.md R390). -/
def doSld2 : M Unit := storeLocalDouble 2

/-- The meaning of `SLD2`. -/
def execSld2 (s : State) : Answer := run doSld2 s

/-- `SLD3` (43_assign_immediate_frame_pointer.md R390). -/
def doSld3 : M Unit := storeLocalDouble 3

/-- The meaning of `SLD3`. -/
def execSld3 (s : State) : Answer := run doSld3 s

/-- `SLD4` (43_assign_immediate_frame_pointer.md R390). -/
def doSld4 : M Unit := storeLocalDouble 4

/-- The meaning of `SLD4`. -/
def execSld4 (s : State) : Answer := run doSld4 s

/-- `SLD5` (43_assign_immediate_frame_pointer.md R390). -/
def doSld5 : M Unit := storeLocalDouble 5

/-- The meaning of `SLD5`. -/
def execSld5 (s : State) : Answer := run doSld5 s

/-- `SLD6` (43_assign_immediate_frame_pointer.md R390). -/
def doSld6 : M Unit := storeLocalDouble 6

/-- The meaning of `SLD6`. -/
def execSld6 (s : State) : Answer := run doSld6 s

/-- `SLD8` (43_assign_immediate_frame_pointer.md R390). -/
def doSld8 : M Unit := storeLocalDouble 8

/-- The meaning of `SLD8`. -/
def execSld8 (s : State) : Answer := run doSld8 s

/-- `SLDB` (43_assign_immediate_frame_pointer.md R391). -/
def doSldb (alpha : Byte) : M Unit := storeLocalDouble (zextByte alpha)

/-- The meaning of `SLDB`. -/
def execSldb (alpha : Byte) (s : State) : Answer := run (doSldb alpha) s

/-- `PL0` (43_assign_immediate_frame_pointer.md R393). -/
def doPl0 : M Unit := putLocal 0

/-- The meaning of `PL0`. -/
def execPl0 (s : State) : Answer := run doPl0 s

/-- `PL1` (43_assign_immediate_frame_pointer.md R393). -/
def doPl1 : M Unit := putLocal 1

/-- The meaning of `PL1`. -/
def execPl1 (s : State) : Answer := run doPl1 s

/-- `PL2` (43_assign_immediate_frame_pointer.md R393). -/
def doPl2 : M Unit := putLocal 2

/-- The meaning of `PL2`. -/
def execPl2 (s : State) : Answer := run doPl2 s

/-- `PL3` (43_assign_immediate_frame_pointer.md R393). -/
def doPl3 : M Unit := putLocal 3

/-- The meaning of `PL3`. -/
def execPl3 (s : State) : Answer := run doPl3 s

/-- `PLB` (43_assign_immediate_frame_pointer.md R394). -/
def doPlb (alpha : Byte) : M Unit := putLocal (zextByte alpha)

/-- The meaning of `PLB`. -/
def execPlb (alpha : Byte) (s : State) : Answer := run (doPlb alpha) s

/-- `PLD0` (43_assign_immediate_frame_pointer.md R395). -/
def doPld0 : M Unit := putLocalDouble 0

/-- The meaning of `PLD0`. -/
def execPld0 (s : State) : Answer := run doPld0 s

/-- `PLDB` (43_assign_immediate_frame_pointer.md R396). -/
def doPldb (alpha : Byte) : M Unit := putLocalDouble (zextByte alpha)

/-- The meaning of `PLDB`. -/
def execPldb (alpha : Byte) (s : State) : Answer := run (doPldb alpha) s

/-- `AL0IB` (43_assign_immediate_frame_pointer.md R397). -/
def doAl0ib (alpha : Byte) : M Unit := do
  let p ← localAddress 0
  let w ← memReadMds p
  push (w + zextByte alpha)

/-- The meaning of `AL0IB`. -/
def execAl0ib (alpha : Byte) (s : State) : Answer := run (doAl0ib alpha) s

/-- `GA0` (43_assign_immediate_frame_pointer.md R399). -/
def doGa0 : M Unit := pushGlobalAddress 0

/-- The meaning of `GA0`. -/
def execGa0 (s : State) : Answer := run doGa0 s

/-- `GA1` (43_assign_immediate_frame_pointer.md R399). -/
def doGa1 : M Unit := pushGlobalAddress 1

/-- The meaning of `GA1`. -/
def execGa1 (s : State) : Answer := run doGa1 s

/-- `GAB` (43_assign_immediate_frame_pointer.md R400). -/
def doGab (alpha : Byte) : M Unit := pushGlobalAddress (zextByte alpha)

/-- The meaning of `GAB`. -/
def execGab (alpha : Byte) (s : State) : Answer := run (doGab alpha) s

/-- `GAW` (43_assign_immediate_frame_pointer.md R401). -/
def doGaw (word : Word) : M Unit := pushGlobalAddress word

/-- The meaning of `GAW`. -/
def execGaw (word : Word) (s : State) : Answer := run (doGaw word) s

/-- `LG0` (43_assign_immediate_frame_pointer.md R402). -/
def doLg0 : M Unit := loadGlobal 0

/-- The meaning of `LG0`. -/
def execLg0 (s : State) : Answer := run doLg0 s

/-- `LG1` (43_assign_immediate_frame_pointer.md R402). -/
def doLg1 : M Unit := loadGlobal 1

/-- The meaning of `LG1`. -/
def execLg1 (s : State) : Answer := run doLg1 s

/-- `LG2` (43_assign_immediate_frame_pointer.md R402). -/
def doLg2 : M Unit := loadGlobal 2

/-- The meaning of `LG2`. -/
def execLg2 (s : State) : Answer := run doLg2 s

/-- `LGB` (43_assign_immediate_frame_pointer.md R403). -/
def doLgb (alpha : Byte) : M Unit := loadGlobal (zextByte alpha)

/-- The meaning of `LGB`. -/
def execLgb (alpha : Byte) (s : State) : Answer := run (doLgb alpha) s

/-- `LGD0` (43_assign_immediate_frame_pointer.md R404). -/
def doLgd0 : M Unit := loadGlobalDouble 0

/-- The meaning of `LGD0`. -/
def execLgd0 (s : State) : Answer := run doLgd0 s

/-- `LGD2` (43_assign_immediate_frame_pointer.md R404). -/
def doLgd2 : M Unit := loadGlobalDouble 2

/-- The meaning of `LGD2`. -/
def execLgd2 (s : State) : Answer := run doLgd2 s

/-- `LGDB` (43_assign_immediate_frame_pointer.md R405). -/
def doLgdb (alpha : Byte) : M Unit := loadGlobalDouble (zextByte alpha)

/-- The meaning of `LGDB`. -/
def execLgdb (alpha : Byte) (s : State) : Answer := run (doLgdb alpha) s

/-- `SGB` (43_assign_immediate_frame_pointer.md R406). -/
def doSgb (alpha : Byte) : M Unit := do
  let p ← globalAddress (zextByte alpha)
  memWritePopMds p

/-- The meaning of `SGB`. -/
def execSgb (alpha : Byte) (s : State) : Answer := run (doSgb alpha) s

/-- `SGDB` (43_assign_immediate_frame_pointer.md R407). -/
def doSgdb (alpha : Byte) : M Unit := do
  let p ← globalAddress (zextByte alpha)
  storeShortDouble p

/-- The meaning of `SGDB`. -/
def execSgdb (alpha : Byte) (s : State) : Answer := run (doSgdb alpha) s

/-- `R0` (43_assign_immediate_frame_pointer.md R410). -/
def doR0 : M Unit := readShort 0

/-- The meaning of `R0`. -/
def execR0 (s : State) : Answer := run doR0 s

/-- `R1` (43_assign_immediate_frame_pointer.md R410). -/
def doR1 : M Unit := readShort 1

/-- The meaning of `R1`. -/
def execR1 (s : State) : Answer := run doR1 s

/-- `RB` (43_assign_immediate_frame_pointer.md R411). -/
def doRb (alpha : Byte) : M Unit := readShort (zextByte alpha)

/-- The meaning of `RB`. -/
def execRb (alpha : Byte) (s : State) : Answer := run (doRb alpha) s

/-- `RL0` (43_assign_immediate_frame_pointer.md R412). -/
def doRl0 : M Unit := readLong 0

/-- The meaning of `RL0`. -/
def execRl0 (s : State) : Answer := run doRl0 s

/-- `RLB` (43_assign_immediate_frame_pointer.md R413). -/
def doRlb (alpha : Byte) : M Unit := readLong (zextByteLong alpha)

/-- The meaning of `RLB`. -/
def execRlb (alpha : Byte) (s : State) : Answer := run (doRlb alpha) s

/-- `RD0` (43_assign_immediate_frame_pointer.md R414). -/
def doRd0 : M Unit := readShortDouble 0

/-- The meaning of `RD0`. -/
def execRd0 (s : State) : Answer := run doRd0 s

/-- `RDB` (43_assign_immediate_frame_pointer.md R415). -/
def doRdb (alpha : Byte) : M Unit := readShortDouble (zextByte alpha)

/-- The meaning of `RDB`. -/
def execRdb (alpha : Byte) (s : State) : Answer := run (doRdb alpha) s

/-- `RDL0` (43_assign_immediate_frame_pointer.md R416). -/
def doRdl0 : M Unit := readLongDouble 0

/-- The meaning of `RDL0`. -/
def execRdl0 (s : State) : Answer := run doRdl0 s

/-- `RDLB` (43_assign_immediate_frame_pointer.md R417). -/
def doRdlb (alpha : Byte) : M Unit := readLongDouble (zextByteLong alpha)

/-- The meaning of `RDLB`. -/
def execRdlb (alpha : Byte) (s : State) : Answer := run (doRdlb alpha) s

/-- `W0` (43_assign_immediate_frame_pointer.md R420). -/
def doW0 : M Unit := writeShort 0

/-- The meaning of `W0`. -/
def execW0 (s : State) : Answer := run doW0 s

/-- `WB` (43_assign_immediate_frame_pointer.md R421). -/
def doWb (alpha : Byte) : M Unit := writeShort (zextByte alpha)

/-- The meaning of `WB`. -/
def execWb (alpha : Byte) (s : State) : Answer := run (doWb alpha) s

/-- `WLB` (43_assign_immediate_frame_pointer.md R422). -/
def doWlb (alpha : Byte) : M Unit := do
  let ptr ← popLong
  memWritePop (ptr + zextByteLong alpha)

/-- The meaning of `WLB`. -/
def execWlb (alpha : Byte) (s : State) : Answer := run (doWlb alpha) s

/-- `WDB` (43_assign_immediate_frame_pointer.md R423). -/
def doWdb (alpha : Byte) : M Unit := do
  let ptr ← pop
  storeShortDouble (ptr + zextByte alpha)

/-- The meaning of `WDB`. -/
def execWdb (alpha : Byte) (s : State) : Answer := run (doWdb alpha) s

/-- `WDLB` (43_assign_immediate_frame_pointer.md R424). -/
def doWdlb (alpha : Byte) : M Unit := do
  let ptr ← popLong
  storeLongDouble (ptr + zextByteLong alpha)

/-- The meaning of `WDLB`. -/
def execWdlb (alpha : Byte) (s : State) : Answer := run (doWdlb alpha) s

/-- `PSB` (43_assign_immediate_frame_pointer.md R426). -/
def doPsb (alpha : Byte) : M Unit := do
  let u ← pop
  let ptr ← pop
  memWriteMds (ptr + zextByte alpha) u
  recoverTop

/-- The meaning of `PSB`. -/
def execPsb (alpha : Byte) (s : State) : Answer := run (doPsb alpha) s

/-- `PSD0` (43_assign_immediate_frame_pointer.md R427). -/
def doPsd0 : M Unit := putSwappedDouble 0

/-- The meaning of `PSD0`. -/
def execPsd0 (s : State) : Answer := run doPsd0 s

/-- `PSDB` (43_assign_immediate_frame_pointer.md R428). -/
def doPsdb (alpha : Byte) : M Unit := putSwappedDouble (zextByte alpha)

/-- The meaning of `PSDB`. -/
def execPsdb (alpha : Byte) (s : State) : Answer := run (doPsdb alpha) s

/-- `PSLB` (43_assign_immediate_frame_pointer.md R429). -/
def doPslb (alpha : Byte) : M Unit := do
  let u ← pop
  let ptr ← popLong
  memWrite (ptr + zextByteLong alpha) u
  recoverTop
  recoverTop

/-- The meaning of `PSLB`. -/
def execPslb (alpha : Byte) (s : State) : Answer := run (doPslb alpha) s

/-- `PSDLB` (43_assign_immediate_frame_pointer.md R430). -/
def doPsdlb (alpha : Byte) : M Unit := do
  let v ← pop
  let u ← pop
  let ptr ← popLong
  memWrite (ptr + zextByteLong alpha + 1) v
  memWrite (ptr + zextByteLong alpha) u
  recoverTop
  recoverTop

/-- The meaning of `PSDLB`. -/
def execPsdlb (alpha : Byte) (s : State) : Answer := run (doPsdlb alpha) s

/-- `RC` (43_assign_immediate_frame_pointer.md R431). -/
def doRc (alpha : Byte) : M Unit := do
  let offset ← pop
  let w ← readCode (offset + zextByte alpha)
  push w

/-- The meaning of `RC`. -/
def execRc (alpha : Byte) (s : State) : Answer := run (doRc alpha) s

/-- `RLI00` (43_assign_immediate_frame_pointer.md R440). -/
def doRli00 : M Unit := readLocalIndirect 0 0

/-- The meaning of `RLI00`. -/
def execRli00 (s : State) : Answer := run doRli00 s

/-- `RLI01` (43_assign_immediate_frame_pointer.md R440). -/
def doRli01 : M Unit := readLocalIndirect 0 1

/-- The meaning of `RLI01`. -/
def execRli01 (s : State) : Answer := run doRli01 s

/-- `RLI02` (43_assign_immediate_frame_pointer.md R440). -/
def doRli02 : M Unit := readLocalIndirect 0 2

/-- The meaning of `RLI02`. -/
def execRli02 (s : State) : Answer := run doRli02 s

/-- `RLI03` (43_assign_immediate_frame_pointer.md R440). -/
def doRli03 : M Unit := readLocalIndirect 0 3

/-- The meaning of `RLI03`. -/
def execRli03 (s : State) : Answer := run doRli03 s

/-- `RLIP` (43_assign_immediate_frame_pointer.md R441). -/
def doRlip (left right : Nibble) : M Unit := readLocalIndirect (zextNibble left) (zextNibble right)

/-- The meaning of `RLIP`. -/
def execRlip (left right : Nibble) (s : State) : Answer := run (doRlip left right) s

/-- `RLILP` (43_assign_immediate_frame_pointer.md R442). -/
def doRlilp (left right : Nibble) : M Unit := do
  let ptr ← localLongPointer (zextNibble left)
  loadLong (ptr + zextNibbleLong right)

/-- The meaning of `RLILP`. -/
def execRlilp (left right : Nibble) (s : State) : Answer := run (doRlilp left right) s

/-- `RGIP` (43_assign_immediate_frame_pointer.md R443). -/
def doRgip (left right : Nibble) : M Unit := do
  let p ← globalAddress (zextNibble left)
  let ptr ← memReadMds p
  loadShort (ptr + zextNibble right)

/-- The meaning of `RGIP`. -/
def execRgip (left right : Nibble) (s : State) : Answer := run (doRgip left right) s

/-- `RGILP` (43_assign_immediate_frame_pointer.md R444). -/
def doRgilp (left right : Nibble) : M Unit := do
  let p ← globalAddress (zextNibble left)
  let ptr ← readDblMds p
  loadLong (ptr + zextNibbleLong right)

/-- The meaning of `RGILP`. -/
def execRgilp (left right : Nibble) (s : State) : Answer := run (doRgilp left right) s

/-- `RLDI00` (43_assign_immediate_frame_pointer.md R445). -/
def doRldi00 : M Unit := readLocalDoubleIndirect 0 0

/-- The meaning of `RLDI00`. -/
def execRldi00 (s : State) : Answer := run doRldi00 s

/-- `RLDIP` (43_assign_immediate_frame_pointer.md R446). -/
def doRldip (left right : Nibble) : M Unit := readLocalDoubleIndirect (zextNibble left) (zextNibble right)

/-- The meaning of `RLDIP`. -/
def execRldip (left right : Nibble) (s : State) : Answer := run (doRldip left right) s

/-- `RLDILP` (43_assign_immediate_frame_pointer.md R447). -/
def doRldilp (left right : Nibble) : M Unit := do
  let ptr ← localLongPointer (zextNibble left)
  fetchLongDouble (ptr + zextNibbleLong right)

/-- The meaning of `RLDILP`. -/
def execRldilp (left right : Nibble) (s : State) : Answer := run (doRldilp left right) s

/-- `WLIP` (43_assign_immediate_frame_pointer.md R450). -/
def doWlip (left right : Nibble) : M Unit := do
  let ptr ← localPointer (zextNibble left)
  memWritePopMds (ptr + zextNibble right)

/-- The meaning of `WLIP`. -/
def execWlip (left right : Nibble) (s : State) : Answer := run (doWlip left right) s

/-- `WLILP` (43_assign_immediate_frame_pointer.md R451). -/
def doWlilp (left right : Nibble) : M Unit := do
  let ptr ← localLongPointer (zextNibble left)
  memWritePop (ptr + zextNibbleLong right)

/-- The meaning of `WLILP`. -/
def execWlilp (left right : Nibble) (s : State) : Answer := run (doWlilp left right) s

/-- `WLDILP` (43_assign_immediate_frame_pointer.md R452). -/
def doWldilp (left right : Nibble) : M Unit := do
  let ptr ← localLongPointer (zextNibble left)
  storeLongDouble (ptr + zextNibbleLong right)

/-- The meaning of `WLDILP`. -/
def execWldilp (left right : Nibble) (s : State) : Answer := run (doWldilp left right) s

end Sys2Proof.Machine
end

