-- ==== Sys2Proof/Machine/Block.lean ====
section
/-!
DEFINITION. The word, code, checksum, comparison and byte block instructions (45_block_transfers.md). Each is a loop whose
whole intermediate state is its operands on the stack; each iteration that has pushed them back polls for interrupts.
-/
namespace Sys2Proof.Machine

/-- `Suspend`: the instruction will be executed again, with the operands now on the stack (45_block_transfers.md R521). -/
def suspend : M Unit := update fun s => { s with pc := s.savedPC }

/-- The main loop of an interruptible instruction. `body` does one unit of work and answers whether the operands were
pushed back. A count is at most 65535, so `n = 65537` iterations are enough (45_block_transfers.md R520, R521). -/
def blockLoop (n : Nat) (body : M Bool) : M Unit :=
  match n with
  | 0 => suspend
  | n + 1 => do
    let more ← body
    if more then do
      let pending ← interruptPending
      if pending then suspend else blockLoop n body
    else pure ()

/-- The bound of the main loops (45_block_transfers.md R520). -/
abbrev blockBound : Nat := 65537

/-- One iteration of `BLT` (45_block_transfers.md R522). -/
def stepBlt : M Bool := do
  let dest ← pop
  let count ← pop
  let source ← pop
  if count = 0 then return false
  else do
    let w ← memReadMds source
    memWriteMds dest w
    push (source + 1)
    push (count - 1)
    push (dest + 1)
    return true

/-- `BLT` (45_block_transfers.md R522). -/
def doBlt : M Unit := blockLoop blockBound stepBlt

/-- The meaning of `BLT`. -/
def execBlt (s : State) : Answer := run doBlt s

/-- One iteration of `BLTL` (45_block_transfers.md R523). -/
def stepBltl : M Bool := do
  let dest ← popLong
  let count ← pop
  let source ← popLong
  if count = 0 then return false
  else do
    let w ← memRead source
    memWrite dest w
    pushLong (source + 1)
    push (count - 1)
    pushLong (dest + 1)
    return true

/-- `BLTL` (45_block_transfers.md R523). -/
def doBltl : M Unit := blockLoop blockBound stepBltl

/-- The meaning of `BLTL`. -/
def execBltl (s : State) : Answer := run doBltl s

/-- One iteration of `BLTLR` (45_block_transfers.md R524). -/
def stepBltlr : M Bool := do
  let dest ← popLong
  let count ← pop
  let source ← popLong
  if count = 0 then return false
  else do
    let w ← memRead (source + zextLong (count - 1))
    memWrite (dest + zextLong (count - 1)) w
    pushLong source
    push (count - 1)
    pushLong dest
    return true

/-- `BLTLR` (45_block_transfers.md R524). -/
def doBltlr : M Unit := blockLoop blockBound stepBltlr

/-- The meaning of `BLTLR`. -/
def execBltlr (s : State) : Answer := run doBltlr s

/-- One iteration of `BLTC` (45_block_transfers.md R525). -/
def stepBltc : M Bool := do
  let dest ← pop
  let count ← pop
  let source ← pop
  if count = 0 then return false
  else do
    let w ← readCode source
    memWriteMds dest w
    push (source + 1)
    push (count - 1)
    push (dest + 1)
    return true

/-- `BLTC` (45_block_transfers.md R525). -/
def doBltc : M Unit := blockLoop blockBound stepBltc

/-- The meaning of `BLTC`. -/
def execBltc (s : State) : Answer := run doBltc s

/-- One iteration of `BLTCL` (45_block_transfers.md R526). -/
def stepBltcl : M Bool := do
  let dest ← popLong
  let count ← pop
  let source ← pop
  if count = 0 then return false
  else do
    let w ← readCode source
    memWrite dest w
    push (source + 1)
    push (count - 1)
    pushLong (dest + 1)
    return true

/-- `BLTCL` (45_block_transfers.md R526). -/
def doBltcl : M Unit := blockLoop blockBound stepBltcl

/-- The meaning of `BLTCL`. -/
def execBltcl (s : State) : Answer := run doBltcl s

/-- One iteration of `CKSUM`, with the final push (45_block_transfers.md R528). -/
def stepCksum : M Bool := do
  let source ← popLong
  let count ← pop
  let cksum ← pop
  if count = 0 then do
    push (if cksum = 0xFFFF then 0 else cksum)
    return false
  else do
    let w ← memRead source
    push (checksumStep cksum w)
    push (count - 1)
    pushLong (source + 1)
    return true

/-- `CKSUM` (45_block_transfers.md R528). -/
def doCksum : M Unit := blockLoop blockBound stepCksum

/-- The meaning of `CKSUM`. -/
def execCksum (s : State) : Answer := run doCksum s

/-- One iteration of `BLEL` (45_block_transfers.md R530). -/
def stepBlel : M Bool := do
  let ptr1 ← popLong
  let count ← pop
  let ptr2 ← popLong
  if count = 0 then do
    push (booleanWord true)
    return false
  else do
    let u ← memRead ptr1
    let v ← memRead ptr2
    if u ≠ v then do
      push (booleanWord false)
      return false
    else do
      pushLong (ptr2 + 1)
      push (count - 1)
      pushLong (ptr1 + 1)
      return true

/-- `BLEL` (45_block_transfers.md R530). -/
def doBlel : M Unit := blockLoop blockBound stepBlel

/-- The meaning of `BLEL`. -/
def execBlel (s : State) : Answer := run doBlel s

/-- One iteration of `BLECL` (45_block_transfers.md R531). -/
def stepBlecl : M Bool := do
  let ptr ← popLong
  let count ← pop
  let offset ← pop
  if count = 0 then do
    push (booleanWord true)
    return false
  else do
    let u ← memRead ptr
    let v ← readCode offset
    if u ≠ v then do
      push (booleanWord false)
      return false
    else do
      push (offset + 1)
      push (count - 1)
      pushLong (ptr + 1)
      return true

/-- `BLECL` (45_block_transfers.md R531). -/
def doBlecl : M Unit := blockLoop blockBound stepBlecl

/-- The meaning of `BLECL`. -/
def execBlecl (s : State) : Answer := run doBlecl s

/-- The byte position after the one at `base` and byte `offset` (45_block_transfers.md R534). -/
def nextByte (base : LongWord) (offset : Word) : LongWord × Word :=
  if offset = 1 then (base + 1, 0) else (base, 1)

/-- The byte position before the one at `base` and byte `offset` (45_block_transfers.md R535). -/
def previousByte (base : LongWord) (offset : Word) : LongWord × Word :=
  if offset = 0 then (base - 1, 1) else (base, 0)

/-- One iteration of `BYTBLT`, with the step to the next byte (45_block_transfers.md R534, R535). -/
def stepBytes (move : LongWord → Word → LongWord × Word) : M Bool := do
  let sourceOffset ← pop
  let sourceBase ← popLong
  let count ← pop
  let destOffset ← pop
  let destBase ← popLong
  if count = 0 then return false
  else do
    let source := sourceBase + zextLong (sourceOffset >>> 1)
    let dest := destBase + zextLong (destOffset >>> 1)
    let b ← fetchByte source (zextLong (sourceOffset &&& 1))
    storeByte dest (zextLong (destOffset &&& 1)) b
    let (source', sourceOffset') := move source (sourceOffset &&& 1)
    let (dest', destOffset') := move dest (destOffset &&& 1)
    pushLong dest'
    push destOffset'
    push (count - 1)
    pushLong source'
    push sourceOffset'
    return true

/-- `BYTBLT` (45_block_transfers.md R534). -/
def doBytblt : M Unit := blockLoop blockBound (stepBytes nextByte)

/-- The meaning of `BYTBLT`. -/
def execBytblt (s : State) : Answer := run doBytblt s

/-- `BYTBLTR` (45_block_transfers.md R535). -/
def doBytbltr : M Unit := blockLoop blockBound (stepBytes previousByte)

/-- The meaning of `BYTBLTR`. -/
def execBytbltr (s : State) : Answer := run doBytbltr s

end Sys2Proof.Machine
end

