-- ==== Sys2Proof/Machine/BitBlt.lean ====
section
/-!
DEFINITION. `BITBLT`, one bit at a time, and the bit addressing that `TXTBLT` shares (46_bitblt_txtblt.md R550 to R567).
-/
namespace Sys2Proof.Machine

/-! ### Bit addressing -/

/-- `BitAddress`: bit `bit` of a word, counted from the most significant (46_bitblt_txtblt.md R552). -/
structure BitAddress where
  word : LongWord
  bit : Nibble
  deriving DecidableEq, Repr

/-- `Bump` by a signed offset (46_bitblt_txtblt.md R553). -/
def BitAddress.bump (a : BitAddress) (offset : LongWord) : BitAddress :=
  let o := offset + zextNibbleLong a.bit
  { word := a.word + o.sshiftRight 4, bit := o.extractLsb' 0 4 }

/-- `ReadBit` at a signed 16-bit offset (46_bitblt_txtblt.md R554). -/
def readBit (a : BitAddress) (offset : Word) : M Bool := do
  let b := a.bump (offset.signExtend 32)
  let w ← memRead b.word
  return (readField w b.bit 0).getLsbD 0

/-- `WriteBit` at a signed 16-bit offset: a read, a merge and a write of the word (46_bitblt_txtblt.md R554). -/
def writeBit (a : BitAddress) (offset : Word) (bit : Bool) : M Unit := do
  let b := a.bump (offset.signExtend 32)
  let w ← memRead b.word
  memWrite b.word (writeField w b.bit 0 (booleanWord bit))

/-- Read `n` words of an argument record, from `i` on (46_bitblt_txtblt.md R562, R576). -/
def readRecord (ptr : Word) (n i : Nat) : M (List Word) :=
  match n with
  | 0 => pure []
  | n + 1 => do
    let w ← memReadMds (ptr + BitVec.ofNat 16 i)
    let rest ← readRecord ptr n (i + 1)
    return w :: rest

/-! ### The argument record -/

/-- `BitBltArg`, with its reserved fields gathered into one Boolean (46_bitblt_txtblt.md R555, R556). -/
structure BitBltArg where
  dst : BitAddress
  dstBpl : Word
  src : BitAddress
  srcBpl : Word
  width : Word
  height : Word
  flags : Word
  /-- some reserved field is not zero -/
  reserved : Bool
  deriving DecidableEq, Repr

/-- The twelve words of the record as a `BitBltArg` (46_bitblt_txtblt.md R552, R555). -/
def bitBltArgOfWords (w : List Word) : BitBltArg where
  dst := { word := mkLong (w.getD 0 0) (w.getD 1 0), bit := (w.getD 2 0).extractLsb' 0 4 }
  dstBpl := w.getD 3 0
  src := { word := mkLong (w.getD 4 0) (w.getD 5 0), bit := (w.getD 6 0).extractLsb' 0 4 }
  srcBpl := w.getD 7 0
  width := w.getD 8 0
  height := w.getD 9 0
  flags := w.getD 10 0
  reserved := (w.getD 2 0) &&& 0xFFF0 != 0 || (w.getD 6 0) &&& 0xFFF0 != 0 || (w.getD 10 0) &&& 0x01FF != 0
    || w.getD 11 0 != 0

/-- `flags.direction` (46_bitblt_txtblt.md R556). -/
def BitBltArg.direction (a : BitBltArg) : Config.Direction := if a.flags.getLsbD 15 then .backward else .forward

/-- `flags.disjoint` (46_bitblt_txtblt.md R556). -/
def BitBltArg.disjoint (a : BitBltArg) : Bool := a.flags.getLsbD 14

/-- `flags.disjointItems` (46_bitblt_txtblt.md R556). -/
def BitBltArg.disjointItems (a : BitBltArg) : Bool := a.flags.getLsbD 13

/-- `flags.gray` (46_bitblt_txtblt.md R556). -/
def BitBltArg.gray (a : BitBltArg) : Bool := a.flags.getLsbD 12

/-- `grayParm.yOffset` (46_bitblt_txtblt.md R560). -/
def BitBltArg.grayOffset (a : BitBltArg) : Nibble := a.srcBpl.extractLsb' 8 4

/-- `grayParm.heightMinusOne` (46_bitblt_txtblt.md R560). -/
def BitBltArg.grayHeight (a : BitBltArg) : Nibble := a.srcBpl.extractLsb' 0 4

/-- The checks of `Setup` (46_bitblt_txtblt.md R561). -/
def BitBltArg.legal (a : BitBltArg) : Bool :=
  !a.reserved && (a.gray || a.srcBpl != 0) && a.dstBpl != 0 && a.width ≤ 32767 && a.height ≤ 32767
    && (if a.gray then
          a.srcBpl &&& 0xF0F0 == 0 && a.direction == .forward && a.disjoint && (0 : Word).sle a.dstBpl
        else match a.direction with
          | .forward => (0 : Word).sle a.srcBpl && (0 : Word).sle a.dstBpl
          | .backward => a.srcBpl.sle 0 && a.dstBpl.sle 0)

/-- `Function` (46_bitblt_txtblt.md R557). -/
def BitBltArg.combine (a : BitBltArg) (dst src : Bool) : Bool :=
  let s := src != a.flags.getLsbD 11
  match a.flags.getLsbD 10, a.flags.getLsbD 9 with
  | false, false => s
  | false, true => s && dst
  | true, false => s || dst
  | true, true => s != dst

/-! ### The transfer in progress -/

/-- The local variables of `BITBLT`; `arg` is the private copy that `ComputeDirection` and the loop update
(46_bitblt_txtblt.md R551). -/
structure BitBltJob where
  arg : BitBltArg
  line : Word
  grayWidth : LongWord
  grayBump : LongWord
  yOffset : Nibble
  heightMinusOne : Nibble
  xDirection : Config.Direction
  yDirection : Config.Direction
  deriving DecidableEq, Repr

/-- `ComputeDirection`'s reversal of the vertical direction (46_bitblt_txtblt.md R563). -/
def BitBltArg.reverse (a : BitBltArg) : BitBltArg :=
  let lines : LongWord := zextLong a.height - 1
  let h := a.grayHeight.toNat
  let y := a.grayOffset.toNat
  let srcOffset : LongWord :=
    if a.gray then 16 * (BitVec.ofNat 32 ((y + a.height.toNat + h) % (h + 1)) - BitVec.ofNat 32 y)
    else a.srcBpl.signExtend 32 * lines
  { a with
    src := a.src.bump srcOffset
    srcBpl := if a.gray then a.srcBpl else -a.srcBpl
    dst := a.dst.bump (a.dstBpl.signExtend 32 * lines)
    dstBpl := -a.dstBpl }

/-- The rest of `Setup`, with `ComputeDirection`, for a legal record (46_bitblt_txtblt.md R561, R563). -/
def bitBltStart (a : BitBltArg) : BitBltJob :=
  let flip := a.disjoint && a.direction != Config.yPreference
  let yDirection := if flip then Config.yPreference else a.direction
  let bump : LongWord := 16 * zextNibbleLong a.grayHeight
  { arg := if flip then a.reverse else a
    line := if yDirection = .forward then 0 else a.height - 1
    grayWidth := if flip then -16 else 16
    grayBump := if flip then bump else -bump
    yOffset := a.grayOffset
    heightMinusOne := a.grayHeight
    xDirection := if a.disjoint || a.disjointItems then Config.xPreference else a.direction
    yDirection := yDirection }

/-- The line is the one after which the gray source goes round: the brick's last line going forward, its first line
going backward (46_bitblt_txtblt.md R551, R561, R563). -/
def BitBltJob.atLastGray (j : BitBltJob) : Bool :=
  let h := j.heightMinusOne.toNat
  if j.yDirection = .forward then j.line.toNat % (h + 1) == h - j.yOffset.toNat
  else (j.yOffset.toNat + j.line.toNat) % (h + 1) == 0

/-- The updates after an item (46_bitblt_txtblt.md R551). -/
def BitBltJob.advance (j : BitBltJob) : BitBltJob :=
  let srcOffset : LongWord :=
    if j.arg.gray then (if j.atLastGray then j.grayBump else j.grayWidth) else j.arg.srcBpl.signExtend 32
  { j with
    arg := { j.arg with src := j.arg.src.bump srcOffset, dst := j.arg.dst.bump (j.arg.dstBpl.signExtend 32) }
    line := if j.yDirection = .forward then j.line + 1 else j.line - 1 }

/-- The updates after `n` items (46_bitblt_txtblt.md R565). -/
def BitBltJob.advanceBy (j : BitBltJob) (n : Nat) : BitBltJob :=
  match n with
  | 0 => j
  | n + 1 => j.advance.advanceBy n

/-- The bits of `BitBltItem`, `n` of them from `offset` on (46_bitblt_txtblt.md R564). -/
def bitBltBits (j : BitBltJob) (n : Nat) (offset : Word) : M Unit :=
  match n with
  | 0 => pure ()
  | n + 1 => do
    let bit := zextNibble j.arg.src.bit
    let pos := if j.arg.gray then ((offset + bit) &&& 15) - bit else offset
    let d ← readBit j.arg.dst offset
    let s ← readBit j.arg.src pos
    writeBit j.arg.dst offset (j.arg.combine d s)
    bitBltBits j n (if j.xDirection = .forward then offset + 1 else offset - 1)

/-- `BitBltItem` (46_bitblt_txtblt.md R564). -/
def bitBltItem (j : BitBltJob) : M Unit :=
  bitBltBits j j.arg.width.toNat (if j.xDirection = .forward then 0 else j.arg.width - 1)

/-- The items that are left, `n` at most, with `PushState` at an interrupt: the argument pointer and the number of items
done (46_bitblt_txtblt.md R551, R565). A legal height is at most 32767. -/
def bitBltItems (ptr : Word) (n : Nat) (j : BitBltJob) (done : Word) : M Unit :=
  match n with
  | 0 => pure ()
  | n + 1 =>
    if j.line < j.arg.height then do
      bitBltItem j
      let pending ← interruptPending
      if pending then do
        push ptr
        push (done + 1)
        suspend
      else bitBltItems ptr n j.advance (done + 1)
    else pure ()

/-- `Setup` after its pop (46_bitblt_txtblt.md R561, R562). -/
def bitBltSetup (ptr : Word) : M BitBltJob := do
  if ptr &&& 15 ≠ 0 then refuse .bitBltArgument
  let words ← readRecord ptr 12 0
  let a := bitBltArgOfWords words
  if a.legal then
    if a.gray && a.grayHeight.ult a.grayOffset then refuse .bitBltGrayOffset else pure (bitBltStart a)
  else refuse .bitBltArgument

/-- The operands of `BITBLT`: the argument pointer and, of a restarted one, the number of items done; another depth of
the stack is refused (46_bitblt_txtblt.md R551, R565, decision D17). -/
def bitBltOperands : M (Word × Word) := do
  let s ← getState
  if s.sp.val = 1 then do
    let ptr ← pop
    return (ptr, 0)
  else if s.sp.val = 2 then do
    let done ← pop
    let ptr ← pop
    return (ptr, done)
  else refuse .bitBltStack

/-- `BITBLT` (46_bitblt_txtblt.md R551). -/
def doBitblt : M Unit := do
  let (ptr, done) ← bitBltOperands
  let job ← bitBltSetup ptr
  minimalStack
  bitBltItems ptr 32768 (job.advanceBy done.toNat) done

/-- The meaning of `BITBLT`. -/
def execBitblt (s : State) : Answer := run doBitblt s

end Sys2Proof.Machine
end

