-- ==== Sys2Proof/Machine/Control.lean ====
section
/-!
DEFINITION. Calls and returns, ports, links, frame allocation and the trap-handler instructions
(47_control_transfers.md). `BRK` stands in Machine/Break.lean.
-/
namespace Sys2Proof.Machine

/-- `EFCn` and `EFCB`: `Call(FetchLink(k))` (47_control_transfers.md R618, R619). -/
def externalCall (k : Byte) : M Unit := do
  let link ← fetchLink k
  call link

/-- `PO` and `POR` (47_control_transfers.md R626, R627). -/
def portOut : M Unit := do
  let _ ← pop
  let port ← pop
  let s ← getState
  memWriteMds (s.lf - 1) s.pc
  memWriteMds port s.lf
  let dst ← readDblMds (port + 2)
  xfer dst port .port false

/-- `LFC` (47_control_transfers.md R616). -/
def doLfc (word : Word) : M Unit := do
  let s ← getState
  memWriteMds (s.lf - 1) s.pc
  if word = 0 then raise (unboundTrap 0)
  let frame ← enterProcedure word s.gf s.lf
  update fun s => { s with lf := frame, pc := word + 1 }
  checkForXferTraps (mkLong (s.gf ||| 1) word) .localCall

/-- The meaning of `LFC`. -/
def execLfc (word : Word) (s : State) : Answer := run (doLfc word) s

/-- `EFC0` (47_control_transfers.md R618). -/
def doEfc0 : M Unit := externalCall 0

/-- The meaning of `EFC0`. -/
def execEfc0 (s : State) : Answer := run doEfc0 s

/-- `EFC1` (47_control_transfers.md R618). -/
def doEfc1 : M Unit := externalCall 1

/-- The meaning of `EFC1`. -/
def execEfc1 (s : State) : Answer := run doEfc1 s

/-- `EFC2` (47_control_transfers.md R618). -/
def doEfc2 : M Unit := externalCall 2

/-- The meaning of `EFC2`. -/
def execEfc2 (s : State) : Answer := run doEfc2 s

/-- `EFC3` (47_control_transfers.md R618). -/
def doEfc3 : M Unit := externalCall 3

/-- The meaning of `EFC3`. -/
def execEfc3 (s : State) : Answer := run doEfc3 s

/-- `EFC4` (47_control_transfers.md R618). -/
def doEfc4 : M Unit := externalCall 4

/-- The meaning of `EFC4`. -/
def execEfc4 (s : State) : Answer := run doEfc4 s

/-- `EFC5` (47_control_transfers.md R618). -/
def doEfc5 : M Unit := externalCall 5

/-- The meaning of `EFC5`. -/
def execEfc5 (s : State) : Answer := run doEfc5 s

/-- `EFC6` (47_control_transfers.md R618). -/
def doEfc6 : M Unit := externalCall 6

/-- The meaning of `EFC6`. -/
def execEfc6 (s : State) : Answer := run doEfc6 s

/-- `EFC7` (47_control_transfers.md R618). -/
def doEfc7 : M Unit := externalCall 7

/-- The meaning of `EFC7`. -/
def execEfc7 (s : State) : Answer := run doEfc7 s

/-- `EFC8` (47_control_transfers.md R618). -/
def doEfc8 : M Unit := externalCall 8

/-- The meaning of `EFC8`. -/
def execEfc8 (s : State) : Answer := run doEfc8 s

/-- `EFC9` (47_control_transfers.md R618). -/
def doEfc9 : M Unit := externalCall 9

/-- The meaning of `EFC9`. -/
def execEfc9 (s : State) : Answer := run doEfc9 s

/-- `EFC10` (47_control_transfers.md R618). -/
def doEfc10 : M Unit := externalCall 10

/-- The meaning of `EFC10`. -/
def execEfc10 (s : State) : Answer := run doEfc10 s

/-- `EFC11` (47_control_transfers.md R618). -/
def doEfc11 : M Unit := externalCall 11

/-- The meaning of `EFC11`. -/
def execEfc11 (s : State) : Answer := run doEfc11 s

/-- `EFC12` (47_control_transfers.md R618). -/
def doEfc12 : M Unit := externalCall 12

/-- The meaning of `EFC12`. -/
def execEfc12 (s : State) : Answer := run doEfc12 s

/-- `EFCB` (47_control_transfers.md R619). -/
def doEfcb (alpha : Byte) : M Unit := externalCall alpha

/-- The meaning of `EFCB`. -/
def execEfcb (alpha : Byte) (s : State) : Answer := run (doEfcb alpha) s

/-- `SFC` (47_control_transfers.md R620). -/
def doSfc : M Unit := do
  let link ← popLong
  call link

/-- The meaning of `SFC`. -/
def execSfc (s : State) : Answer := run doSfc s

/-- `KFCB` (47_control_transfers.md R621). -/
def doKfcb (alpha : Byte) : M Unit := do
  let link ← readDblMds (sdEntry (zextByte alpha))
  call link

/-- The meaning of `KFCB`. -/
def execKfcb (alpha : Byte) (s : State) : Answer := run (doKfcb alpha) s

/-- `LKB` (47_control_transfers.md R622). -/
def doLkb (alpha : Byte) : M Unit := do
  recoverTop
  let link ← pop
  let s ← getState
  memWriteMds s.lf (link - zextByte alpha)

/-- The meaning of `LKB`. -/
def execLkb (alpha : Byte) (s : State) : Answer := run (doLkb alpha) s

/-- `RET` (47_control_transfers.md R623). -/
def doRet : M Unit := do
  let s ← getState
  let dst ← memReadMds (s.lf - 3)
  xfer (zextLong dst) 0 .ret true

/-- The meaning of `RET`. -/
def execRet (s : State) : Answer := run doRet s

/-- `PO` (47_control_transfers.md R626). -/
def doPo : M Unit := portOut

/-- The meaning of `PO`. -/
def execPo (s : State) : Answer := run doPo s

/-- `POR` (47_control_transfers.md R627). -/
def doPor : M Unit := portOut

/-- The meaning of `POR`. -/
def execPor (s : State) : Answer := run doPor s

/-- `PI` (47_control_transfers.md R628). -/
def doPi : M Unit := do
  recoverTop
  recoverTop
  let src ← pop
  let port ← pop
  memWriteMds port 0
  if src ≠ 0 then memWriteMds (port + 2) src

/-- The meaning of `PI`. -/
def execPi (s : State) : Answer := run doPi s

/-- `LLKB` (47_control_transfers.md R631). -/
def doLlkb (alpha : Byte) : M Unit := do
  let link ← fetchLink alpha
  pushLong link

/-- The meaning of `LLKB`. -/
def execLlkb (alpha : Byte) (s : State) : Answer := run (doLlkb alpha) s

/-- `RKIB` (47_control_transfers.md R632). -/
def doRkib (alpha : Byte) : M Unit := do
  let ptr ← fetchLink alpha
  let w ← memRead ptr
  push w

/-- The meaning of `RKIB`. -/
def execRkib (alpha : Byte) (s : State) : Answer := run (doRkib alpha) s

/-- `RKDIB` (47_control_transfers.md R633). -/
def doRkdib (alpha : Byte) : M Unit := do
  let ptr ← fetchLink alpha
  let low ← memRead ptr
  push low
  let high ← memRead (ptr + 1)
  push high

/-- The meaning of `RKDIB`. -/
def execRkdib (alpha : Byte) (s : State) : Answer := run (doRkdib alpha) s

/-- `AF` (47_control_transfers.md R601). -/
def doAf : M Unit := do
  let fsi ← pop
  let frame ← alloc fsi
  push frame

/-- The meaning of `AF`. -/
def execAf (s : State) : Answer := run doAf s

/-- `FF` (47_control_transfers.md R602). -/
def doFf : M Unit := do
  let frame ← pop
  freeFrame frame

/-- The meaning of `FF`. -/
def execFf (s : State) : Answer := run doFf s

/-- `DSK` (47_control_transfers.md R654). -/
def doDsk (alpha : Byte) : M Unit := do
  let s ← getState
  saveStack (s.lengthen (s.lf + zextByte alpha))

/-- The meaning of `DSK`. -/
def execDsk (alpha : Byte) (s : State) : Answer := run (doDsk alpha) s

/-- `LSK` (47_control_transfers.md R655). -/
def doLsk (alpha : Byte) : M Unit := do
  let s ← getState
  loadStack (s.lengthen (s.lf + zextByte alpha))

/-- The meaning of `LSK`. -/
def execLsk (alpha : Byte) (s : State) : Answer := run (doLsk alpha) s

/-- `XF` (47_control_transfers.md R656). -/
def doXf (alpha : Byte) : M Unit := do
  let s ← getState
  let ptr := s.lf + zextByte alpha
  let dst ← readDblMds (ptr + 2)
  let src ← memReadMds ptr
  xfer dst src .xfer true

/-- The meaning of `XF`. -/
def execXf (alpha : Byte) (s : State) : Answer := run (doXf alpha) s

/-- `XE`; a trap or fault inside it is refused (47_control_transfers.md R657). -/
def doXe (alpha : Byte) : M Unit := noAbort .abortInXE do
  let s ← getState
  let ptr := s.lf + zextByte alpha
  memWriteMds (s.lf - 1) s.pc
  let dst ← readDblMds (ptr + 2)
  let src ← memReadMds ptr
  xfer dst src .xfer false
  update fun s => { s with wdc := s.wdc - 1 }

/-- The meaning of `XE`. -/
def execXe (alpha : Byte) (s : State) : Answer := run (doXe alpha) s

end Sys2Proof.Machine
end

