-- ==== Sys2Proof/Machine/Jump.lean ====
section
/-!
DEFINITION. The jump instructions (42_jump_instructions.md). A target is relative to `savedPC`, the first byte of the
instruction; a jump not taken leaves `PC` where the fetches put it (R311).
-/
namespace Sys2Proof.Machine

/-- `PC <- savedPC + displacement`, modulo 2^16 (42_jump_instructions.md R311). -/
def jumpBy (displacement : Word) : M Unit := update fun s => { s with pc := s.savedPC + displacement }

/-- Jump if a condition holds (42_jump_instructions.md R311). -/
def jumpIf (taken : Bool) (displacement : Word) : M Unit := if taken then jumpBy displacement else pure ()

/-- Pop a word and jump on its relation to a constant (42_jump_instructions.md R317). -/
def jumpOnTop (r : Relation) (constant displacement : Word) : M Unit := do
  let u ← pop
  jumpIf (r.holds u constant) displacement

/-- Pop two words and jump on the relation of the deeper one to the top one (42_jump_instructions.md R322, R330). -/
def jumpOnPair (r : Relation) (displacement : Word) : M Unit := do
  let v ← pop
  let u ← pop
  jumpIf (r.holds u v) displacement

/-- Pop two longs and jump on the relation of the deeper one to the top one (42_jump_instructions.md R328). -/
def jumpOnLongPair (r : Relation) (displacement : Word) : M Unit := do
  let v ← popLong
  let u ← popLong
  jumpIf (r.holds u v) displacement

/-- `J2` (42_jump_instructions.md R312). -/
def doJ2 : M Unit := jumpBy 2

/-- The meaning of `J2`. -/
def execJ2 (s : State) : Answer := run doJ2 s

/-- `J3` (42_jump_instructions.md R312). -/
def doJ3 : M Unit := jumpBy 3

/-- The meaning of `J3`. -/
def execJ3 (s : State) : Answer := run doJ3 s

/-- `J4` (42_jump_instructions.md R312). -/
def doJ4 : M Unit := jumpBy 4

/-- The meaning of `J4`. -/
def execJ4 (s : State) : Answer := run doJ4 s

/-- `J5` (42_jump_instructions.md R312). -/
def doJ5 : M Unit := jumpBy 5

/-- The meaning of `J5`. -/
def execJ5 (s : State) : Answer := run doJ5 s

/-- `J6` (42_jump_instructions.md R312). -/
def doJ6 : M Unit := jumpBy 6

/-- The meaning of `J6`. -/
def execJ6 (s : State) : Answer := run doJ6 s

/-- `J7` (42_jump_instructions.md R312). -/
def doJ7 : M Unit := jumpBy 7

/-- The meaning of `J7`. -/
def execJ7 (s : State) : Answer := run doJ7 s

/-- `J8` (42_jump_instructions.md R312). -/
def doJ8 : M Unit := jumpBy 8

/-- The meaning of `J8`. -/
def execJ8 (s : State) : Answer := run doJ8 s

/-- `JB` (42_jump_instructions.md R313). -/
def doJb (alpha : Byte) : M Unit := jumpBy (signExtendByte alpha)

/-- The meaning of `JB`. -/
def execJb (alpha : Byte) (s : State) : Answer := run (doJb alpha) s

/-- `JW` (42_jump_instructions.md R314). -/
def doJw (word : Word) : M Unit := jumpBy word

/-- The meaning of `JW`. -/
def execJw (word : Word) (s : State) : Answer := run (doJw word) s

/-- `JS` (42_jump_instructions.md R315). -/
def doJs : M Unit := do
  let target ← pop
  update fun s => { s with pc := target }

/-- The meaning of `JS`. -/
def execJs (s : State) : Answer := run doJs s

/-- `CATCH` (42_jump_instructions.md R316). -/
def doCatchByte (_alpha : Byte) : M Unit := pure ()

/-- The meaning of `CATCH`. -/
def execCatchByte (alpha : Byte) (s : State) : Answer := run (doCatchByte alpha) s

/-- `JZ3` (42_jump_instructions.md R318). -/
def doJz3 : M Unit := jumpOnTop .equal 0 3

/-- The meaning of `JZ3`. -/
def execJz3 (s : State) : Answer := run doJz3 s

/-- `JZ4` (42_jump_instructions.md R318). -/
def doJz4 : M Unit := jumpOnTop .equal 0 4

/-- The meaning of `JZ4`. -/
def execJz4 (s : State) : Answer := run doJz4 s

/-- `JNZ3` (42_jump_instructions.md R319). -/
def doJnz3 : M Unit := jumpOnTop .notEqual 0 3

/-- The meaning of `JNZ3`. -/
def execJnz3 (s : State) : Answer := run doJnz3 s

/-- `JNZ4` (42_jump_instructions.md R319). -/
def doJnz4 : M Unit := jumpOnTop .notEqual 0 4

/-- The meaning of `JNZ4`. -/
def execJnz4 (s : State) : Answer := run doJnz4 s

/-- `JZB` (42_jump_instructions.md R320). -/
def doJzb (alpha : Byte) : M Unit := jumpOnTop .equal 0 (signExtendByte alpha)

/-- The meaning of `JZB`. -/
def execJzb (alpha : Byte) (s : State) : Answer := run (doJzb alpha) s

/-- `JNZB` (42_jump_instructions.md R321). -/
def doJnzb (alpha : Byte) : M Unit := jumpOnTop .notEqual 0 (signExtendByte alpha)

/-- The meaning of `JNZB`. -/
def execJnzb (alpha : Byte) (s : State) : Answer := run (doJnzb alpha) s

/-- `JEB` (42_jump_instructions.md R322). -/
def doJeb (alpha : Byte) : M Unit := jumpOnPair .equal (signExtendByte alpha)

/-- The meaning of `JEB`. -/
def execJeb (alpha : Byte) (s : State) : Answer := run (doJeb alpha) s

/-- `JNEB` (42_jump_instructions.md R323). -/
def doJneb (alpha : Byte) : M Unit := jumpOnPair .notEqual (signExtendByte alpha)

/-- The meaning of `JNEB`. -/
def execJneb (alpha : Byte) (s : State) : Answer := run (doJneb alpha) s

/-- `JEP` (42_jump_instructions.md R324). -/
def doJep (left right : Nibble) : M Unit := jumpOnTop .equal (zextNibble left) (zextNibble right + 4)

/-- The meaning of `JEP`. -/
def execJep (left right : Nibble) (s : State) : Answer := run (doJep left right) s

/-- `JNEP` (42_jump_instructions.md R325). -/
def doJnep (left right : Nibble) : M Unit := jumpOnTop .notEqual (zextNibble left) (zextNibble right + 4)

/-- The meaning of `JNEP`. -/
def execJnep (left right : Nibble) (s : State) : Answer := run (doJnep left right) s

/-- `JEBB` (42_jump_instructions.md R326). -/
def doJebb (alpha beta : Byte) : M Unit := jumpOnTop .equal (zextByte alpha) (signExtendByte beta)

/-- The meaning of `JEBB`. -/
def execJebb (alpha beta : Byte) (s : State) : Answer := run (doJebb alpha beta) s

/-- `JNEBB` (42_jump_instructions.md R327). -/
def doJnebb (alpha beta : Byte) : M Unit := jumpOnTop .notEqual (zextByte alpha) (signExtendByte beta)

/-- The meaning of `JNEBB`. -/
def execJnebb (alpha beta : Byte) (s : State) : Answer := run (doJnebb alpha beta) s

/-- `JDEB` (42_jump_instructions.md R328). -/
def doJdeb (alpha : Byte) : M Unit := jumpOnLongPair .equal (signExtendByte alpha)

/-- The meaning of `JDEB`. -/
def execJdeb (alpha : Byte) (s : State) : Answer := run (doJdeb alpha) s

/-- `JDNEB` (42_jump_instructions.md R329). -/
def doJdneb (alpha : Byte) : M Unit := jumpOnLongPair .notEqual (signExtendByte alpha)

/-- The meaning of `JDNEB`. -/
def execJdneb (alpha : Byte) (s : State) : Answer := run (doJdneb alpha) s

/-- `JLB` (42_jump_instructions.md R330). -/
def doJlb (alpha : Byte) : M Unit := jumpOnPair .signedLess (signExtendByte alpha)

/-- The meaning of `JLB`. -/
def execJlb (alpha : Byte) (s : State) : Answer := run (doJlb alpha) s

/-- `JLEB` (42_jump_instructions.md R331). -/
def doJleb (alpha : Byte) : M Unit := jumpOnPair .signedLessEqual (signExtendByte alpha)

/-- The meaning of `JLEB`. -/
def execJleb (alpha : Byte) (s : State) : Answer := run (doJleb alpha) s

/-- `JGB` (42_jump_instructions.md R332). -/
def doJgb (alpha : Byte) : M Unit := jumpOnPair .signedGreater (signExtendByte alpha)

/-- The meaning of `JGB`. -/
def execJgb (alpha : Byte) (s : State) : Answer := run (doJgb alpha) s

/-- `JGEB` (42_jump_instructions.md R333). -/
def doJgeb (alpha : Byte) : M Unit := jumpOnPair .signedGreaterEqual (signExtendByte alpha)

/-- The meaning of `JGEB`. -/
def execJgeb (alpha : Byte) (s : State) : Answer := run (doJgeb alpha) s

/-- `JULB` (42_jump_instructions.md R334). -/
def doJulb (alpha : Byte) : M Unit := jumpOnPair .unsignedLess (signExtendByte alpha)

/-- The meaning of `JULB`. -/
def execJulb (alpha : Byte) (s : State) : Answer := run (doJulb alpha) s

/-- `JULEB` (42_jump_instructions.md R335). -/
def doJuleb (alpha : Byte) : M Unit := jumpOnPair .unsignedLessEqual (signExtendByte alpha)

/-- The meaning of `JULEB`. -/
def execJuleb (alpha : Byte) (s : State) : Answer := run (doJuleb alpha) s

/-- `JUGB` (42_jump_instructions.md R336). -/
def doJugb (alpha : Byte) : M Unit := jumpOnPair .unsignedGreater (signExtendByte alpha)

/-- The meaning of `JUGB`. -/
def execJugb (alpha : Byte) (s : State) : Answer := run (doJugb alpha) s

/-- `JUGEB` (42_jump_instructions.md R337). -/
def doJugeb (alpha : Byte) : M Unit := jumpOnPair .unsignedGreaterEqual (signExtendByte alpha)

/-- The meaning of `JUGEB`. -/
def execJugeb (alpha : Byte) (s : State) : Answer := run (doJugeb alpha) s

/-- `JIB` (42_jump_instructions.md R340). -/
def doJib (word : Word) : M Unit := do
  let limit ← pop
  let index ← pop
  if index < limit then do
    let disp ← readCode (word + index >>> 1)
    jumpBy (zextByte (selectByte disp (index.getLsbD 0)))
  else pure ()

/-- The meaning of `JIB`. -/
def execJib (word : Word) (s : State) : Answer := run (doJib word) s

/-- `JIW` (42_jump_instructions.md R341). -/
def doJiw (word : Word) : M Unit := do
  let limit ← pop
  let index ← pop
  if index < limit then do
    let disp ← readCode (word + index)
    jumpBy disp
  else pure ()

/-- The meaning of `JIW`. -/
def execJiw (word : Word) (s : State) : Answer := run (doJiw word) s

end Sys2Proof.Machine
end

