-- ==== Sys2Proof/Machine/Listed.lean ====
section
/-!
DEFINITION. The prefixes with a second byte that no instruction of theirs has, and the instructions that are listed but not
defined: by decision D2 none of them is implemented, and executing one raises `EscOpcodeTrap` with its second byte
(30_encoding.md R171, R174, R176, 49_listed_only_instructions.md R740).
-/
namespace Sys2Proof.Config

/-- The instructions that spec file 49 names and does not define (49_listed_only_instructions.md R740 to R755). -/
def listedOnly : List Instr :=
  [.nilck, .version, .fadd, .fsub, .fmul, .fdiv, .fcomp, .fix, .float, .fixi, .fixc, .fsticky, .frem, .round, .roundi,
    .roundc, .fsqrt, .fsc, .reclaimref, .altercount, .resetstkbits, .gcsetup, .a144, .enumeratereclaimable, .a146,
    .createref, .a150, .reftype, .canonicalreftype, .allocquantized, .allocheap, .freeobject, .freequantized,
    .freeprefixed, .input, .output, .loadramj, .bandblt]

/-- `P.implemented` at its default, the instructions of spec files 40 to 48 (decision D2). The meanings of this file are those
of the others. DESIGN CHOICE, log entry 16. -/
def implemented (i : Instr) : Bool := !listedOnly.contains i

end Sys2Proof.Config

namespace Sys2Proof.Machine

/-- `Dispatch`'s `otherwise` arm of a prefix: raise `EscOpcodeTrap` (30_encoding.md R171). -/
def unimplemented (code : Byte) : M Unit := raise (escOpcodeTrap code)

/-- `ESC` followed by a byte assigned to no instruction of `ESC` (30_encoding.md R171, R174). -/
def doEsc (code : Byte) : M Unit := unimplemented code

/-- The meaning of `ESC`. -/
def execEsc (code : Byte) (s : State) : Answer := run (doEsc code) s

/-- `ESCL` followed by a byte assigned to no instruction of `ESCL` (30_encoding.md R171, R174). -/
def doEscl (code : Byte) : M Unit := unimplemented code

/-- The meaning of `ESCL`. -/
def execEscl (code : Byte) (s : State) : Answer := run (doEscl code) s

/-- `NILCK` (49_listed_only_instructions.md R741, R740). -/
def doNilck : M Unit := unimplemented 0x25

/-- The meaning of `NILCK`. -/
def execNilck (s : State) : Answer := run doNilck s

/-- `VERSION` (49_listed_only_instructions.md R742, R740). -/
def doVersion : M Unit := unimplemented 0x2F

/-- The meaning of `VERSION`. -/
def execVersion (s : State) : Answer := run doVersion s

/-- `FADD` (49_listed_only_instructions.md R744, R740). -/
def doFadd : M Unit := unimplemented 0x40

/-- The meaning of `FADD`. -/
def execFadd (s : State) : Answer := run doFadd s

/-- `FSUB` (49_listed_only_instructions.md R744, R740). -/
def doFsub : M Unit := unimplemented 0x41

/-- The meaning of `FSUB`. -/
def execFsub (s : State) : Answer := run doFsub s

/-- `FMUL` (49_listed_only_instructions.md R744, R740). -/
def doFmul : M Unit := unimplemented 0x42

/-- The meaning of `FMUL`. -/
def execFmul (s : State) : Answer := run doFmul s

/-- `FDIV` (49_listed_only_instructions.md R744, R740). -/
def doFdiv : M Unit := unimplemented 0x43

/-- The meaning of `FDIV`. -/
def execFdiv (s : State) : Answer := run doFdiv s

/-- `FCOMP` (49_listed_only_instructions.md R744, R740). -/
def doFcomp : M Unit := unimplemented 0x44

/-- The meaning of `FCOMP`. -/
def execFcomp (s : State) : Answer := run doFcomp s

/-- `FIX` (49_listed_only_instructions.md R744, R740). -/
def doFix : M Unit := unimplemented 0x45

/-- The meaning of `FIX`. -/
def execFix (s : State) : Answer := run doFix s

/-- `FLOAT` (49_listed_only_instructions.md R744, R740). -/
def doFloat : M Unit := unimplemented 0x46

/-- The meaning of `FLOAT`. -/
def execFloat (s : State) : Answer := run doFloat s

/-- `FIXI` (49_listed_only_instructions.md R744, R740). -/
def doFixi : M Unit := unimplemented 0x47

/-- The meaning of `FIXI`. -/
def execFixi (s : State) : Answer := run doFixi s

/-- `FIXC` (49_listed_only_instructions.md R744, R740). -/
def doFixc : M Unit := unimplemented 0x48

/-- The meaning of `FIXC`. -/
def execFixc (s : State) : Answer := run doFixc s

/-- `FSTICKY` (49_listed_only_instructions.md R744, R740). -/
def doFsticky : M Unit := unimplemented 0x49

/-- The meaning of `FSTICKY`. -/
def execFsticky (s : State) : Answer := run doFsticky s

/-- `FREM` (49_listed_only_instructions.md R744, R740). -/
def doFrem : M Unit := unimplemented 0x4A

/-- The meaning of `FREM`. -/
def execFrem (s : State) : Answer := run doFrem s

/-- `ROUND` (49_listed_only_instructions.md R744, R740). -/
def doRound : M Unit := unimplemented 0x4B

/-- The meaning of `ROUND`. -/
def execRound (s : State) : Answer := run doRound s

/-- `ROUNDI` (49_listed_only_instructions.md R744, R740). -/
def doRoundi : M Unit := unimplemented 0x4C

/-- The meaning of `ROUNDI`. -/
def execRoundi (s : State) : Answer := run doRoundi s

/-- `ROUNDC` (49_listed_only_instructions.md R744, R740). -/
def doRoundc : M Unit := unimplemented 0x4D

/-- The meaning of `ROUNDC`. -/
def execRoundc (s : State) : Answer := run doRoundc s

/-- `FSQRT` (49_listed_only_instructions.md R744, R740). -/
def doFsqrt : M Unit := unimplemented 0x4E

/-- The meaning of `FSQRT`. -/
def execFsqrt (s : State) : Answer := run doFsqrt s

/-- `FSC` (49_listed_only_instructions.md R744, R740). -/
def doFsc : M Unit := unimplemented 0x4F

/-- The meaning of `FSC`. -/
def execFsc (s : State) : Answer := run doFsc s

/-- `RECLAIMREF` (49_listed_only_instructions.md R746, R740). -/
def doReclaimref : M Unit := unimplemented 0x60

/-- The meaning of `RECLAIMREF`. -/
def execReclaimref (s : State) : Answer := run doReclaimref s

/-- `ALTERCOUNT` (49_listed_only_instructions.md R746, R740). -/
def doAltercount : M Unit := unimplemented 0x61

/-- The meaning of `ALTERCOUNT`. -/
def execAltercount (s : State) : Answer := run doAltercount s

/-- `RESETSTKBITS` (49_listed_only_instructions.md R746, R740). -/
def doResetstkbits : M Unit := unimplemented 0x62

/-- The meaning of `RESETSTKBITS`. -/
def execResetstkbits (s : State) : Answer := run doResetstkbits s

/-- `GCSETUP` (49_listed_only_instructions.md R746, R740). -/
def doGcsetup : M Unit := unimplemented 0x63

/-- The meaning of `GCSETUP`. -/
def execGcsetup (s : State) : Answer := run doGcsetup s

/-- `a144` (49_listed_only_instructions.md R746, R740). -/
def doA144 : M Unit := unimplemented 0x64

/-- The meaning of `a144`. -/
def execA144 (s : State) : Answer := run doA144 s

/-- `ENUMERATERECLAIMABLE` (49_listed_only_instructions.md R746, R740). -/
def doEnumeratereclaimable : M Unit := unimplemented 0x65

/-- The meaning of `ENUMERATERECLAIMABLE`. -/
def execEnumeratereclaimable (s : State) : Answer := run doEnumeratereclaimable s

/-- `a146` (49_listed_only_instructions.md R746, R740). -/
def doA146 : M Unit := unimplemented 0x66

/-- The meaning of `a146`. -/
def execA146 (s : State) : Answer := run doA146 s

/-- `CREATEREF` (49_listed_only_instructions.md R746, R740). -/
def doCreateref : M Unit := unimplemented 0x67

/-- The meaning of `CREATEREF`. -/
def execCreateref (s : State) : Answer := run doCreateref s

/-- `a150` (49_listed_only_instructions.md R746, R740). -/
def doA150 : M Unit := unimplemented 0x68

/-- The meaning of `a150`. -/
def execA150 (s : State) : Answer := run doA150 s

/-- `REFTYPE` (49_listed_only_instructions.md R746, R740). -/
def doReftype : M Unit := unimplemented 0x69

/-- The meaning of `REFTYPE`. -/
def execReftype (s : State) : Answer := run doReftype s

/-- `CANONICALREFTYPE` (49_listed_only_instructions.md R746, R740). -/
def doCanonicalreftype : M Unit := unimplemented 0x6A

/-- The meaning of `CANONICALREFTYPE`. -/
def execCanonicalreftype (s : State) : Answer := run doCanonicalreftype s

/-- `ALLOCQUANTIZED` (49_listed_only_instructions.md R746, R740). -/
def doAllocquantized : M Unit := unimplemented 0x6B

/-- The meaning of `ALLOCQUANTIZED`. -/
def execAllocquantized (s : State) : Answer := run doAllocquantized s

/-- `ALLOCHEAP` (49_listed_only_instructions.md R746, R740). -/
def doAllocheap : M Unit := unimplemented 0x6C

/-- The meaning of `ALLOCHEAP`. -/
def execAllocheap (s : State) : Answer := run doAllocheap s

/-- `FREEOBJECT` (49_listed_only_instructions.md R746, R740). -/
def doFreeobject : M Unit := unimplemented 0x6D

/-- The meaning of `FREEOBJECT`. -/
def execFreeobject (s : State) : Answer := run doFreeobject s

/-- `FREEQUANTIZED` (49_listed_only_instructions.md R746, R740). -/
def doFreequantized : M Unit := unimplemented 0x6E

/-- The meaning of `FREEQUANTIZED`. -/
def execFreequantized (s : State) : Answer := run doFreequantized s

/-- `FREEPREFIXED` (49_listed_only_instructions.md R746, R740). -/
def doFreeprefixed : M Unit := unimplemented 0x6F

/-- The meaning of `FREEPREFIXED`. -/
def execFreeprefixed (s : State) : Answer := run doFreeprefixed s

/-- `INPUT` (49_listed_only_instructions.md R752, R740). -/
def doInput : M Unit := unimplemented 0x80

/-- The meaning of `INPUT`. -/
def execInput (s : State) : Answer := run doInput s

/-- `OUTPUT` (49_listed_only_instructions.md R753, R740). -/
def doOutput : M Unit := unimplemented 0x81

/-- The meaning of `OUTPUT`. -/
def execOutput (s : State) : Answer := run doOutput s

/-- `LOADRAMJ` (49_listed_only_instructions.md R754, R740). -/
def doLoadramj : M Unit := unimplemented 0x82

/-- The meaning of `LOADRAMJ`. -/
def execLoadramj (s : State) : Answer := run doLoadramj s

/-- `BANDBLT` (49_listed_only_instructions.md R755, R740). -/
def doBandblt : M Unit := unimplemented 0xA0

/-- The meaning of `BANDBLT`. -/
def execBandblt (s : State) : Answer := run doBandblt s

end Sys2Proof.Machine
end

