-- ==== Sys2Proof/Machine/MapRegister.lean ====
section
/-!
DEFINITION. The map, pointer-lengthening, frame-overhead and register instructions (40_map_register_instructions.md).
-/
namespace Sys2Proof.Machine

/-- Push the flags and the real page of an entry; a vacant entry's real page is a free value
(40_map_register_instructions.md R202, 20_memory.md R107(b)). -/
def pushEntry (e : MapEntry) : M Unit := do
  push e.flagsWord
  if e.vacant then do
    let rp ← drawRealPage
    pushLong (rp.setWidth 32)
  else pushLong (e.real.setWidth 32)

/-- `WriteMap` of `SM`: no effect on a page out of bounds; an entry that is not vacant needs a real page that exists and
that no other page is mapped to (40_map_register_instructions.md R200, R201, U3, U8). -/
def setEntry (vp : LongWord) (flags : Word) (rp : LongWord) : M Unit := do
  let s ← getState
  let e := entryOfFlags flags (rp.setWidth 24)
  if vp.toNat < Config.vmPages then
    if e.vacant then update fun s => s.writeMap vp.toNat e
    else if Config.realPages ≤ rp.toNat then refuse (.realPageAbsent rp)
    else if s.realPageTaken vp.toNat e.real then refuse (.realPageShared rp)
    else update fun s => s.writeMap vp.toNat e
  else pure ()

/-- `SM`. The devices have their turn before an operation on the map, and none inside it
(40_map_register_instructions.md R201, 20_memory.md R112). -/
def doSm : M Unit := do
  update State.afterDevices
  let mf ← pop
  let rp ← popLong
  let vp ← popLong
  setEntry vp mf rp

/-- The meaning of `SM`. -/
def execSm (s : State) : Answer := run doSm s

/-- `GMF` (40_map_register_instructions.md R202, 20_memory.md R112). -/
def doGmf : M Unit := do
  update State.afterDevices
  let vp ← popLong
  let s ← getState
  pushEntry (s.readMap vp.toNat)

/-- The meaning of `GMF`. -/
def execGmf (s : State) : Answer := run doGmf s

/-- `SMF` (40_map_register_instructions.md R203, 20_memory.md R112). -/
def doSmf : M Unit := do
  update State.afterDevices
  let newMf ← pop
  let vp ← popLong
  let s ← getState
  let e := s.readMap vp.toNat
  pushEntry e
  if e.vacant then pure () else update fun s => s.writeMap vp.toNat (entryOfFlags newMf e.real)

/-- The meaning of `SMF`. -/
def execSmf (s : State) : Answer := run doSmf s

/-- `LP` (40_map_register_instructions.md R204). -/
def doLp : M Unit := do
  let ptr ← pop
  let s ← getState
  pushLong (if ptr = 0 then 0 else s.lengthen ptr)

/-- The meaning of `LP`. -/
def execLp (s : State) : Answer := run doLp s

/-- `ROB` (40_map_register_instructions.md R205). -/
def doRob (alpha : Byte) : M Unit := do
  let ptr ← pop
  if overheadIndexLegal alpha then do
    let w ← memReadMds (ptr - zextByte alpha)
    push w
  else refuse (.overheadIndex alpha)

/-- The meaning of `ROB`. -/
def execRob (alpha : Byte) (s : State) : Answer := run (doRob alpha) s

/-- `WOB` (40_map_register_instructions.md R206). -/
def doWob (alpha : Byte) : M Unit := do
  let ptr ← pop
  if overheadIndexLegal alpha then memWritePopMds (ptr - zextByte alpha) else refuse (.overheadIndex alpha)

/-- The meaning of `WOB`. -/
def execWob (alpha : Byte) (s : State) : Answer := run (doWob alpha) s

/-- `RRIT` (40_map_register_instructions.md R214). -/
def doRrit : M Unit := do
  let it ← sampleTimer
  pushLong it

/-- The meaning of `RRIT`. -/
def execRrit (s : State) : Answer := run doRrit s

/-- `RRMDS` (40_map_register_instructions.md R215). -/
def doRrmds : M Unit := do
  let s ← getState
  push s.mds

/-- The meaning of `RRMDS`. -/
def execRrmds (s : State) : Answer := run doRrmds s

/-- `RRPSB` (40_map_register_instructions.md R216). -/
def doRrpsb : M Unit := do
  let s ← getState
  push (psbHandle s.psb)

/-- The meaning of `RRPSB`. -/
def execRrpsb (s : State) : Answer := run doRrpsb s

/-- `RRPTC` (40_map_register_instructions.md R217). -/
def doRrptc : M Unit := do
  let s ← getState
  push s.ptc

/-- The meaning of `RRPTC`. -/
def execRrptc (s : State) : Answer := run doRrptc s

/-- `RRWDC` (40_map_register_instructions.md R218). -/
def doRrwdc : M Unit := do
  let s ← getState
  push s.wdc

/-- The meaning of `RRWDC`. -/
def execRrwdc (s : State) : Answer := run doRrwdc s

/-- `RRWP` (40_map_register_instructions.md R219). -/
def doRrwp : M Unit := do
  let wp ← sampleWakeups
  push wp

/-- The meaning of `RRWP`. -/
def execRrwp (s : State) : Answer := run doRrwp s

/-- `RRXTS` (40_map_register_instructions.md R220). -/
def doRrxts : M Unit := do
  let s ← getState
  push s.xts

/-- The meaning of `RRXTS`. -/
def execRrxts (s : State) : Answer := run doRrxts s

/-- `WRIT` (40_map_register_instructions.md R223). -/
def doWrit : M Unit := do
  let v ← popLong
  update fun s => { s with it := v }

/-- The meaning of `WRIT`. -/
def execWrit (s : State) : Answer := run doWrit s

/-- `WRMDS` (40_map_register_instructions.md R224). -/
def doWrmds : M Unit := do
  let v ← pop
  update fun s => { s with mds := v }

/-- The meaning of `WRMDS`. -/
def execWrmds (s : State) : Answer := run doWrmds s

/-- `WRPSB` (40_map_register_instructions.md R225, U9). -/
def doWrpsb : M Unit := do
  let v ← pop
  update fun s => { s with psb := psbIndex v }

/-- The meaning of `WRPSB`. -/
def execWrpsb (s : State) : Answer := run doWrpsb s

/-- `WRMP` (40_map_register_instructions.md R227). -/
def doWrmp : M Unit := do
  let v ← pop
  update fun s => { s with mp := if Config.hasMP then v else s.mp }

/-- The meaning of `WRMP`. -/
def execWrmp (s : State) : Answer := run doWrmp s

/-- `WRPTC` (40_map_register_instructions.md R228). -/
def doWrptc : M Unit := do
  let v ← pop
  let now ← sampleTimer
  update fun s => { s with ptc := v, time := now }

/-- The meaning of `WRPTC`. -/
def execWrptc (s : State) : Answer := run doWrptc s

/-- `WRWDC` (40_map_register_instructions.md R229). -/
def doWrwdc : M Unit := do
  let v ← pop
  update fun s => { s with wdc := v }

/-- The meaning of `WRWDC`. -/
def execWrwdc (s : State) : Answer := run doWrwdc s

/-- `WRWP` (40_map_register_instructions.md R230). -/
def doWrwp : M Unit := do
  let v ← pop
  update fun s => { s with wp := v }

/-- The meaning of `WRWP`. -/
def execWrwp (s : State) : Answer := run doWrwp s

/-- `WRXTS` (40_map_register_instructions.md R231). -/
def doWrxts : M Unit := do
  let v ← pop
  update fun s => { s with xts := v }

/-- The meaning of `WRXTS`. -/
def execWrxts (s : State) : Answer := run doWrxts s

end Sys2Proof.Machine
end

