-- ==== Sys2Proof/Machine/Process.lean ====
section
/-!
DEFINITION. Monitors, condition variables, queues, priority, and the wakeup disable counter (48_process_instructions.md).
-/
namespace Sys2Proof.Machine

/-- A write-protect fault at `va` inside is refused: it would come after the process was requeued or the monitor was
exited (48_process_instructions.md R691, R693, U19). -/
def refuseProtected (va : LongWord) (m : M Unit) : M Unit := fun s =>
  match m s with
  | .ok a s' => .ok a s'
  | .error e s' =>
    if e = .faultTwo .writeProtectFault va then .error (.refuse .queueWriteProtected) s' else .error e s'

/-- `EnterFailed` (48_process_instructions.md R691). -/
def enterFailed (m : LongWord) : M Unit := do
  let s ← getState
  let link ← memRead (psbLink s.psb)
  memWrite (psbLink s.psb) (withBit link failedBit true)
  refuseProtected m (requeue readyQueue m s.psb)
  reschedule false

/-- `Exit`: whether a process was made ready (48_process_instructions.md R692). -/
def exitMonitor (m : LongWord) : M Bool := do
  let mon ← memRead m
  if mon.getLsbD lockedBit then do
    memWrite m (withBit mon lockedBit false)
    if indexField mon = 0 then return false
    else do
      let link ← memRead (psbLink (indexField mon))
      requeue m readyQueue (indexField link)
      return true
  else refuse .monitorNotLocked

/-- Lock a monitor whose lock word is `mon` and push TRUE (48_process_instructions.md R690). -/
def lockMonitor (m : LongWord) (mon : Word) : M Unit := do
  memWrite m (withBit mon lockedBit true)
  push (booleanWord true)

/-- Call the scheduler if a process was made ready (48_process_instructions.md R692). -/
def rescheduleIf (woken : Bool) : M Unit := if woken then reschedule false else pure ()

/-- `ME` (48_process_instructions.md R690). -/
def doMe : M Unit := do
  let m ← popLong
  minimalStack
  let mon ← memRead m
  if mon.getLsbD lockedBit then enterFailed m else lockMonitor m mon

/-- The meaning of `ME`. -/
def execMe (s : State) : Answer := run doMe s

/-- `MX` (48_process_instructions.md R692). -/
def doMx : M Unit := do
  let m ← popLong
  minimalStack
  let woken ← exitMonitor m
  rescheduleIf woken

/-- The meaning of `MX`. -/
def execMx (s : State) : Answer := run doMx s

/-- The timeout a waiting process gets: 0 for none (48_process_instructions.md R693). -/
def waitTimeout (ptc t : Word) : Word := if t = 0 then 0 else if ptc + t = 0 then 1 else ptc + t

/-- The part of `MW` that leaves the process ready: a waiting wakeup is consumed (48_process_instructions.md R693). -/
def consumeWakeup (c : LongWord) (cond : Word) : M Unit :=
  refuseProtected c (memWrite c (withBit cond wakeupBit false))

/-- The part of `MW` that moves the current process to the condition's queue (48_process_instructions.md R693). -/
def waitOn (c : LongWord) (t flags : Word) : M Unit := do
  let s ← getState
  memWrite (psbTimeout s.psb) (waitTimeout s.ptc t)
  memWrite (psbFlags s.psb) (withBit flags waitingBit true)
  refuseProtected c (requeue readyQueue c s.psb)

/-- `MW` (48_process_instructions.md R693). -/
def doMw : M Unit := do
  let t ← pop
  let c ← popLong
  let m ← popLong
  minimalStack
  cleanupCondition c
  let woken ← exitMonitor m
  let s ← getState
  let flags ← memRead (psbFlags s.psb)
  let cond ← memRead c
  if flags.getLsbD abortBit && cond.getLsbD abortableBit then rescheduleIf woken
  else if cond.getLsbD wakeupBit then do
    consumeWakeup c cond
    rescheduleIf woken
  else do
    waitOn c t flags
    reschedule false

/-- The meaning of `MW`. -/
def execMw (s : State) : Answer := run doMw s

/-- The part of `MR` that enters an unlocked monitor (48_process_instructions.md R694). -/
def reenter (m c : LongWord) (mon : Word) : M Unit := do
  cleanupCondition c
  let s ← getState
  let flags ← memRead (psbFlags s.psb)
  memWrite (psbFlags s.psb) (withIndex flags 0)
  if flags.getLsbD abortBit then do
    let cond ← memRead c
    if cond.getLsbD abortableBit then raise processTrap
  lockMonitor m mon

/-- `MR` (48_process_instructions.md R694). -/
def doMr : M Unit := do
  let c ← popLong
  let m ← popLong
  minimalStack
  let mon ← memRead m
  if mon.getLsbD lockedBit then enterFailed m else reenter m c mon

/-- The meaning of `MR`. -/
def execMr (s : State) : Answer := run doMr s

/-- `NC` (48_process_instructions.md R695). -/
def doNc : M Unit := do
  let c ← popLong
  minimalStack
  cleanupCondition c
  let cond ← memRead c
  if indexField cond = 0 then pure ()
  else do
    wakeHead c
    reschedule false

/-- The meaning of `NC`. -/
def execNc (s : State) : Answer := run doNc s

/-- The loop of `BC`: whether a process was woken. A queue that is still not empty after as many wakes as there are
processes is the ready queue itself (48_process_instructions.md R696). -/
def wakeAll (n : Nat) (c : LongWord) (woken : Bool) : M Bool :=
  match n with
  | 0 => refuse .queueSearch
  | n + 1 => do
    let cond ← memRead c
    if indexField cond = 0 then return woken
    else do
      wakeHead c
      wakeAll n c true

/-- `BC` (48_process_instructions.md R696). -/
def doBc : M Unit := do
  let c ← popLong
  minimalStack
  cleanupCondition c
  let woken ← wakeAll (ringBound + 1) c false
  rescheduleIf woken

/-- The meaning of `BC`. -/
def execBc (s : State) : Answer := run doBc s

/-- `REQ` (48_process_instructions.md R698). -/
def doReq : M Unit := do
  let psb ← pop
  let dst ← popLong
  let src ← popLong
  minimalStack
  requeue src dst (psbIndex psb)
  reschedule false

/-- The meaning of `REQ`. -/
def execReq (s : State) : Answer := run doReq s

/-- `SPP` (48_process_instructions.md R699, U20). -/
def doSpp : M Unit := do
  let priority ← pop
  minimalStack
  let s ← getState
  let link ← memRead (psbLink s.psb)
  memWrite (psbLink s.psb) (withPriority link (priority.extractLsb' 0 3))
  requeue readyQueue readyQueue s.psb
  reschedule false

/-- The meaning of `SPP`. -/
def execSpp (s : State) : Answer := run doSpp s

/-- `DI` (48_process_instructions.md R730). -/
def doDi : M Unit := do
  let s ← getState
  if s.wdc = Config.wdcMax then raise interruptError
  update fun s => { s with wdc := s.wdc + 1 }

/-- The meaning of `DI`. -/
def execDi (s : State) : Answer := run doDi s

/-- `EI` (48_process_instructions.md R731). -/
def doEi : M Unit := do
  let s ← getState
  if s.wdc = 0 then raise interruptError
  update fun s => { s with wdc := s.wdc - 1 }

/-- The meaning of `EI`. -/
def execEi (s : State) : Answer := run doEi s

end Sys2Proof.Machine
end

