-- ==== Sys2Proof/Machine/Stack.lean ====
section
/-!
DEFINITION. The stack instructions (41_stack_instructions.md).
-/
namespace Sys2Proof.Machine

/-- A unary operation on the top word (41_stack_instructions.md R240). -/
def unary (f : Word → Word) : M Unit := do
  let u ← pop
  push (f u)

/-- A unary operation on the top long (41_stack_instructions.md R240). -/
def unaryLong (f : LongWord → LongWord) : M Unit := do
  let u ← popLong
  pushLong (f u)

/-- A binary operation: `f` of the deeper word and the top one (41_stack_instructions.md R240). -/
def binary (f : Word → Word → Word) : M Unit := do
  let v ← pop
  let u ← pop
  push (f u v)

/-- A binary operation: `f` of the deeper long and the top one (41_stack_instructions.md R240). -/
def binaryLong (f : LongWord → LongWord → LongWord) : M Unit := do
  let v ← popLong
  let u ← popLong
  pushLong (f u v)

/-- A comparison of two longs (41_stack_instructions.md R300, R301). -/
def compareLong (f : LongWord → LongWord → Word) : M Unit := do
  let v ← popLong
  let u ← popLong
  push (f u v)

/-- Leave a quotient on the stack and a remainder above it (41_stack_instructions.md R289). -/
def pushDivision (quotient remainder : Word) : M Unit := do
  push quotient
  push remainder
  discard

/-- Leave a long quotient on the stack and a long remainder above it (41_stack_instructions.md R292). -/
def pushLongDivision (quotient remainder : LongWord) : M Unit := do
  pushLong quotient
  pushLong remainder
  discard
  discard

/-- `REC` (41_stack_instructions.md R241). -/
def doRecover : M Unit := recoverTop

/-- The meaning of `REC`. -/
def execRecover (s : State) : Answer := run doRecover s

/-- `REC2` (41_stack_instructions.md R242). -/
def doRecover2 : M Unit := do
  recoverTop
  recoverTop

/-- The meaning of `REC2`. -/
def execRecover2 (s : State) : Answer := run doRecover2 s

/-- `DIS` (41_stack_instructions.md R243). -/
def doDis : M Unit := discard

/-- The meaning of `DIS`. -/
def execDis (s : State) : Answer := run doDis s

/-- `DIS2` (41_stack_instructions.md R244). -/
def doDis2 : M Unit := do
  discard
  discard

/-- The meaning of `DIS2`. -/
def execDis2 (s : State) : Answer := run doDis2 s

/-- `EXCH` (41_stack_instructions.md R245). -/
def doExch : M Unit := do
  let v ← pop
  let u ← pop
  push v
  push u

/-- The meaning of `EXCH`. -/
def execExch (s : State) : Answer := run doExch s

/-- `DEXCH` (41_stack_instructions.md R246). -/
def doDexch : M Unit := do
  let v ← popLong
  let u ← popLong
  pushLong v
  pushLong u

/-- The meaning of `DEXCH`. -/
def execDexch (s : State) : Answer := run doDexch s

/-- `DUP` (41_stack_instructions.md R247). -/
def doDup : M Unit := do
  let u ← pop
  push u
  push u

/-- The meaning of `DUP`. -/
def execDup (s : State) : Answer := run doDup s

/-- `DDUP` (41_stack_instructions.md R248). -/
def doDdup : M Unit := do
  let u ← popLong
  pushLong u
  pushLong u

/-- The meaning of `DDUP`. -/
def execDdup (s : State) : Answer := run doDdup s

/-- `EXDIS` (41_stack_instructions.md R249). -/
def doExdis : M Unit := do
  let u ← pop
  let _ ← pop
  push u

/-- The meaning of `EXDIS`. -/
def execExdis (s : State) : Answer := run doExdis s

/-- `BNDCK` (41_stack_instructions.md R250). -/
def doBndck : M Unit := do
  let range ← pop
  let index ← pop
  push index
  if range ≤ index then raise boundsTrap else pure ()

/-- The meaning of `BNDCK`. -/
def execBndck (s : State) : Answer := run doBndck s

/-- `BNDCKL` (41_stack_instructions.md R251). -/
def doBndckl : M Unit := do
  let range ← popLong
  let index ← popLong
  pushLong index
  if range ≤ index then raise boundsTrap else pure ()

/-- The meaning of `BNDCKL`. -/
def execBndckl (s : State) : Answer := run doBndckl s

/-- `NILCKL` (41_stack_instructions.md R252). -/
def doNilckl : M Unit := do
  let ptr ← popLong
  pushLong ptr
  if ptr = 0 then raise pointerTrap else pure ()

/-- The meaning of `NILCKL`. -/
def execNilckl (s : State) : Answer := run doNilckl s

/-- `NEG` (41_stack_instructions.md R256). -/
def doNeg : M Unit := unary (fun i => -i)

/-- The meaning of `NEG`. -/
def execNeg (s : State) : Answer := run doNeg s

/-- `INC` (41_stack_instructions.md R257). -/
def doInc : M Unit := unary (fun s => s + 1)

/-- The meaning of `INC`. -/
def execInc (s : State) : Answer := run doInc s

/-- `DINC` (41_stack_instructions.md R258). -/
def doDinc : M Unit := unaryLong (fun s => s + 1)

/-- The meaning of `DINC`. -/
def execDinc (s : State) : Answer := run doDinc s

/-- `DEC` (41_stack_instructions.md R259). -/
def doDec : M Unit := unary (fun s => s - 1)

/-- The meaning of `DEC`. -/
def execDec (s : State) : Answer := run doDec s

/-- `ADDSB` (41_stack_instructions.md R260). -/
def doAddsb (alpha : Byte) : M Unit := unary (fun i => i + signExtendByte alpha)

/-- The meaning of `ADDSB`. -/
def execAddsb (alpha : Byte) (s : State) : Answer := run (doAddsb alpha) s

/-- `DBL` (41_stack_instructions.md R261). -/
def doDbl : M Unit := unary (fun u => shiftWord u 1)

/-- The meaning of `DBL`. -/
def execDbl (s : State) : Answer := run doDbl s

/-- `DDBL` (41_stack_instructions.md R262). -/
def doDdbl : M Unit := unaryLong (fun u => shiftLong u 1)

/-- The meaning of `DDBL`. -/
def execDdbl (s : State) : Answer := run doDdbl s

/-- `TRPL` (41_stack_instructions.md R263). -/
def doTrpl : M Unit := unary (fun s => s * 3)

/-- The meaning of `TRPL`. -/
def execTrpl (s : State) : Answer := run doTrpl s

/-- `LINT` (41_stack_instructions.md R264). -/
def doLint : M Unit := do
  let i ← pop
  push i
  push (signWord i)

/-- The meaning of `LINT`. -/
def execLint (s : State) : Answer := run doLint s

/-- `SHIFTSB` (41_stack_instructions.md R266). -/
def doShiftsb (alpha : Byte) : M Unit := do
  let u ← pop
  if shiftCountLegal alpha then push (shiftWord u (signExtendByte alpha)) else refuse (.shiftCount alpha)

/-- The meaning of `SHIFTSB`. -/
def execShiftsb (alpha : Byte) (s : State) : Answer := run (doShiftsb alpha) s

/-- `AND` (41_stack_instructions.md R268). -/
def doAnd : M Unit := binary (fun u v => u &&& v)

/-- The meaning of `AND`. -/
def execAnd (s : State) : Answer := run doAnd s

/-- `DAND` (41_stack_instructions.md R269). -/
def doDand : M Unit := binaryLong (fun u v => u &&& v)

/-- The meaning of `DAND`. -/
def execDand (s : State) : Answer := run doDand s

/-- `IOR` (41_stack_instructions.md R270). -/
def doIor : M Unit := binary (fun u v => u ||| v)

/-- The meaning of `IOR`. -/
def execIor (s : State) : Answer := run doIor s

/-- `DIOR` (41_stack_instructions.md R271). -/
def doDior : M Unit := binaryLong (fun u v => u ||| v)

/-- The meaning of `DIOR`. -/
def execDior (s : State) : Answer := run doDior s

/-- `XOR` (41_stack_instructions.md R272). -/
def doXor : M Unit := binary (fun u v => u ^^^ v)

/-- The meaning of `XOR`. -/
def execXor (s : State) : Answer := run doXor s

/-- `DXOR` (41_stack_instructions.md R273). -/
def doDxor : M Unit := binaryLong (fun u v => u ^^^ v)

/-- The meaning of `DXOR`. -/
def execDxor (s : State) : Answer := run doDxor s

/-- `SHIFT` (41_stack_instructions.md R274). -/
def doShift : M Unit := binary shiftWord

/-- The meaning of `SHIFT`. -/
def execShift (s : State) : Answer := run doShift s

/-- `DSHIFT` (41_stack_instructions.md R275). -/
def doDshift : M Unit := do
  let shift ← pop
  let u ← popLong
  pushLong (shiftLong u shift)

/-- The meaning of `DSHIFT`. -/
def execDshift (s : State) : Answer := run doDshift s

/-- `ROTATE` (41_stack_instructions.md R276). -/
def doRotate : M Unit := binary rotateWord

/-- The meaning of `ROTATE`. -/
def execRotate (s : State) : Answer := run doRotate s

/-- `ADD` (41_stack_instructions.md R280). -/
def doAdd : M Unit := binary (fun s t => s + t)

/-- The meaning of `ADD`. -/
def execAdd (s : State) : Answer := run doAdd s

/-- `SUB` (41_stack_instructions.md R281). -/
def doSub : M Unit := binary (fun s t => s - t)

/-- The meaning of `SUB`. -/
def execSub (s : State) : Answer := run doSub s

/-- `DADD` (41_stack_instructions.md R282). -/
def doDadd : M Unit := binaryLong (fun s t => s + t)

/-- The meaning of `DADD`. -/
def execDadd (s : State) : Answer := run doDadd s

/-- `DSUB` (41_stack_instructions.md R283). -/
def doDsub : M Unit := binaryLong (fun s t => s - t)

/-- The meaning of `DSUB`. -/
def execDsub (s : State) : Answer := run doDsub s

/-- `ADC` (41_stack_instructions.md R284). -/
def doAdc : M Unit := do
  let t ← popLong
  let s ← pop
  pushLong (zextLong s + t)

/-- The meaning of `ADC`. -/
def execAdc (s : State) : Answer := run doAdc s

/-- `ACD` (41_stack_instructions.md R285). -/
def doAcd : M Unit := do
  let t ← pop
  let s ← popLong
  pushLong (s + zextLong t)

/-- The meaning of `ACD`. -/
def execAcd (s : State) : Answer := run doAcd s

/-- `MUL` (41_stack_instructions.md R286). -/
def doMul : M Unit := do
  let t ← pop
  let s ← pop
  pushLong (zextLong s * zextLong t)
  discard

/-- The meaning of `MUL`. -/
def execMul (s : State) : Answer := run doMul s

/-- `DMUL` (41_stack_instructions.md R287). -/
def doDmul : M Unit := binaryLong (fun s t => s * t)

/-- The meaning of `DMUL`. -/
def execDmul (s : State) : Answer := run doDmul s

/-- `SDIV` (41_stack_instructions.md R289). -/
def doSdiv : M Unit := do
  let k ← pop
  let j ← pop
  if k = 0 then raise divZeroTrap
  pushDivision (signedQuotient j k) (signedRemainder j k)

/-- The meaning of `SDIV`. -/
def execSdiv (s : State) : Answer := run doSdiv s

/-- `UDIV` (41_stack_instructions.md R290). -/
def doUdiv : M Unit := do
  let t ← pop
  let s ← pop
  if t = 0 then raise divZeroTrap
  pushDivision (s / t) (s % t)

/-- The meaning of `UDIV`. -/
def execUdiv (s : State) : Answer := run doUdiv s

/-- `LUDIV` (41_stack_instructions.md R291). -/
def doLudiv : M Unit := do
  let t ← pop
  let s ← popLong
  if t = 0 then raise divZeroTrap
  if t ≤ highHalf s then raise divCheckTrap
  pushDivision (lowHalf (s / zextLong t)) (lowHalf (s % zextLong t))

/-- The meaning of `LUDIV`. -/
def execLudiv (s : State) : Answer := run doLudiv s

/-- `SDDIV` (41_stack_instructions.md R292). -/
def doSddiv : M Unit := do
  let k ← popLong
  let j ← popLong
  if k = 0 then raise divZeroTrap
  pushLongDivision (signedQuotient j k) (signedRemainder j k)

/-- The meaning of `SDDIV`. -/
def execSddiv (s : State) : Answer := run doSddiv s

/-- `UDDIV` (41_stack_instructions.md R293). -/
def doUddiv : M Unit := do
  let t ← popLong
  let s ← popLong
  if t = 0 then raise divZeroTrap
  pushLongDivision (s / t) (s % t)

/-- The meaning of `UDDIV`. -/
def execUddiv (s : State) : Answer := run doUddiv s

/-- `DCMP` (41_stack_instructions.md R300). -/
def doDcmp : M Unit := compareLong compareSigned

/-- The meaning of `DCMP`. -/
def execDcmp (s : State) : Answer := run doDcmp s

/-- `UDCMP` (41_stack_instructions.md R301). -/
def doUdcmp : M Unit := compareLong compareUnsigned

/-- The meaning of `UDCMP`. -/
def execUdcmp (s : State) : Answer := run doUdcmp s

end Sys2Proof.Machine
end

