-- ==== Sys2Proof/Machine/StringField.lean ====
section
/-!
DEFINITION. The string and field instructions (44_assign_string_field.md). A store is a read of the word, a merge and a
write of the whole word (R470). A field specifier that crosses the word is refused when the field routine is reached,
after the word is read (R481, U11).
-/
namespace Sys2Proof.Machine

/-- The byte offset of a short string access, modulo 2^16 (44_assign_string_field.md R471, decision D14). -/
def shortOffset (alpha : Byte) (index : Word) : Word := zextByte alpha + index

/-- The byte offset of a long string access (44_assign_string_field.md R473). -/
def longOffset (alpha : Byte) (index : Word) : LongWord := zextByteLong alpha + zextLong index

/-- The long address of the word of a short string access; the byte in it is chosen by the offset's parity
(44_assign_string_field.md R471, decision D14). -/
def shortStringWord (ptr offset : Word) : M LongWord := do
  let s ← getState
  return s.lengthen (ptr + offset >>> 1)

/-- Push the field of a word already read, if the specifier is legal (44_assign_string_field.md R481). -/
def pushField (w : Word) (pos size : Nibble) : M Unit :=
  if fieldSpecLegal pos size then push (readField w pos size) else refuse (.fieldSpecifier (nibblePair pos size))

/-- `Push(ReadField(MemRead(va, 1), spec))` (44_assign_string_field.md R485). -/
def loadField (va : LongWord) (pos size : Nibble) : M Unit := do
  let w ← memRead va
  pushField w pos size

/-- `Push(ReadField(MemReadMds(p, 1), spec))` (44_assign_string_field.md R483). -/
def loadFieldMds (p : Word) (pos size : Nibble) : M Unit := do
  let w ← memReadMds p
  pushField w pos size

/-- Store a field at a virtual address: read, check of the specifier, merge, write (44_assign_string_field.md R481,
R482). -/
def mergeField (va : LongWord) (pos size : Nibble) (data : Word) : M Unit := do
  let w ← memRead va
  if fieldSpecLegal pos size then memWrite va (writeField w pos size data)
  else refuse (.fieldSpecifier (nibblePair pos size))

/-- The same at a short pointer (44_assign_string_field.md R491). -/
def mergeFieldMds (p : Word) (pos size : Nibble) (data : Word) : M Unit := do
  let s ← getState
  mergeField (s.lengthen p) pos size data

/-- `WS0F` (44_assign_string_field.md R497). -/
def writeSwappedField (offset : Word) (pos size : Nibble) : M Unit := do
  let data ← pop
  let ptr ← pop
  mergeFieldMds (ptr + offset) pos size data

/-- `RS` (44_assign_string_field.md R472). -/
def doRs (alpha : Byte) : M Unit := do
  let index ← pop
  let ptr ← pop
  let va ← shortStringWord ptr (shortOffset alpha index)
  let w ← memRead va
  push (zextByte (selectByte w ((shortOffset alpha index).getLsbD 0)))

/-- The meaning of `RS`. -/
def execRs (alpha : Byte) (s : State) : Answer := run (doRs alpha) s

/-- `RLS` (44_assign_string_field.md R473). -/
def doRls (alpha : Byte) : M Unit := do
  let index ← pop
  let ptr ← popLong
  let b ← fetchByte ptr (longOffset alpha index)
  push (zextByte b)

/-- The meaning of `RLS`. -/
def execRls (alpha : Byte) (s : State) : Answer := run (doRls alpha) s

/-- `WS` (44_assign_string_field.md R474). -/
def doWs (alpha : Byte) : M Unit := do
  let index ← pop
  let ptr ← pop
  let data ← pop
  let va ← shortStringWord ptr (shortOffset alpha index)
  let w ← memRead va
  memWrite va (replaceByte w ((shortOffset alpha index).getLsbD 0) (rightByte data))

/-- The meaning of `WS`. -/
def execWs (alpha : Byte) (s : State) : Answer := run (doWs alpha) s

/-- `WLS` (44_assign_string_field.md R475). -/
def doWls (alpha : Byte) : M Unit := do
  let index ← pop
  let ptr ← popLong
  let data ← pop
  storeByte ptr (longOffset alpha index) (rightByte data)

/-- The meaning of `WLS`. -/
def execWls (alpha : Byte) (s : State) : Answer := run (doWls alpha) s

/-- `RF` (44_assign_string_field.md R483). -/
def doRf (alpha : Byte) (pos size : Nibble) : M Unit := do
  let ptr ← pop
  loadFieldMds (ptr + zextByte alpha) pos size

/-- The meaning of `RF`. -/
def execRf (alpha : Byte) (pos size : Nibble) (s : State) : Answer := run (doRf alpha pos size) s

/-- `R0F` (44_assign_string_field.md R484). -/
def doR0f (pos size : Nibble) : M Unit := do
  let ptr ← pop
  loadFieldMds ptr pos size

/-- The meaning of `R0F`. -/
def execR0f (pos size : Nibble) (s : State) : Answer := run (doR0f pos size) s

/-- `RLF` (44_assign_string_field.md R485). -/
def doRlf (alpha : Byte) (pos size : Nibble) : M Unit := do
  let ptr ← popLong
  loadField (ptr + zextByteLong alpha) pos size

/-- The meaning of `RLF`. -/
def execRlf (alpha : Byte) (pos size : Nibble) (s : State) : Answer := run (doRlf alpha pos size) s

/-- `RL0F` (44_assign_string_field.md R486). -/
def doRl0f (pos size : Nibble) : M Unit := do
  let ptr ← popLong
  loadField ptr pos size

/-- The meaning of `RL0F`. -/
def execRl0f (pos size : Nibble) (s : State) : Answer := run (doRl0f pos size) s

/-- `RLFS` (44_assign_string_field.md R487). -/
def doRlfs : M Unit := do
  let desc ← pop
  let ptr ← popLong
  loadField (ptr + zextByteLong (descOffset desc)) (descPos desc) (descSize desc)

/-- The meaning of `RLFS`. -/
def execRlfs (s : State) : Answer := run doRlfs s

/-- `RCFS` (44_assign_string_field.md R488). -/
def doRcfs : M Unit := do
  let desc ← pop
  let offset ← pop
  let w ← readCode (offset + zextByte (descOffset desc))
  pushField w (descPos desc) (descSize desc)

/-- The meaning of `RCFS`. -/
def execRcfs (s : State) : Answer := run doRcfs s

/-- `RLIPF` (44_assign_string_field.md R489). -/
def doRlipf (left right pos size : Nibble) : M Unit := do
  let s ← getState
  let ptr ← memReadMds (s.lf + zextNibble left)
  loadFieldMds (ptr + zextNibble right) pos size

/-- The meaning of `RLIPF`. -/
def execRlipf (left right pos size : Nibble) (s : State) : Answer := run (doRlipf left right pos size) s

/-- `RLILPF` (44_assign_string_field.md R490). -/
def doRlilpf (left right pos size : Nibble) : M Unit := do
  let s ← getState
  let ptr ← readDblMds (s.lf + zextNibble left)
  loadField (ptr + zextNibbleLong right) pos size

/-- The meaning of `RLILPF`. -/
def execRlilpf (left right pos size : Nibble) (s : State) : Answer := run (doRlilpf left right pos size) s

/-- `WF` (44_assign_string_field.md R491). -/
def doWf (alpha : Byte) (pos size : Nibble) : M Unit := do
  let ptr ← pop
  let data ← pop
  mergeFieldMds (ptr + zextByte alpha) pos size data

/-- The meaning of `WF`. -/
def execWf (alpha : Byte) (pos size : Nibble) (s : State) : Answer := run (doWf alpha pos size) s

/-- `W0F` (44_assign_string_field.md R492). -/
def doW0f (pos size : Nibble) : M Unit := do
  let ptr ← pop
  let data ← pop
  mergeFieldMds ptr pos size data

/-- The meaning of `W0F`. -/
def execW0f (pos size : Nibble) (s : State) : Answer := run (doW0f pos size) s

/-- `WLF` (44_assign_string_field.md R493). -/
def doWlf (alpha : Byte) (pos size : Nibble) : M Unit := do
  let ptr ← popLong
  let data ← pop
  mergeField (ptr + zextByteLong alpha) pos size data

/-- The meaning of `WLF`. -/
def execWlf (alpha : Byte) (pos size : Nibble) (s : State) : Answer := run (doWlf alpha pos size) s

/-- `WL0F` (44_assign_string_field.md R494). -/
def doWl0f (pos size : Nibble) : M Unit := do
  let ptr ← popLong
  let data ← pop
  mergeField ptr pos size data

/-- The meaning of `WL0F`. -/
def execWl0f (pos size : Nibble) (s : State) : Answer := run (doWl0f pos size) s

/-- `WLFS` (44_assign_string_field.md R495). -/
def doWlfs : M Unit := do
  let desc ← pop
  let ptr ← popLong
  let data ← pop
  mergeField (ptr + zextByteLong (descOffset desc)) (descPos desc) (descSize desc) data

/-- The meaning of `WLFS`. -/
def execWlfs (s : State) : Answer := run doWlfs s

/-- `WS0F` (44_assign_string_field.md R497). -/
def doWs0f (pos size : Nibble) : M Unit := writeSwappedField 0 pos size

/-- The meaning of `WS0F`. -/
def execWs0f (pos size : Nibble) (s : State) : Answer := run (doWs0f pos size) s

/-- `PS0F` (44_assign_string_field.md R498). -/
def doPs0f (pos size : Nibble) : M Unit := do
  writeSwappedField 0 pos size
  recoverTop

/-- The meaning of `PS0F`. -/
def execPs0f (pos size : Nibble) (s : State) : Answer := run (doPs0f pos size) s

/-- `PSF` (44_assign_string_field.md R499). -/
def doPsf (alpha : Byte) (pos size : Nibble) : M Unit := do
  writeSwappedField (zextByte alpha) pos size
  recoverTop

/-- The meaning of `PSF`. -/
def execPsf (alpha : Byte) (pos size : Nibble) (s : State) : Answer := run (doPsf alpha pos size) s

/-- `PSLF` (44_assign_string_field.md R500). -/
def doPslf (alpha : Byte) (pos size : Nibble) : M Unit := do
  let data ← pop
  let ptr ← popLong
  mergeField (ptr + zextByteLong alpha) pos size data
  recoverTop
  recoverTop

/-- The meaning of `PSLF`. -/
def execPslf (alpha : Byte) (pos size : Nibble) (s : State) : Answer := run (doPslf alpha pos size) s

end Sys2Proof.Machine
end

