-- ==== Sys2Proof/Machine/TxtBlt.lean ====
section
/-!
DEFINITION. `TXTBLT` with the font layout of decision D18 (46_bitblt_txtblt.md R570 to R579).
-/
namespace Sys2Proof.Machine

/-- `TxtBltArg` (46_bitblt_txtblt.md R572). -/
structure TxtBltArg where
  /-- `function`: 0 display, 1 format, 2 resolve, 3 unused (46_bitblt_txtblt.md R570) -/
  function : BitVec 2
  /-- the reserved field is not zero -/
  reserved : Bool
  last : Word
  text : LongWord
  font : LongWord
  dst : LongWord
  dstBpl : Word
  margin : Word
  space : Word
  coord : LongWord
  deriving DecidableEq, Repr

/-- The thirteen words of the record as a `TxtBltArg` (46_bitblt_txtblt.md R572). -/
def txtBltArgOfWords (w : List Word) : TxtBltArg where
  function := (w.getD 0 0).extractLsb' 0 2
  reserved := (w.getD 0 0) &&& 0xFFFC != 0
  last := w.getD 1 0
  text := mkLong (w.getD 2 0) (w.getD 3 0)
  font := mkLong (w.getD 4 0) (w.getD 5 0)
  dst := mkLong (w.getD 6 0) (w.getD 7 0)
  dstBpl := w.getD 8 0
  margin := w.getD 9 0
  space := w.getD 10 0
  coord := mkLong (w.getD 11 0) (w.getD 12 0)

/-- The checks of `TXTBLT` (46_bitblt_txtblt.md R575). -/
def TxtBltArg.legal (a : TxtBltArg) : Bool := !a.reserved && a.dstBpl ≤ 32767

/-- The arguments that `TXTBLT` updates on the stack (46_bitblt_txtblt.md R575). -/
structure TxtBltJob where
  index : Word
  bitPos : Word
  printPos : Word
  count : Word
  deriving DecidableEq, Repr

/-! ### Access to the font (46_bitblt_txtblt.md R571, R579) -/

/-- `spacingWidth` (46_bitblt_txtblt.md R579). -/
def spacingWidth (font : LongWord) (c : Byte) : M Word := do
  let p ← readDbl (font + 2)
  let b ← fetchByte p (zextByteLong c)
  return zextByte b

/-- `printerWidth` (46_bitblt_txtblt.md R579). -/
def printerWidth (font : LongWord) (c : Byte) : M Word := do
  let p ← readDbl (font + 4)
  memRead (p + zextByteLong c)

/-- The flags of a character (46_bitblt_txtblt.md R579). -/
def fontFlags (font : LongWord) (c : Byte) : M Byte := do
  let p ← readDbl (font + 6)
  fetchByte p (zextByteLong c)

/-- `pad` (46_bitblt_txtblt.md R579). -/
def padCharacter (font : LongWord) (c : Byte) : M Bool := do
  let b ← fontFlags font c
  return b.getLsbD 7

/-- `stop` (46_bitblt_txtblt.md R579). -/
def stopCharacter (font : LongWord) (c : Byte) : M Bool := do
  let b ← fontFlags font c
  return b.getLsbD 6

/-- The `RasterInfo` word of a character (46_bitblt_txtblt.md R579). -/
def rasterInfo (font : LongWord) (c : Byte) : M Word := do
  let p ← readDbl (font + 8)
  memRead (p + zextByteLong c)

/-- `leftKern`, as the number of columns (46_bitblt_txtblt.md R579). -/
def leftKern (font : LongWord) (c : Byte) : M Word := do
  let w ← rasterInfo font c
  return booleanWord (w.getLsbD 15)

/-- `rightKern`, as the number of columns (46_bitblt_txtblt.md R579). -/
def rightKern (font : LongWord) (c : Byte) : M Word := do
  let w ← rasterInfo font c
  return booleanWord (w.getLsbD 14)

/-- The address of a character's raster: `rasters + rasterOffset` (46_bitblt_txtblt.md R577, R579). -/
def rasterAddress (font : LongWord) (c : Byte) : M LongWord := do
  let rasters ← readDbl font
  let w ← rasterInfo font c
  return rasters + zextLong (w &&& 0x3FFF)

/-! ### The routine -/

/-- `Bit`: a bit of the packed scan lines of a character (46_bitblt_txtblt.md R577). -/
def rasterBit (font : LongWord) (c : Byte) (k : LongWord) : M Bool := do
  let p ← rasterAddress font c
  let w ← memRead (p + k >>> 4)
  return (readField w (k.extractLsb' 0 4) 0).getLsbD 0

/-- Paint `n` pixels of a scan line. R577 makes a position at most 32767, and a position less its kern that does not underflow,
the programmer's duty, and states no result for a breach; the model refuses the pixel, as `INTEGER[c]` is refused
(46_bitblt_txtblt.md R577, 00_scope.md R27, R9, decision D4, log entry 33). -/
def paintPixels (font : LongWord) (c : Byte) (dst : BitAddress) (n : Nat) (offset : Word) (k : LongWord) : M Unit :=
  match n with
  | 0 => pure ()
  | n + 1 => do
    let bit ← rasterBit font c k
    if 32767 < offset.toNat then refuse (.txtBltPosition offset)
    let old ← readBit dst offset
    writeBit dst offset (bit || old)
    paintPixels font c dst n (offset + 1) (k + 1)

/-- Paint `n` scan lines of `width` pixels (46_bitblt_txtblt.md R577). -/
def paintLines (a : TxtBltArg) (c : Byte) (pos width : Word) (n : Nat) (dst : BitAddress) (k : LongWord) : M Unit :=
  match n with
  | 0 => pure ()
  | n + 1 => do
    paintPixels a.font c dst width.toNat pos k
    paintLines a c pos width n (dst.bump (zextLong a.dstBpl)) (k + zextLong width)

/-- `DisplayWidth` (46_bitblt_txtblt.md R577). -/
def displayWidth (font : LongWord) (c : Byte) : M Word := do
  let spacing ← spacingWidth font c
  let left ← leftKern font c
  let right ← rightKern font c
  return spacing + left + right

/-- `DisplayChar`; `pos` less the left kern is a 16-bit difference, whose underflow `paintPixels` refuses
(46_bitblt_txtblt.md R577, log entry 33). -/
def displayChar (a : TxtBltArg) (pos : Word) (c : Byte) : M Unit := do
  let width ← displayWidth a.font c
  let left ← leftKern a.font c
  let height ← memRead (a.font + 10)
  paintLines a c (pos - left) width height.toNat { word := a.dst, bit := 0 } 0

/-- `FetchChar` (46_bitblt_txtblt.md R576). -/
def fetchChar (text : LongWord) (index : Word) : M Byte := fetchByte text (zextLong index)

/-- `PushState` (46_bitblt_txtblt.md R575). -/
def txtBltPush (j : TxtBltJob) (data : Word) : M Unit := do
  push j.index
  push j.bitPos
  push j.printPos
  push j.count
  push data

/-- The positions after a character, and after its justification (46_bitblt_txtblt.md R573, R575). -/
def TxtBltJob.after (j : TxtBltJob) (a : TxtBltArg) (spacing printer : Word) (pad : Bool) : TxtBltJob :=
  let justified := pad && (a.function == 0 || a.function == 2)
  let extra := if justified then a.space + (if j.count.slt 0 then 1 else 0) else 0
  { index := j.index + 1
    bitPos := j.bitPos + spacing + extra
    printPos := j.printPos + printer
    count := if pad then j.count + 1 else j.count }

/-- One character: the arguments after it, or the result that ends the instruction, `margin` 1 or `stop` 2
(46_bitblt_txtblt.md R575). -/
def txtBltChar (a : TxtBltArg) (j : TxtBltJob) : M (TxtBltJob ⊕ Word) := do
  if a.function = 2 then memWrite (a.coord + zextLong j.index) j.bitPos
  let c ← fetchChar a.text j.index
  let stop ← stopCharacter a.font c
  if stop then return .inr 2
  else do
    let reach ← printerWidth a.font c
    if a.margin < j.printPos + reach then return .inr 1
    else do
      if a.function = 0 then displayChar a j.bitPos c
      let spacing ← spacingWidth a.font c
      let printer ← printerWidth a.font c
      let pad ← padCharacter a.font c
      return .inl (j.after a spacing printer pad)

/-- The loop of `TXTBLT`. Where `last` is 65535 and nothing else ends the loop, the routine runs for ever; after 65537
characters the model suspends it, as an interrupt would, so that it goes on in the machine's next step
(46_bitblt_txtblt.md R575, R578, log entry 24). -/
def txtBltLoop (a : TxtBltArg) (ptr : Word) (n : Nat) (j : TxtBltJob) : M Unit :=
  match n with
  | 0 => do
    txtBltPush j ptr
    suspend
  | n + 1 =>
    if a.last < j.index then txtBltPush j 0
    else do
      let outcome ← txtBltChar a j
      match outcome with
      | .inr result => txtBltPush j result
      | .inl j' => do
        let pending ← interruptPending
        if pending then do
          txtBltPush j' ptr
          suspend
        else txtBltLoop a ptr n j'

/-- `FetchTxtBltArg` and the checks (46_bitblt_txtblt.md R575, R576). -/
def txtBltSetup (ptr : Word) : M TxtBltArg := do
  if ptr &&& 15 ≠ 0 then refuse .txtBltArgument
  let words ← readRecord ptr 13 0
  let a := txtBltArgOfWords words
  if a.legal then pure a else refuse .txtBltArgument

/-- `TXTBLT` (46_bitblt_txtblt.md R575). -/
def doTxtblt : M Unit := do
  let ptr ← pop
  let count ← pop
  let printPos ← pop
  let bitPos ← pop
  let index ← pop
  minimalStack
  let a ← txtBltSetup ptr
  txtBltLoop a ptr blockBound { index := index, bitPos := bitPos, printPos := printPos, count := count }

/-- The meaning of `TXTBLT`. -/
def execTxtblt (s : State) : Answer := run doTxtblt s

end Sys2Proof.Machine
end

