-- ==== Sys2Proof/Machine/Break.lean ====
section
/-!
DEFINITION. `BRK`: the breakpoint trap, or the dispatch on the break byte (47_control_transfers.md R660).
-/
namespace Sys2Proof.Machine

/-- `Dispatch` as `BRK` calls it: the routine of an instruction, whose abort is not delivered here. A break byte that is
`BRK` itself is refused (30_encoding.md R171, 47_control_transfers.md R660, U18). -/
def dispatch (i : Instr) : M Unit :=
  match i with
  | .llb alpha => doLlb alpha
  | .lldb alpha => doLldb alpha
  | .slb alpha => doSlb alpha
  | .plb alpha => doPlb alpha
  | .pldb alpha => doPldb alpha
  | .lgb alpha => doLgb alpha
  | .lgdb alpha => doLgdb alpha
  | .sgb alpha => doSgb alpha
  | .rb alpha => doRb alpha
  | .rlb alpha => doRlb alpha
  | .rdb alpha => doRdb alpha
  | .rdlb alpha => doRdlb alpha
  | .wb alpha => doWb alpha
  | .psb alpha => doPsb alpha
  | .wlb alpha => doWlb alpha
  | .pslb alpha => doPslb alpha
  | .wdb alpha => doWdb alpha
  | .psdb alpha => doPsdb alpha
  | .wdlb alpha => doWdlb alpha
  | .psdlb alpha => doPsdlb alpha
  | .rlip left right => doRlip left right
  | .rlilp left right => doRlilp left right
  | .rldip left right => doRldip left right
  | .rldilp left right => doRldilp left right
  | .rgip left right => doRgip left right
  | .rgilp left right => doRgilp left right
  | .wlip left right => doWlip left right
  | .wlilp left right => doWlilp left right
  | .wldilp left right => doWldilp left right
  | .rs alpha => doRs alpha
  | .rls alpha => doRls alpha
  | .ws alpha => doWs alpha
  | .wls alpha => doWls alpha
  | .r0f pos size => doR0f pos size
  | .rf alpha pos size => doRf alpha pos size
  | .rl0f pos size => doRl0f pos size
  | .rlf alpha pos size => doRlf alpha pos size
  | .rlipf left right pos size => doRlipf left right pos size
  | .rlilpf left right pos size => doRlilpf left right pos size
  | .w0f pos size => doW0f pos size
  | .wf alpha pos size => doWf alpha pos size
  | .psf alpha pos size => doPsf alpha pos size
  | .ps0f pos size => doPs0f pos size
  | .ws0f pos size => doWs0f pos size
  | .wl0f pos size => doWl0f pos size
  | .wlf alpha pos size => doWlf alpha pos size
  | .pslf alpha pos size => doPslf alpha pos size
  | .sldb alpha => doSldb alpha
  | .sgdb alpha => doSgdb alpha
  | .llkb alpha => doLlkb alpha
  | .rkib alpha => doRkib alpha
  | .rkdib alpha => doRkdib alpha
  | .lkb alpha => doLkb alpha
  | .shiftsb alpha => doShiftsb alpha
  | .catchByte alpha => doCatchByte alpha
  | .jb alpha => doJb alpha
  | .jw word => doJw word
  | .jep left right => doJep left right
  | .jeb alpha => doJeb alpha
  | .jebb alpha beta => doJebb alpha beta
  | .jnep left right => doJnep left right
  | .jneb alpha => doJneb alpha
  | .jnebb alpha beta => doJnebb alpha beta
  | .jlb alpha => doJlb alpha
  | .jgeb alpha => doJgeb alpha
  | .jgb alpha => doJgb alpha
  | .jleb alpha => doJleb alpha
  | .julb alpha => doJulb alpha
  | .jugeb alpha => doJugeb alpha
  | .jugb alpha => doJugb alpha
  | .juleb alpha => doJuleb alpha
  | .jzb alpha => doJzb alpha
  | .jnzb alpha => doJnzb alpha
  | .jdeb alpha => doJdeb alpha
  | .jdneb alpha => doJdneb alpha
  | .jib word => doJib word
  | .jiw word => doJiw word
  | .addsb alpha => doAddsb alpha
  | .al0ib alpha => doAl0ib alpha
  | .lib alpha => doLib alpha
  | .liw word => doLiw word
  | .linb alpha => doLinb alpha
  | .lihb alpha => doLihb alpha
  | .lab alpha => doLab alpha
  | .law word => doLaw word
  | .gab alpha => doGab alpha
  | .gaw word => doGaw word
  | .efcb alpha => doEfcb alpha
  | .lfc word => doLfc word
  | .kfcb alpha => doKfcb alpha
  | .esc code => doEsc code
  | .escl code => doEscl code
  | .rc alpha => doRc alpha
  | .rob alpha => doRob alpha
  | .wob alpha => doWob alpha
  | .dsk alpha => doDsk alpha
  | .xe alpha => doXe alpha
  | .xf alpha => doXf alpha
  | .lsk alpha => doLsk alpha
  | .ll0 => doLl0
  | .ll1 => doLl1
  | .ll2 => doLl2
  | .ll3 => doLl3
  | .ll4 => doLl4
  | .ll5 => doLl5
  | .ll6 => doLl6
  | .ll7 => doLl7
  | .ll8 => doLl8
  | .ll9 => doLl9
  | .ll10 => doLl10
  | .ll11 => doLl11
  | .lld0 => doLld0
  | .lld1 => doLld1
  | .lld2 => doLld2
  | .lld3 => doLld3
  | .lld4 => doLld4
  | .lld5 => doLld5
  | .lld6 => doLld6
  | .lld7 => doLld7
  | .lld8 => doLld8
  | .lld10 => doLld10
  | .sl0 => doSl0
  | .sl1 => doSl1
  | .sl2 => doSl2
  | .sl3 => doSl3
  | .sl4 => doSl4
  | .sl5 => doSl5
  | .sl6 => doSl6
  | .sl7 => doSl7
  | .sl8 => doSl8
  | .sl9 => doSl9
  | .sl10 => doSl10
  | .sld0 => doSld0
  | .sld1 => doSld1
  | .sld2 => doSld2
  | .sld3 => doSld3
  | .sld4 => doSld4
  | .sld5 => doSld5
  | .sld6 => doSld6
  | .sld8 => doSld8
  | .pl0 => doPl0
  | .pl1 => doPl1
  | .pl2 => doPl2
  | .pl3 => doPl3
  | .pld0 => doPld0
  | .lg0 => doLg0
  | .lg1 => doLg1
  | .lg2 => doLg2
  | .lgd0 => doLgd0
  | .lgd2 => doLgd2
  | .bndck => doBndck
  | .brk => refuse .breakOnBreak
  | .r0 => doR0
  | .r1 => doR1
  | .rl0 => doRl0
  | .rd0 => doRd0
  | .rdl0 => doRdl0
  | .w0 => doW0
  | .psd0 => doPsd0
  | .rli00 => doRli00
  | .rli01 => doRli01
  | .rli02 => doRli02
  | .rli03 => doRli03
  | .rldi00 => doRldi00
  | .rlfs => doRlfs
  | .wlfs => doWlfs
  | .shift => doShift
  | .j2 => doJ2
  | .j3 => doJ3
  | .j4 => doJ4
  | .j5 => doJ5
  | .j6 => doJ6
  | .j7 => doJ7
  | .j8 => doJ8
  | .jz3 => doJz3
  | .jz4 => doJz4
  | .jnz3 => doJnz3
  | .jnz4 => doJnz4
  | .recover => doRecover
  | .recover2 => doRecover2
  | .dis => doDis
  | .dis2 => doDis2
  | .exch => doExch
  | .dexch => doDexch
  | .dup => doDup
  | .ddup => doDdup
  | .exdis => doExdis
  | .neg => doNeg
  | .inc => doInc
  | .dec => doDec
  | .dinc => doDinc
  | .dbl => doDbl
  | .ddbl => doDdbl
  | .trpl => doTrpl
  | .and => doAnd
  | .ior => doIor
  | .add => doAdd
  | .sub => doSub
  | .dadd => doDadd
  | .dsub => doDsub
  | .adc => doAdc
  | .acd => doAcd
  | .mul => doMul
  | .dcmp => doDcmp
  | .udcmp => doUdcmp
  | .li0 => doLi0
  | .li1 => doLi1
  | .li2 => doLi2
  | .li3 => doLi3
  | .li4 => doLi4
  | .li5 => doLi5
  | .li6 => doLi6
  | .li7 => doLi7
  | .li8 => doLi8
  | .li9 => doLi9
  | .li10 => doLi10
  | .lin1 => doLin1
  | .lini => doLini
  | .lid0 => doLid0
  | .la0 => doLa0
  | .la1 => doLa1
  | .la2 => doLa2
  | .la3 => doLa3
  | .la6 => doLa6
  | .la8 => doLa8
  | .ga0 => doGa0
  | .ga1 => doGa1
  | .efc0 => doEfc0
  | .efc1 => doEfc1
  | .efc2 => doEfc2
  | .efc3 => doEfc3
  | .efc4 => doEfc4
  | .efc5 => doEfc5
  | .efc6 => doEfc6
  | .efc7 => doEfc7
  | .efc8 => doEfc8
  | .efc9 => doEfc9
  | .efc10 => doEfc10
  | .efc11 => doEfc11
  | .efc12 => doEfc12
  | .sfc => doSfc
  | .ret => doRet
  | .me => doMe
  | .mx => doMx
  | .blt => doBlt
  | .bltl => doBltl
  | .bltc => doBltc
  | .bltcl => doBltcl
  | .lp => doLp
  | .mw => doMw
  | .mr => doMr
  | .nc => doNc
  | .bc => doBc
  | .req => doReq
  | .sm => doSm
  | .smf => doSmf
  | .gmf => doGmf
  | .af => doAf
  | .ff => doFf
  | .pi => doPi
  | .po => doPo
  | .por => doPor
  | .spp => doSpp
  | .di => doDi
  | .ei => doEi
  | .xor => doXor
  | .dand => doDand
  | .dior => doDior
  | .dxor => doDxor
  | .rotate => doRotate
  | .dshift => doDshift
  | .lint => doLint
  | .js => doJs
  | .rcfs => doRcfs
  | .udiv => doUdiv
  | .ludiv => doLudiv
  | .bndckl => doBndckl
  | .nilck => doNilck
  | .nilckl => doNilckl
  | .bltlr => doBltlr
  | .blel => doBlel
  | .blecl => doBlecl
  | .cksum => doCksum
  | .bitblt => doBitblt
  | .txtblt => doTxtblt
  | .bytblt => doBytblt
  | .bytbltr => doBytbltr
  | .version => doVersion
  | .dmul => doDmul
  | .sdiv => doSdiv
  | .sddiv => doSddiv
  | .uddiv => doUddiv
  | .fadd => doFadd
  | .fsub => doFsub
  | .fmul => doFmul
  | .fdiv => doFdiv
  | .fcomp => doFcomp
  | .fix => doFix
  | .float => doFloat
  | .fixi => doFixi
  | .fixc => doFixc
  | .fsticky => doFsticky
  | .frem => doFrem
  | .round => doRound
  | .roundi => doRoundi
  | .roundc => doRoundc
  | .fsqrt => doFsqrt
  | .fsc => doFsc
  | .reclaimref => doReclaimref
  | .altercount => doAltercount
  | .resetstkbits => doResetstkbits
  | .gcsetup => doGcsetup
  | .a144 => doA144
  | .enumeratereclaimable => doEnumeratereclaimable
  | .a146 => doA146
  | .createref => doCreateref
  | .a150 => doA150
  | .reftype => doReftype
  | .canonicalreftype => doCanonicalreftype
  | .allocquantized => doAllocquantized
  | .allocheap => doAllocheap
  | .freeobject => doFreeobject
  | .freequantized => doFreequantized
  | .freeprefixed => doFreeprefixed
  | .wrpsb => doWrpsb
  | .wrmds => doWrmds
  | .wrwp => doWrwp
  | .wrwdc => doWrwdc
  | .wrptc => doWrptc
  | .writ => doWrit
  | .wrxts => doWrxts
  | .wrmp => doWrmp
  | .rrpsb => doRrpsb
  | .rrmds => doRrmds
  | .rrwp => doRrwp
  | .rrwdc => doRrwdc
  | .rrptc => doRrptc
  | .rrit => doRrit
  | .rrxts => doRrxts
  | .input => doInput
  | .output => doOutput
  | .loadramj => doLoadramj
  | .bandblt => doBandblt

/-- What `Dispatch` does with a first byte and what follows it (30_encoding.md R171, R173, R174). The fetch of an
instruction never ends short. -/
def dispatchDecoded (d : Decoded) : M Unit :=
  match d with
  | .instr i _ => dispatch i
  | .unassigned op => raise (opcodeTrap op)
  | .reserved op => refuse (.reservedOpcode op)
  | .short => pure ()

/-- `BRK` (47_control_transfers.md R660). -/
def doBrk : M Unit := do
  let s ← getState
  if s.brk = 0 then raise breakTrap
  else do
    let d ← fetchMore 2 [s.brk]
    dispatchDecoded d
    update fun s => { s with brk := 0 }

/-- The meaning of `BRK`. -/
def execBrk (s : State) : Answer := run doBrk s

end Sys2Proof.Machine
end

