-- ==== Sys2Proof/Machine/Dispatch.lean ====
section
/-! DEFINITION. The meaning of each instruction, one arm per constructor (30_encoding.md R171). -/
namespace Sys2Proof.Machine

def exec (i : Instr) (s : State) : Host.Outcome State Fault Refusal :=
  match i with
  | .llb alpha => Sys2Proof.Machine.execLlb alpha s
  | .lldb alpha => Sys2Proof.Machine.execLldb alpha s
  | .slb alpha => Sys2Proof.Machine.execSlb alpha s
  | .plb alpha => Sys2Proof.Machine.execPlb alpha s
  | .pldb alpha => Sys2Proof.Machine.execPldb alpha s
  | .lgb alpha => Sys2Proof.Machine.execLgb alpha s
  | .lgdb alpha => Sys2Proof.Machine.execLgdb alpha s
  | .sgb alpha => Sys2Proof.Machine.execSgb alpha s
  | .rb alpha => Sys2Proof.Machine.execRb alpha s
  | .rlb alpha => Sys2Proof.Machine.execRlb alpha s
  | .rdb alpha => Sys2Proof.Machine.execRdb alpha s
  | .rdlb alpha => Sys2Proof.Machine.execRdlb alpha s
  | .wb alpha => Sys2Proof.Machine.execWb alpha s
  | .psb alpha => Sys2Proof.Machine.execPsb alpha s
  | .wlb alpha => Sys2Proof.Machine.execWlb alpha s
  | .pslb alpha => Sys2Proof.Machine.execPslb alpha s
  | .wdb alpha => Sys2Proof.Machine.execWdb alpha s
  | .psdb alpha => Sys2Proof.Machine.execPsdb alpha s
  | .wdlb alpha => Sys2Proof.Machine.execWdlb alpha s
  | .psdlb alpha => Sys2Proof.Machine.execPsdlb alpha s
  | .rlip left right => Sys2Proof.Machine.execRlip left right s
  | .rlilp left right => Sys2Proof.Machine.execRlilp left right s
  | .rldip left right => Sys2Proof.Machine.execRldip left right s
  | .rldilp left right => Sys2Proof.Machine.execRldilp left right s
  | .rgip left right => Sys2Proof.Machine.execRgip left right s
  | .rgilp left right => Sys2Proof.Machine.execRgilp left right s
  | .wlip left right => Sys2Proof.Machine.execWlip left right s
  | .wlilp left right => Sys2Proof.Machine.execWlilp left right s
  | .wldilp left right => Sys2Proof.Machine.execWldilp left right s
  | .rs alpha => Sys2Proof.Machine.execRs alpha s
  | .rls alpha => Sys2Proof.Machine.execRls alpha s
  | .ws alpha => Sys2Proof.Machine.execWs alpha s
  | .wls alpha => Sys2Proof.Machine.execWls alpha s
  | .r0f pos size => Sys2Proof.Machine.execR0f pos size s
  | .rf alpha pos size => Sys2Proof.Machine.execRf alpha pos size s
  | .rl0f pos size => Sys2Proof.Machine.execRl0f pos size s
  | .rlf alpha pos size => Sys2Proof.Machine.execRlf alpha pos size s
  | .rlipf left right pos size => Sys2Proof.Machine.execRlipf left right pos size s
  | .rlilpf left right pos size => Sys2Proof.Machine.execRlilpf left right pos size s
  | .w0f pos size => Sys2Proof.Machine.execW0f pos size s
  | .wf alpha pos size => Sys2Proof.Machine.execWf alpha pos size s
  | .psf alpha pos size => Sys2Proof.Machine.execPsf alpha pos size s
  | .ps0f pos size => Sys2Proof.Machine.execPs0f pos size s
  | .ws0f pos size => Sys2Proof.Machine.execWs0f pos size s
  | .wl0f pos size => Sys2Proof.Machine.execWl0f pos size s
  | .wlf alpha pos size => Sys2Proof.Machine.execWlf alpha pos size s
  | .pslf alpha pos size => Sys2Proof.Machine.execPslf alpha pos size s
  | .sldb alpha => Sys2Proof.Machine.execSldb alpha s
  | .sgdb alpha => Sys2Proof.Machine.execSgdb alpha s
  | .llkb alpha => Sys2Proof.Machine.execLlkb alpha s
  | .rkib alpha => Sys2Proof.Machine.execRkib alpha s
  | .rkdib alpha => Sys2Proof.Machine.execRkdib alpha s
  | .lkb alpha => Sys2Proof.Machine.execLkb alpha s
  | .shiftsb alpha => Sys2Proof.Machine.execShiftsb alpha s
  | .catchByte alpha => Sys2Proof.Machine.execCatchByte alpha s
  | .jb alpha => Sys2Proof.Machine.execJb alpha s
  | .jw word => Sys2Proof.Machine.execJw word s
  | .jep left right => Sys2Proof.Machine.execJep left right s
  | .jeb alpha => Sys2Proof.Machine.execJeb alpha s
  | .jebb alpha beta => Sys2Proof.Machine.execJebb alpha beta s
  | .jnep left right => Sys2Proof.Machine.execJnep left right s
  | .jneb alpha => Sys2Proof.Machine.execJneb alpha s
  | .jnebb alpha beta => Sys2Proof.Machine.execJnebb alpha beta s
  | .jlb alpha => Sys2Proof.Machine.execJlb alpha s
  | .jgeb alpha => Sys2Proof.Machine.execJgeb alpha s
  | .jgb alpha => Sys2Proof.Machine.execJgb alpha s
  | .jleb alpha => Sys2Proof.Machine.execJleb alpha s
  | .julb alpha => Sys2Proof.Machine.execJulb alpha s
  | .jugeb alpha => Sys2Proof.Machine.execJugeb alpha s
  | .jugb alpha => Sys2Proof.Machine.execJugb alpha s
  | .juleb alpha => Sys2Proof.Machine.execJuleb alpha s
  | .jzb alpha => Sys2Proof.Machine.execJzb alpha s
  | .jnzb alpha => Sys2Proof.Machine.execJnzb alpha s
  | .jdeb alpha => Sys2Proof.Machine.execJdeb alpha s
  | .jdneb alpha => Sys2Proof.Machine.execJdneb alpha s
  | .jib word => Sys2Proof.Machine.execJib word s
  | .jiw word => Sys2Proof.Machine.execJiw word s
  | .addsb alpha => Sys2Proof.Machine.execAddsb alpha s
  | .al0ib alpha => Sys2Proof.Machine.execAl0ib alpha s
  | .lib alpha => Sys2Proof.Machine.execLib alpha s
  | .liw word => Sys2Proof.Machine.execLiw word s
  | .linb alpha => Sys2Proof.Machine.execLinb alpha s
  | .lihb alpha => Sys2Proof.Machine.execLihb alpha s
  | .lab alpha => Sys2Proof.Machine.execLab alpha s
  | .law word => Sys2Proof.Machine.execLaw word s
  | .gab alpha => Sys2Proof.Machine.execGab alpha s
  | .gaw word => Sys2Proof.Machine.execGaw word s
  | .efcb alpha => Sys2Proof.Machine.execEfcb alpha s
  | .lfc word => Sys2Proof.Machine.execLfc word s
  | .kfcb alpha => Sys2Proof.Machine.execKfcb alpha s
  | .esc code => Sys2Proof.Machine.execEsc code s
  | .escl code => Sys2Proof.Machine.execEscl code s
  | .rc alpha => Sys2Proof.Machine.execRc alpha s
  | .rob alpha => Sys2Proof.Machine.execRob alpha s
  | .wob alpha => Sys2Proof.Machine.execWob alpha s
  | .dsk alpha => Sys2Proof.Machine.execDsk alpha s
  | .xe alpha => Sys2Proof.Machine.execXe alpha s
  | .xf alpha => Sys2Proof.Machine.execXf alpha s
  | .lsk alpha => Sys2Proof.Machine.execLsk alpha s
  | .ll0 => Sys2Proof.Machine.execLl0 s
  | .ll1 => Sys2Proof.Machine.execLl1 s
  | .ll2 => Sys2Proof.Machine.execLl2 s
  | .ll3 => Sys2Proof.Machine.execLl3 s
  | .ll4 => Sys2Proof.Machine.execLl4 s
  | .ll5 => Sys2Proof.Machine.execLl5 s
  | .ll6 => Sys2Proof.Machine.execLl6 s
  | .ll7 => Sys2Proof.Machine.execLl7 s
  | .ll8 => Sys2Proof.Machine.execLl8 s
  | .ll9 => Sys2Proof.Machine.execLl9 s
  | .ll10 => Sys2Proof.Machine.execLl10 s
  | .ll11 => Sys2Proof.Machine.execLl11 s
  | .lld0 => Sys2Proof.Machine.execLld0 s
  | .lld1 => Sys2Proof.Machine.execLld1 s
  | .lld2 => Sys2Proof.Machine.execLld2 s
  | .lld3 => Sys2Proof.Machine.execLld3 s
  | .lld4 => Sys2Proof.Machine.execLld4 s
  | .lld5 => Sys2Proof.Machine.execLld5 s
  | .lld6 => Sys2Proof.Machine.execLld6 s
  | .lld7 => Sys2Proof.Machine.execLld7 s
  | .lld8 => Sys2Proof.Machine.execLld8 s
  | .lld10 => Sys2Proof.Machine.execLld10 s
  | .sl0 => Sys2Proof.Machine.execSl0 s
  | .sl1 => Sys2Proof.Machine.execSl1 s
  | .sl2 => Sys2Proof.Machine.execSl2 s
  | .sl3 => Sys2Proof.Machine.execSl3 s
  | .sl4 => Sys2Proof.Machine.execSl4 s
  | .sl5 => Sys2Proof.Machine.execSl5 s
  | .sl6 => Sys2Proof.Machine.execSl6 s
  | .sl7 => Sys2Proof.Machine.execSl7 s
  | .sl8 => Sys2Proof.Machine.execSl8 s
  | .sl9 => Sys2Proof.Machine.execSl9 s
  | .sl10 => Sys2Proof.Machine.execSl10 s
  | .sld0 => Sys2Proof.Machine.execSld0 s
  | .sld1 => Sys2Proof.Machine.execSld1 s
  | .sld2 => Sys2Proof.Machine.execSld2 s
  | .sld3 => Sys2Proof.Machine.execSld3 s
  | .sld4 => Sys2Proof.Machine.execSld4 s
  | .sld5 => Sys2Proof.Machine.execSld5 s
  | .sld6 => Sys2Proof.Machine.execSld6 s
  | .sld8 => Sys2Proof.Machine.execSld8 s
  | .pl0 => Sys2Proof.Machine.execPl0 s
  | .pl1 => Sys2Proof.Machine.execPl1 s
  | .pl2 => Sys2Proof.Machine.execPl2 s
  | .pl3 => Sys2Proof.Machine.execPl3 s
  | .pld0 => Sys2Proof.Machine.execPld0 s
  | .lg0 => Sys2Proof.Machine.execLg0 s
  | .lg1 => Sys2Proof.Machine.execLg1 s
  | .lg2 => Sys2Proof.Machine.execLg2 s
  | .lgd0 => Sys2Proof.Machine.execLgd0 s
  | .lgd2 => Sys2Proof.Machine.execLgd2 s
  | .bndck => Sys2Proof.Machine.execBndck s
  | .brk => Sys2Proof.Machine.execBrk s
  | .r0 => Sys2Proof.Machine.execR0 s
  | .r1 => Sys2Proof.Machine.execR1 s
  | .rl0 => Sys2Proof.Machine.execRl0 s
  | .rd0 => Sys2Proof.Machine.execRd0 s
  | .rdl0 => Sys2Proof.Machine.execRdl0 s
  | .w0 => Sys2Proof.Machine.execW0 s
  | .psd0 => Sys2Proof.Machine.execPsd0 s
  | .rli00 => Sys2Proof.Machine.execRli00 s
  | .rli01 => Sys2Proof.Machine.execRli01 s
  | .rli02 => Sys2Proof.Machine.execRli02 s
  | .rli03 => Sys2Proof.Machine.execRli03 s
  | .rldi00 => Sys2Proof.Machine.execRldi00 s
  | .rlfs => Sys2Proof.Machine.execRlfs s
  | .wlfs => Sys2Proof.Machine.execWlfs s
  | .shift => Sys2Proof.Machine.execShift s
  | .j2 => Sys2Proof.Machine.execJ2 s
  | .j3 => Sys2Proof.Machine.execJ3 s
  | .j4 => Sys2Proof.Machine.execJ4 s
  | .j5 => Sys2Proof.Machine.execJ5 s
  | .j6 => Sys2Proof.Machine.execJ6 s
  | .j7 => Sys2Proof.Machine.execJ7 s
  | .j8 => Sys2Proof.Machine.execJ8 s
  | .jz3 => Sys2Proof.Machine.execJz3 s
  | .jz4 => Sys2Proof.Machine.execJz4 s
  | .jnz3 => Sys2Proof.Machine.execJnz3 s
  | .jnz4 => Sys2Proof.Machine.execJnz4 s
  | .recover => Sys2Proof.Machine.execRecover s
  | .recover2 => Sys2Proof.Machine.execRecover2 s
  | .dis => Sys2Proof.Machine.execDis s
  | .dis2 => Sys2Proof.Machine.execDis2 s
  | .exch => Sys2Proof.Machine.execExch s
  | .dexch => Sys2Proof.Machine.execDexch s
  | .dup => Sys2Proof.Machine.execDup s
  | .ddup => Sys2Proof.Machine.execDdup s
  | .exdis => Sys2Proof.Machine.execExdis s
  | .neg => Sys2Proof.Machine.execNeg s
  | .inc => Sys2Proof.Machine.execInc s
  | .dec => Sys2Proof.Machine.execDec s
  | .dinc => Sys2Proof.Machine.execDinc s
  | .dbl => Sys2Proof.Machine.execDbl s
  | .ddbl => Sys2Proof.Machine.execDdbl s
  | .trpl => Sys2Proof.Machine.execTrpl s
  | .and => Sys2Proof.Machine.execAnd s
  | .ior => Sys2Proof.Machine.execIor s
  | .add => Sys2Proof.Machine.execAdd s
  | .sub => Sys2Proof.Machine.execSub s
  | .dadd => Sys2Proof.Machine.execDadd s
  | .dsub => Sys2Proof.Machine.execDsub s
  | .adc => Sys2Proof.Machine.execAdc s
  | .acd => Sys2Proof.Machine.execAcd s
  | .mul => Sys2Proof.Machine.execMul s
  | .dcmp => Sys2Proof.Machine.execDcmp s
  | .udcmp => Sys2Proof.Machine.execUdcmp s
  | .li0 => Sys2Proof.Machine.execLi0 s
  | .li1 => Sys2Proof.Machine.execLi1 s
  | .li2 => Sys2Proof.Machine.execLi2 s
  | .li3 => Sys2Proof.Machine.execLi3 s
  | .li4 => Sys2Proof.Machine.execLi4 s
  | .li5 => Sys2Proof.Machine.execLi5 s
  | .li6 => Sys2Proof.Machine.execLi6 s
  | .li7 => Sys2Proof.Machine.execLi7 s
  | .li8 => Sys2Proof.Machine.execLi8 s
  | .li9 => Sys2Proof.Machine.execLi9 s
  | .li10 => Sys2Proof.Machine.execLi10 s
  | .lin1 => Sys2Proof.Machine.execLin1 s
  | .lini => Sys2Proof.Machine.execLini s
  | .lid0 => Sys2Proof.Machine.execLid0 s
  | .la0 => Sys2Proof.Machine.execLa0 s
  | .la1 => Sys2Proof.Machine.execLa1 s
  | .la2 => Sys2Proof.Machine.execLa2 s
  | .la3 => Sys2Proof.Machine.execLa3 s
  | .la6 => Sys2Proof.Machine.execLa6 s
  | .la8 => Sys2Proof.Machine.execLa8 s
  | .ga0 => Sys2Proof.Machine.execGa0 s
  | .ga1 => Sys2Proof.Machine.execGa1 s
  | .efc0 => Sys2Proof.Machine.execEfc0 s
  | .efc1 => Sys2Proof.Machine.execEfc1 s
  | .efc2 => Sys2Proof.Machine.execEfc2 s
  | .efc3 => Sys2Proof.Machine.execEfc3 s
  | .efc4 => Sys2Proof.Machine.execEfc4 s
  | .efc5 => Sys2Proof.Machine.execEfc5 s
  | .efc6 => Sys2Proof.Machine.execEfc6 s
  | .efc7 => Sys2Proof.Machine.execEfc7 s
  | .efc8 => Sys2Proof.Machine.execEfc8 s
  | .efc9 => Sys2Proof.Machine.execEfc9 s
  | .efc10 => Sys2Proof.Machine.execEfc10 s
  | .efc11 => Sys2Proof.Machine.execEfc11 s
  | .efc12 => Sys2Proof.Machine.execEfc12 s
  | .sfc => Sys2Proof.Machine.execSfc s
  | .ret => Sys2Proof.Machine.execRet s
  | .me => Sys2Proof.Machine.execMe s
  | .mx => Sys2Proof.Machine.execMx s
  | .blt => Sys2Proof.Machine.execBlt s
  | .bltl => Sys2Proof.Machine.execBltl s
  | .bltc => Sys2Proof.Machine.execBltc s
  | .bltcl => Sys2Proof.Machine.execBltcl s
  | .lp => Sys2Proof.Machine.execLp s
  | .mw => Sys2Proof.Machine.execMw s
  | .mr => Sys2Proof.Machine.execMr s
  | .nc => Sys2Proof.Machine.execNc s
  | .bc => Sys2Proof.Machine.execBc s
  | .req => Sys2Proof.Machine.execReq s
  | .sm => Sys2Proof.Machine.execSm s
  | .smf => Sys2Proof.Machine.execSmf s
  | .gmf => Sys2Proof.Machine.execGmf s
  | .af => Sys2Proof.Machine.execAf s
  | .ff => Sys2Proof.Machine.execFf s
  | .pi => Sys2Proof.Machine.execPi s
  | .po => Sys2Proof.Machine.execPo s
  | .por => Sys2Proof.Machine.execPor s
  | .spp => Sys2Proof.Machine.execSpp s
  | .di => Sys2Proof.Machine.execDi s
  | .ei => Sys2Proof.Machine.execEi s
  | .xor => Sys2Proof.Machine.execXor s
  | .dand => Sys2Proof.Machine.execDand s
  | .dior => Sys2Proof.Machine.execDior s
  | .dxor => Sys2Proof.Machine.execDxor s
  | .rotate => Sys2Proof.Machine.execRotate s
  | .dshift => Sys2Proof.Machine.execDshift s
  | .lint => Sys2Proof.Machine.execLint s
  | .js => Sys2Proof.Machine.execJs s
  | .rcfs => Sys2Proof.Machine.execRcfs s
  | .udiv => Sys2Proof.Machine.execUdiv s
  | .ludiv => Sys2Proof.Machine.execLudiv s
  | .bndckl => Sys2Proof.Machine.execBndckl s
  | .nilck => Sys2Proof.Machine.execNilck s
  | .nilckl => Sys2Proof.Machine.execNilckl s
  | .bltlr => Sys2Proof.Machine.execBltlr s
  | .blel => Sys2Proof.Machine.execBlel s
  | .blecl => Sys2Proof.Machine.execBlecl s
  | .cksum => Sys2Proof.Machine.execCksum s
  | .bitblt => Sys2Proof.Machine.execBitblt s
  | .txtblt => Sys2Proof.Machine.execTxtblt s
  | .bytblt => Sys2Proof.Machine.execBytblt s
  | .bytbltr => Sys2Proof.Machine.execBytbltr s
  | .version => Sys2Proof.Machine.execVersion s
  | .dmul => Sys2Proof.Machine.execDmul s
  | .sdiv => Sys2Proof.Machine.execSdiv s
  | .sddiv => Sys2Proof.Machine.execSddiv s
  | .uddiv => Sys2Proof.Machine.execUddiv s
  | .fadd => Sys2Proof.Machine.execFadd s
  | .fsub => Sys2Proof.Machine.execFsub s
  | .fmul => Sys2Proof.Machine.execFmul s
  | .fdiv => Sys2Proof.Machine.execFdiv s
  | .fcomp => Sys2Proof.Machine.execFcomp s
  | .fix => Sys2Proof.Machine.execFix s
  | .float => Sys2Proof.Machine.execFloat s
  | .fixi => Sys2Proof.Machine.execFixi s
  | .fixc => Sys2Proof.Machine.execFixc s
  | .fsticky => Sys2Proof.Machine.execFsticky s
  | .frem => Sys2Proof.Machine.execFrem s
  | .round => Sys2Proof.Machine.execRound s
  | .roundi => Sys2Proof.Machine.execRoundi s
  | .roundc => Sys2Proof.Machine.execRoundc s
  | .fsqrt => Sys2Proof.Machine.execFsqrt s
  | .fsc => Sys2Proof.Machine.execFsc s
  | .reclaimref => Sys2Proof.Machine.execReclaimref s
  | .altercount => Sys2Proof.Machine.execAltercount s
  | .resetstkbits => Sys2Proof.Machine.execResetstkbits s
  | .gcsetup => Sys2Proof.Machine.execGcsetup s
  | .a144 => Sys2Proof.Machine.execA144 s
  | .enumeratereclaimable => Sys2Proof.Machine.execEnumeratereclaimable s
  | .a146 => Sys2Proof.Machine.execA146 s
  | .createref => Sys2Proof.Machine.execCreateref s
  | .a150 => Sys2Proof.Machine.execA150 s
  | .reftype => Sys2Proof.Machine.execReftype s
  | .canonicalreftype => Sys2Proof.Machine.execCanonicalreftype s
  | .allocquantized => Sys2Proof.Machine.execAllocquantized s
  | .allocheap => Sys2Proof.Machine.execAllocheap s
  | .freeobject => Sys2Proof.Machine.execFreeobject s
  | .freequantized => Sys2Proof.Machine.execFreequantized s
  | .freeprefixed => Sys2Proof.Machine.execFreeprefixed s
  | .wrpsb => Sys2Proof.Machine.execWrpsb s
  | .wrmds => Sys2Proof.Machine.execWrmds s
  | .wrwp => Sys2Proof.Machine.execWrwp s
  | .wrwdc => Sys2Proof.Machine.execWrwdc s
  | .wrptc => Sys2Proof.Machine.execWrptc s
  | .writ => Sys2Proof.Machine.execWrit s
  | .wrxts => Sys2Proof.Machine.execWrxts s
  | .wrmp => Sys2Proof.Machine.execWrmp s
  | .rrpsb => Sys2Proof.Machine.execRrpsb s
  | .rrmds => Sys2Proof.Machine.execRrmds s
  | .rrwp => Sys2Proof.Machine.execRrwp s
  | .rrwdc => Sys2Proof.Machine.execRrwdc s
  | .rrptc => Sys2Proof.Machine.execRrptc s
  | .rrit => Sys2Proof.Machine.execRrit s
  | .rrxts => Sys2Proof.Machine.execRrxts s
  | .input => Sys2Proof.Machine.execInput s
  | .output => Sys2Proof.Machine.execOutput s
  | .loadramj => Sys2Proof.Machine.execLoadramj s
  | .bandblt => Sys2Proof.Machine.execBandblt s

end Sys2Proof.Machine
end

