-- ==== Sys2Proof/Machine/Processor.lean ====
section
/-!
DEFINITION. The parts of the `Processor` routine around `Execute`: the boot transfer, the checks of an iteration, the fetch,
and the placing of an instruction where the fetch finds it (30_encoding.md R169, R170, 70_reset_and_hazards.md R830).
-/
namespace Sys2Proof.Machine

/-- The boot transfer that ends `Initialize`, through `SD[sBoot]`; a trap or fault in it is refused
(70_reset_and_hazards.md R830, R832, R835, U25). -/
def bootTransfer : M Unit := do
  noAbort .abortInBoot (xfer 0x202 0 .call false)
  update fun s => { s with booted := true }

/-- The two checks that begin an iteration of the main loop, both made (30_encoding.md R170). -/
def checkEvents : M Bool := do
  let interrupt ← checkForInterrupts
  let timeout ← checkForTimeouts
  return interrupt || timeout

/-- The start of `Execute`: `savedPC <- PC`, `savedSP <- SP` (30_encoding.md R169). -/
def State.marked (s : State) : State := { s with savedPC := s.pc, savedSP := s.sp }

/-- `Execute` up to its dispatch: the fetch of the instruction at `PC` (30_encoding.md R169). -/
def beginExecute : M Decoded := do
  update State.marked
  fetchInstruction

/-! ### An instruction placed from outside -/

/-- Store a byte at a byte offset from `CB` as an agent other than the processor would: no flag of the map changes. A byte
of a page that is not mapped is not stored. -/
def State.placeByte (s : State) (offset : Word) (b : Byte) : State :=
  match s.translate (s.cb + zextLong (offset >>> 1)) .read with
  | .ok a => { s with mem := writeReal s.mem a (replaceByte (readReal s.mem a) (offset.getLsbD 0) b) }
  | .error _ => s

/-- Store bytes at consecutive byte offsets from `CB`. -/
def State.placeBytes (s : State) (offset : Word) (bytes : List Byte) : State :=
  match bytes with
  | [] => s
  | b :: rest => (s.placeByte offset b).placeBytes (offset + 1) rest

/-- The state in which the next iteration executes an instruction: booted, running, with interrupts and timeouts disabled if
they were enabled, and with no action of a device before the step, nor before the access to each of the bytes of the longest
instruction (log entries 7 and 10). -/
def State.ready (s : State) : State :=
  { s with booted := true, running := true, wdc := if s.wdc = 0 then 1 else s.wdc
           devices := if s.devices = [] then [] else [[], [], [], []] ++ s.devices }

end Sys2Proof.Machine
end

