-- ==== Sys2Proof/Machine/Step.lean ====
section
/-!
DEFINITION. One step: a turn of the devices, then one iteration of the main loop, or before it the boot transfer
(30_encoding.md R170, 20_memory.md R140). Further turns come before the accesses to memory within it (`mapAddress`)
and before the operations on the map.
-/
namespace Sys2Proof.Machine

/-- Execute what the fetch found (30_encoding.md R169, R171, R173, R174). The fetch of an instruction never ends short. -/
def executeDecoded (d : Decoded) (s : State) : Answer :=
  match d with
  | .instr i _ => exec i s
  | .unassigned op => deliver (opcodeTrap op) s
  | .reserved op => .refused (.reservedOpcode op)
  | .short => .next s

/-- `Execute` (30_encoding.md R169). -/
def execute (s : State) : Answer :=
  match beginExecute s with
  | .ok d s' => executeDecoded d s'
  | .error a s' => deliver a s'

/-- One iteration of the main loop (30_encoding.md R170). -/
def iterate (s : State) : Answer :=
  match checkEvents s with
  | .error a s' => deliver a s'
  | .ok event s' => if event then run (reschedule true) s' else if s'.running then execute s' else .next s'

/-- What the processor does in a step: one iteration of the main loop, or before it the boot transfer. -/
def processorStep (s : State) : Answer := if s.booted then iterate s else run bootTransfer s

/-- One step of the machine: a turn of the devices, then the processor (20_memory.md R140, decision D9, log entry 7). -/
def step (s : State) : Host.Outcome State Fault Refusal := processorStep s.afterDevices

/-- The state with an instruction of the opcode table stored where the next step fetches: its bytes, and zero bytes after
them up to the longest instruction, at `CB` and `PC` (log entries 10 and 12). -/
def State.withFetchWord (s : State) (nbits w : Nat) : State :=
  s.ready.placeBytes s.pc ((tableBytes nbits w).take 3)

end Sys2Proof.Machine
end

