-- ==== Sys2Proof/Safety.lean ====
section
/-!
DEFINITION. The terms claims are stated in: what memory holds as a program sees it, which accesses go through, the
canonical form of a state, and what a step never changes.
-/
namespace Sys2Proof.Machine

/-- The byte of real memory at a byte key. -/
def State.byteAt (s : State) (key : Nat) : Byte := tableGet unlistedByte s.mem key

/-- A load from the virtual address goes through (20_memory.md R110). -/
def State.canRead (s : State) (va : LongWord) : Bool := (s.translate va .read).isOk

/-- A store to the virtual address goes through (20_memory.md R110). -/
def State.canWrite (s : State) (va : LongWord) : Bool := (s.translate va .write).isOk

/-- The real word address of a virtual one; 0 where there is none. -/
def State.realAddress (s : State) (va : LongWord) : Nat :=
  match s.translate va .read with
  | .ok a => a
  | .error _ => 0

/-- The word a load from the virtual address gives, where it goes through. -/
def State.wordAt (s : State) (va : LongWord) : Word := readReal s.mem (s.realAddress va)

/-- The double word a load of two words gives, low word first (20_memory.md R115). -/
def State.longAt (s : State) (va : LongWord) : LongWord := mkLong (s.wordAt va) (s.wordAt (va + 1))

/-- Both words of a double word can be loaded. -/
def State.canReadLong (s : State) (va : LongWord) : Bool := s.canRead va && s.canRead (va + 1)

/-- The state after a load of a word: only the map's `referenced` flag of its page can change. -/
def State.loaded (s : State) (va : LongWord) : State := s.mark va .read

/-- The state after a load of two words. -/
def State.loadedLong (s : State) (va : LongWord) : State := (s.loaded va).loaded (va + 1)

/-- The state after a store of a word: the word, and the map's flags of its page. -/
def State.stored (s : State) (va : LongWord) (v : Word) : State :=
  { s.mark va .write with mem := writeReal s.mem (s.realAddress va) v }

/-- The virtual address of a word of the current code segment (20_memory.md R118). -/
def State.codeWord (s : State) (offset : Word) : LongWord := s.cb + zextLong offset

/-- The byte at a byte offset of the current code segment (30_encoding.md R164). -/
def State.codeByte (s : State) (offset : Word) : Byte :=
  selectByte (s.wordAt (s.codeWord (offset >>> 1))) (offset.getLsbD 0)

/-- The state after `n` code bytes are fetched from `PC` on (30_encoding.md R164). -/
def State.fetched (s : State) (n : Nat) : State :=
  match n with
  | 0 => s
  | n + 1 => State.fetched { s.loaded (s.codeWord (s.pc >>> 1)) with pc := s.pc + 1 } n

/-- A long pushed: low word first (10_state.md R56). -/
def State.pushedLong (s : State) (v : LongWord) : State := (s.pushed (lowHalf v)).pushed (highHalf v)

/-- The long whose high word is `k` below the top of the stack (10_state.md R57). -/
def State.topLong (s : State) (k : Nat) : LongWord := mkLong (s.top (k + 1)) (s.top k)

/-- `PC <- savedPC + displacement` (42_jump_instructions.md R311). -/
def State.jumped (s : State) (displacement : Word) : State := { s with pc := s.savedPC + displacement }

/-- Each of the words at the given virtual addresses can be stored to, and so loaded. -/
def State.canWriteAll (s : State) (addresses : List LongWord) : Bool := addresses.all fun va => s.canWrite va

/-- Each of the words at the given virtual addresses can be loaded. -/
def State.canReadAll (s : State) (addresses : List LongWord) : Bool := addresses.all fun va => s.canRead va

/-- The registers that no transfer, no trap and no memory access touches are the same in both states. -/
def State.sameProcess (s t : State) : Prop :=
  t.psb = s.psb ∧ t.mds = s.mds ∧ t.pid = s.pid ∧ t.mp = s.mp ∧ t.it = s.it ∧ t.wm = s.wm ∧ t.wp = s.wp ∧ t.ptc = s.ptc
    ∧ t.brk = s.brk ∧ t.savedPC = s.savedPC ∧ t.savedSP = s.savedSP ∧ t.running = s.running ∧ t.time = s.time
    ∧ t.booted = s.booted ∧ t.draw = s.draw ∧ t.devices = s.devices

/-- The word at real address `a` after stores of words at real addresses, in order. -/
def storesAt (m : List Host.Cell) (stores : List (Nat × Word)) : List Host.Cell :=
  stores.foldl (fun m p => writeReal m p.1 p.2) m

/-- The map is in its canonical form: pages rising, none listed with its unlisted entry, a vacant entry in its one form. -/
def State.mapCanonical (s : State) : Bool :=
  tableWfFrom unlistedEntry Config.vmPages 0 s.map && s.map.all (fun p => !p.2.vacant || p.2 == vacantEntry)

/-- Every mapped page has a real page that exists (20_memory.md R101, R107). -/
def State.mapBacked (s : State) : Prop :=
  ∀ vp, (s.readMap vp).vacant = false → realPageExists (s.readMap vp).real = true

/-- No two mapped pages have one real page (20_memory.md R107(a)). -/
def State.mapInjective (s : State) : Prop :=
  ∀ vp vp', (s.readMap vp).vacant = false → (s.readMap vp').vacant = false →
    (s.readMap vp).real = (s.readMap vp').real → vp = vp'

/-- The invariant of the machine: memory and map are in canonical form, the map is backed and injective, and the
read-only registers hold what they were made with (10_state.md R62, R65). -/
def State.Inv (s : State) : Prop :=
  Memory.wf s.mem = true ∧ s.mapCanonical = true ∧ s.mapBacked ∧ s.mapInjective ∧ s.pid = Config.pid
    ∧ s.wm = Config.cWM

/-- The two states give every load and store the same outcome and real address: the maps differ in the flags `dirty` and
`referenced` at most. -/
def State.sameTranslation (s t : State) : Prop := ∀ va op, s.translate va op = t.translate va op

/-! ### Transfers -/

/-- `frame` holds the context of a procedure of the global frame `gf`, with code base `cb`, to be resumed at `pc`: what the
frame arm of `XFER` reads, and its checks (47_control_transfers.md R610, R611). -/
abbrev State.hasFrame (s : State) (frame gf : Word) (cb : LongWord) (pc : Word) : Prop :=
  frame ≠ 0 ∧ frame &&& 3 = 0 ∧ gf ≠ 0 ∧ pc ≠ 0 ∧ cb.getLsbD 0 = false
    ∧ s.canReadAll [s.lengthen (frame - 2), s.lengthen (gf - 2), s.lengthen (gf - 2) + 1, s.lengthen (frame - 1)]
    ∧ s.wordAt (s.lengthen (frame - 2)) = gf ∧ s.longAt (s.lengthen (gf - 2)) = cb
    ∧ s.wordAt (s.lengthen (frame - 1)) = pc

/-- A body starts at byte `pc` of the code segment `cb`, and the free list for its frame size, whose head stands in `slot`,
holds `frame` and then `next` (47_control_transfers.md R597, R599, R610). -/
abbrev State.hasBody (s : State) (cb : LongWord) (pc slot frame next : Word) : Prop :=
  pc ≠ 0 ∧ frame &&& 3 = 0
    ∧ s.canReadAll [cb + zextLong (pc >>> 1), s.lengthen frame]
    ∧ slot = avEntry (zextByte (selectByte (s.wordAt (cb + zextLong (pc >>> 1))) (pc.getLsbD 0)))
    ∧ s.wordAt (s.lengthen slot) = frame ∧ s.wordAt (s.lengthen frame) = next
    ∧ s.canWriteAll [s.lengthen slot, s.lengthen (frame - 2), s.lengthen (frame - 3)]

/-- The global frame `gf` has the even code base `cb` (47_control_transfers.md R610, R611). -/
abbrev State.hasModule (s : State) (gf : Word) (cb : LongWord) : Prop :=
  gf ≠ 0 ∧ cb.getLsbD 0 = false ∧ s.canReadAll [s.lengthen (gf - 2), s.lengthen (gf - 2) + 1]
    ∧ s.longAt (s.lengthen (gf - 2)) = cb

/-- `frame` can be freed: its free list's head stands in `slot` and is `item` (47_control_transfers.md R600). -/
abbrev State.canFree (s : State) (frame slot item : Word) : Prop :=
  s.canRead (s.lengthen (frame - 4)) = true ∧ slot = avEntry (zextByte (rightByte (s.wordAt (s.lengthen (frame - 4)))))
    ∧ s.canWriteAll [s.lengthen slot, s.lengthen frame] ∧ s.wordAt (s.lengthen slot) = item

/-- Only the map's flags and the given words of memory, stored in order, have changed. -/
def State.memoryAfter (s t : State) (stores : List (LongWord × Word)) : Prop :=
  s.sameTranslation t ∧ t.mem = storesAt s.mem (stores.map fun p => (s.realAddress p.1, p.2))

/-- The context registers are the same. -/
def State.sameContext (s t : State) : Prop :=
  t.lf = s.lf ∧ t.gf = s.gf ∧ t.cb = s.cb ∧ t.pc = s.pc ∧ t.xts = s.xts ∧ t.wdc = s.wdc

/-- A transfer has been made: the new context, `XTS` shifted, the stored words, and nothing else but `SP` and `WDC`
(47_control_transfers.md R610, 60_exceptions.md R790). -/
def State.transferred (s t : State) (lf gf pc : Word) (cb : LongWord) (stores : List (LongWord × Word)) : Prop :=
  t.lf = lf ∧ t.gf = gf ∧ t.pc = pc ∧ t.cb = cb ∧ t.stack = s.stack ∧ t.xts = s.xts >>> 1 ∧ s.sameProcess t
    ∧ s.memoryAfter t stores

/-- A trap through the table entry can be taken to the handler's frame: `PC` can be saved, the entry is a frame link, and
the frame holds a context (60_exceptions.md R765). -/
abbrev State.trapReady (s : State) (entry frame gf : Word) (cb : LongWord) (pc : Word) : Prop :=
  8 ≤ s.savedPC.toNat ∧ s.xts.getLsbD 0 = false ∧ s.canReadAll [s.lengthen entry, s.lengthen entry + 1]
    ∧ lowHalf (s.longAt (s.lengthen entry)) = frame
    ∧ s.canWriteAll [s.lengthen (s.lf - 1), s.lengthen (frame - 3)]
    ∧ (s.stored (s.lengthen (s.lf - 1)) s.savedPC).hasFrame frame gf cb pc

/-- A trap has been taken: the trapped `PC` and `SP` are restored and the `PC` saved, the handler's context is entered with
its return link set and interrupts disabled once more, and the parameters stand in its first locals (60_exceptions.md R761,
R764 to R766). -/
def State.trapped (s t : State) (frame gf : Word) (cb : LongWord) (pc : Word) (parameters : List Word) : Prop :=
  s.transferred t frame gf pc cb
      ([(s.lengthen (s.lf - 1), s.savedPC), (s.lengthen (frame - 3), s.lf)]
        ++ (List.range parameters.length).map fun k =>
          (s.lengthen (frame + BitVec.ofNat 16 k), parameters.getD k 0))
    ∧ t.sp = s.savedSP ∧ t.wdc = s.wdc + 1

/-- The locals that receive the parameters of a trap can be stored to. -/
abbrev State.takesParameters (s : State) (frame : Word) (parameters : List Word) : Prop :=
  ∀ k, k < parameters.length → s.canWrite (s.lengthen (frame + BitVec.ofNat 16 k)) = true

/-- Where link `k` of the current module stands: before the global frame's overhead, or before the code segment
(47_control_transfers.md R630). -/
def State.linkAddress (s : State) (k : Byte) : LongWord :=
  if (s.wordAt (s.lengthen (s.gf - 3))).getLsbD 0 then s.cb - 2 * (zextByteLong k + 1)
  else s.lengthen (s.gf - 4 - 2 * (zextByte k + 1))

/-- Link `k` can be loaded. -/
abbrev State.canReadLink (s : State) (k : Byte) : Prop :=
  s.canReadAll [s.lengthen (s.gf - 3), s.linkAddress k, s.linkAddress k + 1]

/-- The state after link `k` is loaded. -/
def State.loadedLink (s : State) (k : Byte) : State :=
  (s.loaded (s.lengthen (s.gf - 3))).loadedLong (s.linkAddress k)

/-! ### Processes -/

/-- The current process runs, has a context that can be saved and no permanent state vector, and its PSB can be stored to
(48_process_instructions.md R671, R676, R677, R722). -/
abbrev State.savable (s : State) : Prop :=
  s.running = true ∧ 8 ≤ s.psb.toNat ∧ s.mds ≠ 1 ∧ 8 ≤ s.pc.toNat
    ∧ s.canWriteAll [readyQueue, psbLink s.psb, psbFlags s.psb, psbContext s.psb, psbTimeout s.psb,
        s.lengthen (s.lf - 1)]
    ∧ (s.wordAt (psbLink s.psb)).getLsbD permanentBit = false

/-- The current process can be saved and stands alone in the ready queue. -/
abbrev State.soleProcess (s : State) : Prop :=
  s.savable ∧ indexField (s.wordAt readyQueue) = s.psb ∧ indexField (s.wordAt (psbLink s.psb)) = s.psb

/-- The links of the entries of `l` make a ring in that order, and can be stored to; index 0 to 7 is no process
(48_process_instructions.md R671, R675). -/
abbrev State.ring (s : State) (l : List (BitVec 10)) : Prop :=
  l.Nodup ∧ ∀ k, k < l.length → 8 ≤ (l.getD k 0).toNat ∧ s.canWrite (psbLink (l.getD k 0)) = true
    ∧ indexField (s.wordAt (psbLink (l.getD k 0))) = l.getD ((k + 1) % l.length) 0

/-- The queue whose header stands at `que` holds the processes of `l`, head first: the header names the last, or none
(48_process_instructions.md R675, R701, R702). -/
abbrev State.holdsQueue (s : State) (que : LongWord) (l : List (BitVec 10)) : Prop :=
  s.canWrite que = true ∧ indexField (s.wordAt que) = l.getLastD 0 ∧ s.ring l

/-- The priority of a process (48_process_instructions.md R677). -/
def State.priorityOf (s : State) (psb : BitVec 10) : BitVec 3 := linkPriority (s.wordAt (psbLink psb))

/-- The process `p`, whose PSB can be stored to, is alone in the queue at `que`, and no cleanup link of its is set
(48_process_instructions.md R677, R678, R703). -/
abbrev State.aloneIn (s : State) (que : LongWord) (p : BitVec 10) : Prop :=
  8 ≤ p.toNat ∧ s.canWriteAll [que, psbLink p, psbFlags p, psbTimeout p] ∧ indexField (s.wordAt que) = p
    ∧ indexField (s.wordAt (psbLink p)) = p ∧ indexField (s.wordAt (psbFlags p)) = 0

/-- The process `p` has no state vector and, where `Reschedule` comes to it, can be started in the frame `frame` of the MDS
`mds`; `failed` is its failed bit. No global frame is 1, since a code base lies in one MDS (48_process_instructions.md R720,
R723, 20_memory.md R134). -/
abbrev State.startable (s : State) (p : BitVec 10) (failed : Bool) (mds frame gf : Word) (cb : LongWord) (pc : Word) :
    Prop :=
  s.canReadAll [psbContext p, psbMds p, stateList (s.priorityOf p)]
    ∧ (s.wordAt (psbLink p)).getLsbD permanentBit = false ∧ (s.wordAt (psbLink p)).getLsbD preemptedBit = false
    ∧ (s.wordAt (psbLink p)).getLsbD failedBit = failed ∧ s.wordAt (stateList (s.priorityOf p)) ≠ 0
    ∧ s.wordAt (psbContext p) = frame ∧ s.wordAt (psbMds p) = mds ∧ mds ≠ 1 ∧ gf ≠ 1
    ∧ State.hasFrame { s with mds := mds } frame gf cb pc

/-- The process `p` runs, in the given context. -/
def State.started (t : State) (p : BitVec 10) (mds frame gf : Word) (cb : LongWord) (pc : Word) : Prop :=
  t.psb = p ∧ t.mds = mds ∧ t.lf = frame ∧ t.gf = gf ∧ t.cb = cb ∧ t.pc = pc ∧ t.running = true

/-- The process that was the current one in `s` was preempted: `PC` is in its frame, and its stack, the two words above it, the
break byte and its frame are in the state vector at `offset`, which has left the free list of its priority (48_process_instructions.md R722, R725,
47_control_transfers.md R652); `pc` and `sp` are what was saved. -/
def State.preemptedTo (s t : State) (offset next pc : Word) (sp : Fin 15) : Prop :=
  (t.wordAt (psbLink s.psb)).getLsbD preemptedBit = true ∧ t.wordAt (psbContext s.psb) = offset
    ∧ t.wordAt (stateList (s.priorityOf s.psb)) = next ∧ t.wordAt (s.lengthen (s.lf - 1)) = pc
    ∧ (∀ k, k < min (sp.val + 2) 14 → t.wordAt (pdaAddress (offset + BitVec.ofNat 16 k)) = s.slot k)
    ∧ t.wordAt (pdaAddress (offset + 14)) = bytePair s.brk (BitVec.ofNat 8 sp.val)
    ∧ t.wordAt (pdaAddress (offset + 15)) = s.lf

/-- A state vector at `offset`, beyond the PSBs, heads the free list of the current process's priority, and its first `n` words
can be stored to; `next` is the next one (48_process_instructions.md R671, R724, R725). -/
abbrev State.hasStateVector (s : State) (offset next : Word) (n : Nat) : Prop :=
  s.canWrite (stateList (s.priorityOf s.psb)) = true ∧ s.wordAt (stateList (s.priorityOf s.psb)) = offset
    ∧ 0x2000 ≤ offset.toNat ∧ offset.toNat ≤ 0xFFEE
    ∧ (∀ k : Nat, k < n → s.canWrite (pdaAddress (offset + BitVec.ofNat 16 k)) = true)
    ∧ s.wordAt (pdaAddress offset) = next

/-- No process waits on the interrupt condition of a level, but for the level `except` (60_exceptions.md R803). -/
abbrev State.noWaiter (s : State) (except : Nat) : Prop :=
  ∀ level, level < 16 → s.canWrite (interruptCondition level) = true
    ∧ (level ≠ except → indexField (s.wordAt (interruptCondition level)) = 0)

/-- A queue, lock or condition outside the Process Data Area and the current MDS, that can be stored to. -/
abbrev State.outside (s : State) (va : LongWord) : Prop :=
  s.canWrite va = true ∧ highHalf va ≠ 1 ∧ highHalf va ≠ s.mds

/-- The current process, alone before, has left the ready queue for the empty queue at `va`, its context is saved, and the
machine runs no process (48_process_instructions.md R700, R720, R722). -/
def State.parked (s t : State) (va : LongWord) : Prop :=
  t.running = false ∧ indexField (t.wordAt readyQueue) = 0 ∧ indexField (t.wordAt va) = s.psb
    ∧ indexField (t.wordAt (psbLink s.psb)) = s.psb ∧ t.wordAt (psbContext s.psb) = s.lf
    ∧ t.wordAt (s.lengthen (s.lf - 1)) = s.pc ∧ t.psb = s.psb

/-- A byte at a byte offset from a long pointer (44_assign_string_field.md R471). -/
def State.byteOf (s : State) (ptr offset : LongWord) : Byte :=
  selectByte (s.wordAt (ptr + offset >>> 1)) (offset.getLsbD 0)

end Sys2Proof.Machine
end

