-- ==== Sys2Proof/Certificates/Slice0/Obligations.lean ====
section
/-!
DEFINITION. The statements for the provers, from the numbered rules of spec/: decoding, the step, the invariant, and what each
instruction does, with where it completes.
-/

open Sys2Proof Sys2Proof.Machine

/-- Decoding gives back what was encoded, whatever bytes follow: no bit of an encoding is dropped (30_encoding.md R161, R171,
R178, R179). -/
def Obligations.EncodeThenDecode : Prop :=
  ∀ (i : Instr) (rest : List Byte), i.encodable = true → decode (encode i ++ rest) = .instr i rest

/-- Encoding gives back what was decoded: each word has one meaning, and only encodable instructions are decoded
(30_encoding.md R161, R171). -/
def Obligations.DecodeThenEncode : Prop :=
  ∀ (bytes rest : List Byte) (i : Instr),
    decode bytes = .instr i rest → encode i ++ rest = bytes ∧ i.encodable = true

/-- A few words written out from the tables decode to the instruction they stand for (42_jump_instructions.md R326,
44_assign_string_field.md R483). The byte values are the MODEL's choice, log entry 15: 30_encoding.md R178 and R179 mark them
as general knowledge that is not in the source (decision D1). -/
def Obligations.DecodesSampleWords : Prop :=
  decode [0x8C, 0x41, 0xF0] = .instr (.jebb 0x41 0xF0) [] ∧ decode [0x64, 0x02, 0x43] = .instr (.rf 2 4 3) []
    ∧ decode [0xF8, 0x1C] = .instr .udiv [] ∧ decode [0xF9, 0x1E, 0x02] = .instr (.rob 2) []
    ∧ decode [0xCE, 0x12, 0x34] = .instr (.liw 0x1234) [] ∧ decode [0x55, 0x23] = .instr (.rlip 2 3) []

/-- A step runs the decoded instruction: where the code bytes at `PC` are the encoding of `i`, `Execute` is `exec i` in the
state where `savedPC` and `savedSP` hold the old `PC` and `SP` and the bytes of `i` have been fetched; and with interrupts
disabled a step of a running machine is that, once the devices have acted. No device acts between the fetches of the bytes; the
turns of the devices after them are those of the instruction (30_encoding.md R164, R169, R170, R171, log entry 7). -/
def Obligations.StepRunsDecodedInstruction : Prop :=
  ∀ (r s : State) (i : Instr), s.mapCanonical = true → i.encodable = true →
    (List.range (encode i).length).map (fun k => s.codeByte (s.pc + BitVec.ofNat 16 k)) = encode i →
    (∀ k, k < (encode i).length → s.canRead (s.codeWord ((s.pc + BitVec.ofNat 16 k) >>> 1)) = true) →
    (∀ turn ∈ s.devices.take (encode i).length, turn = []) →
    ∀ t, t = { s.marked.fetched (encode i).length with devices := s.devices.drop (encode i).length } →
    execute s = exec i t
    ∧ (r.afterDevices = s → s.booted = true → s.running = true → s.wdc ≠ 0 → step r = exec i t)

/-- A first byte assigned to no instruction raises `OpcodeTrap` with that byte, and the reserved first bytes 0 and 255 are
refused, where no device acts before the fetch of the byte (30_encoding.md R173, R174; the refusal is the model's treatment of
U1, log entry 17). -/
def Obligations.StepTrapsUnassignedOpcode : Prop :=
  ∀ r s : State, r.afterDevices = s → s.booted = true → s.running = true → s.wdc ≠ 0 →
    s.canRead (s.codeWord (s.pc >>> 1)) = true → (∀ turn ∈ s.devices.take 1, turn = []) →
    (decode [s.codeByte s.pc] = .unassigned (s.codeByte s.pc) →
      step r = deliver (opcodeTrap (s.codeByte s.pc)) { s.marked.fetched 1 with devices := s.devices.tail })
    ∧ (s.codeByte s.pc = 0 ∨ s.codeByte s.pc = 0xFF →
      step r = .refused (.reservedOpcode (s.codeByte s.pc)))

/-- The events of the main loop (60_exceptions.md R802 to R804, R812, 30_encoding.md R170, 48_process_instructions.md R697,
R701, R702, R720). With interrupts disabled the checks find nothing, and `Reschedule` stops the processor only with interrupts
enabled. With interrupts enabled: where no process waits on an interrupt condition and no tick is due, the wakeups that `WP`
holds go into the `wakeup` bits of the conditions, and a step then executes an instruction, or, where no process runs, does no
more than poll; a wakeup starts the process that waits for it, on an idle machine or in place of a running process of lower
priority, which is preempted; and a tick starts the process whose timeout it is, with its cleanup link set. What `WP` and `IT`
hold when they are sampled is free (log entries 5 and 6). Where interrupts are enabled it is stated for a step within which no
device acts (decision D9, log entry 7). -/
def Obligations.DisabledEventsAndIdleLoop : Prop :=
  (∀ s : State, s.wdc ≠ 0 → checkEvents s = .ok false s)
  ∧ (∀ (preemption : Bool) (s t : State), reschedule preemption s = .ok () t → t.running = true ∨ t.wdc = 0)
  ∧ ∀ (r s : State) (now : LongWord), r.afterDevices = s → s.devices = [] → s.Inv → s.booted = true → s.wdc = 0 →
    now = s.it + Config.pulses (s.draw + 1) →
    (s.noWaiter 16 → (now - s.time).toNat < Config.timeOutInterval →
      ∃ t, checkEvents s = .ok false t ∧ step r = (if s.running then execute t else .next t)
        ∧ t.wp = 0 ∧ t.it = now ∧ s.sameProcess { t with wp := s.wp, it := s.it, draw := s.draw } ∧ s.sameContext t
        ∧ t.stack = s.stack ∧ t.sp = s.sp ∧ s.sameTranslation t
        ∧ (∀ level, level < 16 → t.wordAt (interruptCondition level) =
            if (s.wp ||| Config.wakeups s.draw).getLsbD (15 - level) then
              withBit (s.wordAt (interruptCondition level)) wakeupBit true
            else s.wordAt (interruptCondition level))
        ∧ ∀ key, (∀ level, level < 16 → key / 2 ≠ s.realAddress (interruptCondition level)) →
            t.byteAt key = s.byteAt key)
    ∧ ∀ (p : BitVec 10) (mds frame gf : Word) (cb : LongWord) (pc : Word), s.xts.getLsbD 0 = false →
      (∀ level c, level < 16 → c = interruptCondition level → s.wp.getLsbD (15 - level) = true → s.noWaiter level →
        s.aloneIn c p → (now - s.time).toNat < Config.timeOutInterval →
        (s.running = false → s.canWrite readyQueue = true → indexField (s.wordAt readyQueue) = 0 →
          s.startable p false mds frame gf cb pc →
          ∃ t, step r = .next t ∧ t.started p mds frame gf cb pc ∧ t.wp = 0 ∧ t.sp = s.sp ∧ t.stack = s.stack
            ∧ t.holdsQueue readyQueue [p] ∧ indexField (t.wordAt c) = 0 ∧ t.wordAt (psbTimeout p) = 0
            ∧ (t.wordAt (psbFlags p)).getLsbD waitingBit = false)
        ∧ (∀ offset next, s.soleProcess → p ≠ s.psb → s.priorityOf s.psb < s.priorityOf p →
          s.hasStateVector offset next 16 →
          (s.stored (s.lengthen (s.lf - 1)) s.pc).startable p false mds frame gf cb pc →
          ∃ t, step r = .next t ∧ t.started p mds frame gf cb pc ∧ s.preemptedTo t offset next s.pc s.sp ∧ t.wp = 0
            ∧ t.sp = 0 ∧ t.brk = 0 ∧ t.holdsQueue readyQueue [p, s.psb] ∧ indexField (t.wordAt c) = 0
            ∧ t.wordAt (psbTimeout p) = 0 ∧ (t.wordAt (psbFlags p)).getLsbD waitingBit = false))
      ∧ (∀ (count ptc : Word), s.noWaiter 16 → Config.timeOutInterval ≤ (now - s.time).toNat →
        ptc = (if s.ptc + 1 = 0 then 1 else s.ptc + 1) → s.canRead pdaCount = true → count = s.wordAt pdaCount →
        8 + count.toNat ≤ 1024 → 8 ≤ p.toNat → p.toNat < 8 + count.toNat → s.wordAt (psbTimeout p) = ptc →
        (∀ q : BitVec 10, 8 ≤ q.toNat → q.toNat < 8 + count.toNat →
          s.canRead (psbTimeout q) = true ∧ (q ≠ p → s.wordAt (psbTimeout q) ≠ ptc)) →
        s.running = false → s.canWriteAll [readyQueue, psbLink p, psbFlags p, psbTimeout p] →
        indexField (s.wordAt readyQueue) = 0 → indexField (s.wordAt (psbLink p)) = p →
        s.startable p false mds frame gf cb pc →
        ∃ t, step r = .next t ∧ t.started p mds frame gf cb pc ∧ t.ptc = ptc ∧ t.time = now ∧ t.wp = 0 ∧ t.sp = s.sp
          ∧ t.stack = s.stack ∧ t.holdsQueue readyQueue [p] ∧ indexField (t.wordAt (psbFlags p)) = p
          ∧ (t.wordAt (psbFlags p)).getLsbD waitingBit = false ∧ t.wordAt (psbTimeout p) = 0)

/-- Every step keeps the invariant: memory and map stay in canonical form, every mapped page has real memory and its own real
page, and the read-only registers keep their contents (20_memory.md R101, R107, 10_state.md R62, R65). -/
def Obligations.StepKeepsInvariant : Prop :=
  ∀ s t : State, s.Inv → step s = .next t → t.Inv

/-- The state after reset meets the invariant. This rests on the MODEL's choices of what reset holds: the map (log entry 4),
the empty memory (log entry 9) and the constants `PID` and `WM` (log entry 2); 70_reset_and_hazards.md R833 makes the map an
input. -/
def Obligations.InvariantAtReset : Prop := State.reset.Inv

/-- What `Initialize` assigns before its transfer (70_reset_and_hazards.md R830); `PTC` is decision D7, log entry 3, and the
registers `Initialize` does not set are log entry 1. -/
def Obligations.ResetValues : Prop :=
  State.reset.wp = 0 ∧ State.reset.wdc = 1 ∧ State.reset.xts = 0 ∧ State.reset.time = State.reset.it
    ∧ State.reset.running = true ∧ State.reset.sp = 0 ∧ State.reset.brk = 0 ∧ State.reset.psb = 0
    ∧ State.reset.mds = 0 ∧ State.reset.ptc = 0 ∧ State.reset.lf = 0 ∧ State.reset.booted = false

/-- A store changes one word as a program sees memory: the word at its own virtual address becomes the value, and the word
at every other mapped virtual address, and every byte of real memory but its two, is as before. The same holds of a word that
a device writes, which changes no register; a device's read changes no word. Each access of the processor is made in the state
that a turn of the devices leaves, so a device can act between two accesses of one instruction: a double word whose second word
a device writes between the two reads is read as the old first word and the new second one, and what a device writes to a word
between the read and the write of a byte store is lost (20_memory.md R107, R109, R110, R113 to R115, R140, R142, decision D9,
44_assign_string_field.md R476; turns as an input, and whether a device's access sets the map's flags, are log entry 7). -/
def Obligations.StoreChangesOneVirtualWord : Prop :=
  ∀ (r s : State) (va va' : LongWord) (v : Word) (flags : Bool), r.afterDevices = s → s.Inv → s.canWrite va = true →
    s.canRead va' = true →
    memRead va' r = .ok (s.wordAt va') (s.loaded va')
    ∧ (∃ t, memWrite va v r = .ok () t ∧ t.wordAt va = v ∧ (va' ≠ va → t.wordAt va' = s.wordAt va')
      ∧ (∀ key, key ≠ 2 * s.realAddress va → key ≠ 2 * s.realAddress va + 1 → t.byteAt key = s.byteAt key))
    ∧ (∀ t, t = s.perform (.write va v flags) →
      t.wordAt va = v ∧ (va' ≠ va → t.wordAt va' = s.wordAt va') ∧ s.sameTranslation t ∧ s.sameContext t ∧ s.sameProcess t
        ∧ t.stack = s.stack ∧ t.sp = s.sp
        ∧ (∀ key, key ≠ 2 * s.realAddress va → key ≠ 2 * s.realAddress va + 1 → t.byteAt key = s.byteAt key))
    ∧ (s.perform (.read va flags)).mem = s.mem ∧ s.sameTranslation (s.perform (.read va flags))
    ∧ ∀ rest, s.devices = [.write va v flags] :: rest →
      (va = va' + 1 → ∃ t, readDbl va' r = .ok (mkLong (s.wordAt va') v) t ∧ t.devices = rest)
      ∧ ∀ (ptr offset : LongWord) (b : Byte), va = ptr + offset >>> 1 →
        ∃ t, storeByte ptr offset b r = .ok () t ∧ t.devices = rest
          ∧ t.wordAt va = replaceByte (s.wordAt va) (offset.getLsbD 0) b

/-- The faults of an access, with nothing changed but by the turn of the devices before it: a vacant page gives a page fault,
and a store to a protected page that is not vacant a write-protect fault, each with the virtual address; otherwise, where the
real page exists, the access goes through and sets the flags, and where it does not the access is refused (20_memory.md R110,
60_exceptions.md R796, R797; the refusal is the MODEL's treatment of U8, log entry 23). -/
def Obligations.AccessFaults : Prop :=
  ∀ (r s : State) (va : LongWord) (v : Word), r.afterDevices = s →
    ((s.readMap (pageOf va)).vacant = true →
      memRead va r = .error (.faultTwo .pageFault va) s ∧ memWrite va v r = .error (.faultTwo .pageFault va) s)
    ∧ ((s.readMap (pageOf va)).vacant = false → (s.readMap (pageOf va)).writeProtect = true →
      memWrite va v r = .error (.faultTwo .writeProtectFault va) s)
    ∧ ((s.readMap (pageOf va)).vacant = false → realPageExists (s.readMap (pageOf va)).real = true →
      memRead va r = .ok (s.wordAt va) (s.loaded va)
      ∧ ((s.readMap (pageOf va)).writeProtect = false → memWrite va v r = .ok () (s.stored va v)))
    ∧ ((s.readMap (pageOf va)).vacant = false → realPageExists (s.readMap (pageOf va)).real = false →
      memRead va r = .error (.refuse (.realPageAbsent ((s.readMap (pageOf va)).real.setWidth 32))) s)
    ∧ (s.mapCanonical = true →
      ((s.loaded va).readMap (pageOf va)).referenced = true
      ∧ ((s.stored va v).readMap (pageOf va)).referenced = true ∧ ((s.stored va v).readMap (pageOf va)).dirty = true)

/-- The immediate and address instructions push one word, or, for `LID0`, two, and change nothing else, or find the stack
full; the immediate operand is the instruction's second byte, or its second and third (43_assign_immediate_frame_pointer.md
R362 to R369, R378 to R380, R399 to R401). Two points are the MODEL's choice: that the stack error is delivered in the
instruction itself, at the push that makes it, where 10_state.md R55 lets the report come later (decision D5, log entry 18),
and the first bytes of the four decode clauses (decision D1, log entry 15). -/
def Obligations.ImmediatesAndAddressesPush : Prop :=
  ∀ (alpha beta : Byte) (word : Word) (s : State),
    (∀ p ∈ ([(.lin1, 0xFFFF), (.lini, 0x8000), (.li0, 0), (.li1, 1), (.li2, 2), (.li3, 3), (.li4, 4), (.li5, 5),
        (.li6, 6), (.li7, 7), (.li8, 8), (.li9, 9), (.li10, 10), (.lib alpha, zextByte alpha),
        (.linb alpha, 0xFF00 + zextByte alpha), (.lihb alpha, zextByte alpha * 256), (.liw word, word),
        (.la0, s.lf), (.la1, s.lf + 1), (.la2, s.lf + 2), (.la3, s.lf + 3), (.la6, s.lf + 6), (.la8, s.lf + 8),
        (.lab alpha, s.lf + zextByte alpha), (.law word, s.lf + word), (.ga0, s.gf), (.ga1, s.gf + 1),
        (.gab alpha, s.gf + zextByte alpha), (.gaw word, s.gf + word)] : List (Instr × Word)),
      (s.sp.val < 14 → exec p.1 s = .next (s.pushed p.2)) ∧ (s.sp.val = 14 → exec p.1 s = deliver stackError s))
    ∧ (s.sp.val < 13 → exec .lid0 s = .next (s.pushedLong 0))
    ∧ (s.sp.val = 13 → exec .lid0 s = deliver stackError (s.pushed 0))
    ∧ (s.sp.val = 14 → exec .lid0 s = deliver stackError s)
    ∧ decode [0xCD, alpha] = .instr (.lib alpha) [] ∧ decode [0xCF, alpha] = .instr (.linb alpha) []
    ∧ decode [0xD0, alpha] = .instr (.lihb alpha) [] ∧ decode [0xCE, alpha, beta] = .instr (.liw (alpha ++ beta)) []

/-- A load of a frame variable pushes the word at its address and changes nothing else but the `referenced` flag of its page; a
load that cannot be made faults. The devices have their turn before the access (43_assign_immediate_frame_pointer.md R384,
R385, R402, R403). Two points are the MODEL's choice: on a full stack the fault comes before the stack error, an order R361
leaves undefined (decision D13, log entry 18), and a real page that does not exist is refused (U8, log entry 23). -/
def Obligations.FrameLoads : Prop :=
  ∀ (alpha : Byte) (r s : State), r.afterDevices = s →
    ∀ p ∈ ([(.ll0, s.lf), (.ll1, s.lf + 1), (.ll2, s.lf + 2), (.ll3, s.lf + 3), (.ll4, s.lf + 4), (.ll5, s.lf + 5),
        (.ll6, s.lf + 6), (.ll7, s.lf + 7), (.ll8, s.lf + 8), (.ll9, s.lf + 9), (.ll10, s.lf + 10),
        (.ll11, s.lf + 11), (.llb alpha, s.lf + zextByte alpha), (.lg0, s.gf), (.lg1, s.gf + 1), (.lg2, s.gf + 2),
        (.lgb alpha, s.gf + zextByte alpha)] : List (Instr × Word)),
      (s.canRead (s.lengthen p.2) = true → s.sp.val < 14 →
        exec p.1 r = .next ((s.loaded (s.lengthen p.2)).pushed (s.wordAt (s.lengthen p.2))))
      ∧ (s.canRead (s.lengthen p.2) = true → s.sp.val = 14 →
        exec p.1 r = deliver stackError (s.loaded (s.lengthen p.2)))
      ∧ (∀ e, s.translate (s.lengthen p.2) .read = .error e → exec p.1 r = deliver e s)

/-- A double load of a frame variable pushes the low word, then the high word at the next address
(43_assign_immediate_frame_pointer.md R386, R387, R404, R405). It is stated where no device acts meanwhile (decision D9, log
entry 7). -/
def Obligations.FrameDoubleLoads : Prop :=
  ∀ (alpha : Byte) (s : State), s.devices = [] → s.mapCanonical = true → s.sp.val < 13 →
    ∀ p ∈ ([(.lld0, s.lf), (.lld1, s.lf + 1), (.lld2, s.lf + 2), (.lld3, s.lf + 3), (.lld4, s.lf + 4),
        (.lld5, s.lf + 5), (.lld6, s.lf + 6), (.lld7, s.lf + 7), (.lld8, s.lf + 8), (.lld10, s.lf + 10),
        (.lldb alpha, s.lf + zextByte alpha), (.lgd0, s.gf), (.lgd2, s.gf + 2),
        (.lgdb alpha, s.gf + zextByte alpha)] : List (Instr × Word)),
      s.canRead (s.lengthen p.2) = true → s.canRead (s.lengthen (p.2 + 1)) = true →
        exec p.1 s = .next ((((s.loaded (s.lengthen p.2)).pushed (s.wordAt (s.lengthen p.2))).loaded
          (s.lengthen (p.2 + 1))).pushed (s.wordAt (s.lengthen (p.2 + 1))))

/-- A store to a frame variable stores the popped word there and nowhere else; a put leaves it on the stack. The devices have
their turn before the access (43_assign_immediate_frame_pointer.md R388, R389, R393, R394, R406). That a store from an empty
stack has translated its address, and set the page's flags, before the stack error is the MODEL's choice of an order R361
leaves undefined (decisions D13 and D5, log entry 18). -/
def Obligations.FrameStores : Prop :=
  ∀ (alpha : Byte) (r s : State), r.afterDevices = s →
    (∀ p ∈ ([(.sl0, s.lf), (.sl1, s.lf + 1), (.sl2, s.lf + 2), (.sl3, s.lf + 3), (.sl4, s.lf + 4), (.sl5, s.lf + 5),
        (.sl6, s.lf + 6), (.sl7, s.lf + 7), (.sl8, s.lf + 8), (.sl9, s.lf + 9), (.sl10, s.lf + 10),
        (.slb alpha, s.lf + zextByte alpha), (.sgb alpha, s.gf + zextByte alpha)] : List (Instr × Word)),
      s.canWrite (s.lengthen p.2) = true →
        (0 < s.sp.val → exec p.1 r = .next ((s.stored (s.lengthen p.2) (s.top 0)).dropped 1))
        ∧ (s.sp.val = 0 → exec p.1 r = deliver stackError (s.mark (s.lengthen p.2) .write)))
    ∧ (∀ p ∈ ([(.pl0, s.lf), (.pl1, s.lf + 1), (.pl2, s.lf + 2), (.pl3, s.lf + 3),
        (.plb alpha, s.lf + zextByte alpha)] : List (Instr × Word)),
      s.canWrite (s.lengthen p.2) = true → 0 < s.sp.val →
        exec p.1 r = .next (s.stored (s.lengthen p.2) (s.top 0)))

/-- A double store writes the high word, which is on top, at the higher address first, then the low word
(43_assign_immediate_frame_pointer.md R390 to R392, R395, R396, R407). It is stated where no device acts meanwhile (decision
D9, log entry 7). -/
def Obligations.FrameDoubleStores : Prop :=
  ∀ (alpha : Byte) (s : State), s.devices = [] → s.mapCanonical = true → 2 ≤ s.sp.val →
    (∀ p ∈ ([(.sld0, s.lf), (.sld1, s.lf + 1), (.sld2, s.lf + 2), (.sld3, s.lf + 3), (.sld4, s.lf + 4),
        (.sld5, s.lf + 5), (.sld6, s.lf + 6), (.sld8, s.lf + 8), (.sldb alpha, s.lf + zextByte alpha),
        (.sgdb alpha, s.gf + zextByte alpha)] : List (Instr × Word)),
      s.canWrite (s.lengthen p.2) = true → s.canWrite (s.lengthen (p.2 + 1)) = true →
        exec p.1 s = .next (((s.stored (s.lengthen (p.2 + 1)) (s.top 0)).stored (s.lengthen p.2) (s.top 1)).dropped 2))
    ∧ (∀ p ∈ ([(.pld0, s.lf), (.pldb alpha, s.lf + zextByte alpha)] : List (Instr × Word)),
      s.canWrite (s.lengthen p.2) = true → s.canWrite (s.lengthen (p.2 + 1)) = true →
        exec p.1 s = .next ((s.stored (s.lengthen (p.2 + 1)) (s.top 0)).stored (s.lengthen p.2) (s.top 1)))

/-- A read through a pointer on the stack replaces the pointer by the word it points to: short pointers wrap within the MDS,
long ones are 32-bit, a code offset is relative to `CB`; `AL0IB` adds a constant to local zero
(43_assign_immediate_frame_pointer.md R360, R397, R410 to R413, R431). They are stated where no device acts before the access
(decision D9, log entry 7). -/
def Obligations.PointerLoads : Prop :=
  ∀ (alpha : Byte) (s : State), s.devices = [] →
    (∀ p ∈ ([(.r0, s.lengthen (s.top 0)), (.r1, s.lengthen (s.top 0 + 1)),
        (.rb alpha, s.lengthen (s.top 0 + zextByte alpha)),
        (.rc alpha, s.codeWord (s.top 0 + zextByte alpha))] : List (Instr × LongWord)),
      s.canRead p.2 = true → 0 < s.sp.val →
        exec p.1 s = .next (((s.dropped 1).loaded p.2).pushed (s.wordAt p.2)))
    ∧ (∀ p ∈ ([(.rl0, s.topLong 0), (.rlb alpha, s.topLong 0 + zextByteLong alpha)] : List (Instr × LongWord)),
      s.canRead p.2 = true → 2 ≤ s.sp.val →
        exec p.1 s = .next (((s.dropped 2).loaded p.2).pushed (s.wordAt p.2)))
    ∧ (s.canRead (s.lengthen s.lf) = true → s.sp.val < 14 →
      exec (.al0ib alpha) s =
        .next ((s.loaded (s.lengthen s.lf)).pushed (s.wordAt (s.lengthen s.lf) + zextByte alpha)))

/-- A double read through a pointer on the stack makes both reads, then both pushes (43_assign_immediate_frame_pointer.md R414
to R417). It is stated where no device acts meanwhile (decision D9, log entry 7). -/
def Obligations.PointerDoubleLoads : Prop :=
  ∀ (alpha : Byte) (s : State), s.devices = [] → s.mapCanonical = true →
    (∀ p ∈ ([(.rd0, s.top 0), (.rdb alpha, s.top 0 + zextByte alpha)] : List (Instr × Word)),
      s.canRead (s.lengthen p.2) = true → s.canRead (s.lengthen (p.2 + 1)) = true → 0 < s.sp.val → s.sp.val < 14 →
        exec p.1 s = .next (((((s.dropped 1).loaded (s.lengthen p.2)).loaded (s.lengthen (p.2 + 1))).pushed
          (s.wordAt (s.lengthen p.2))).pushed (s.wordAt (s.lengthen (p.2 + 1)))))
    ∧ (∀ p ∈ ([(.rdl0, s.topLong 0), (.rdlb alpha, s.topLong 0 + zextByteLong alpha)] : List (Instr × LongWord)),
      s.canRead p.2 = true → s.canRead (p.2 + 1) = true → 2 ≤ s.sp.val →
        exec p.1 s = .next (((((s.dropped 2).loaded p.2).loaded (p.2 + 1)).pushed (s.wordAt p.2)).pushed
          (s.wordAt (p.2 + 1))))

/-- A write through a pointer on the stack stores the word beneath the pointer; a put swapped stores the word above it and
leaves the pointer (43_assign_immediate_frame_pointer.md R420 to R422, R425, R426, R429). They are stated where no device acts
before the access (decision D9, log entry 7). -/
def Obligations.PointerStores : Prop :=
  ∀ (alpha : Byte) (s : State), s.devices = [] →
    (∀ p ∈ ([(.w0, s.top 0), (.wb alpha, s.top 0 + zextByte alpha)] : List (Instr × Word)),
      s.canWrite (s.lengthen p.2) = true → 2 ≤ s.sp.val →
        exec p.1 s = .next ((s.stored (s.lengthen p.2) (s.top 1)).dropped 2))
    ∧ (s.canWrite (s.topLong 0 + zextByteLong alpha) = true → 3 ≤ s.sp.val →
      exec (.wlb alpha) s = .next ((s.stored (s.topLong 0 + zextByteLong alpha) (s.top 2)).dropped 3))
    ∧ (s.canWrite (s.lengthen (s.top 1 + zextByte alpha)) = true → 2 ≤ s.sp.val →
      exec (.psb alpha) s = .next ((s.stored (s.lengthen (s.top 1 + zextByte alpha)) (s.top 0)).dropped 1))
    ∧ (s.canWrite (s.topLong 1 + zextByteLong alpha) = true → 3 ≤ s.sp.val →
      exec (.pslb alpha) s = .next ((s.stored (s.topLong 1 + zextByteLong alpha) (s.top 0)).dropped 1))

/-- The double writes and the double puts swapped (43_assign_immediate_frame_pointer.md R392, R423, R424, R427, R428, R430). It
is stated where no device acts meanwhile (decision D9, log entry 7). -/
def Obligations.PointerDoubleStores : Prop :=
  ∀ (alpha : Byte) (s : State), s.devices = [] → s.mapCanonical = true →
    (s.canWriteAll [s.lengthen (s.top 0 + zextByte alpha), s.lengthen (s.top 0 + zextByte alpha + 1)] →
      3 ≤ s.sp.val →
      exec (.wdb alpha) s = .next (((s.stored (s.lengthen (s.top 0 + zextByte alpha + 1)) (s.top 1)).stored
        (s.lengthen (s.top 0 + zextByte alpha)) (s.top 2)).dropped 3))
    ∧ (s.canWriteAll [s.topLong 0 + zextByteLong alpha, s.topLong 0 + zextByteLong alpha + 1] → 4 ≤ s.sp.val →
      exec (.wdlb alpha) s = .next (((s.stored (s.topLong 0 + zextByteLong alpha + 1) (s.top 2)).stored
        (s.topLong 0 + zextByteLong alpha) (s.top 3)).dropped 4))
    ∧ (∀ p ∈ ([(.psd0, s.top 2), (.psdb alpha, s.top 2 + zextByte alpha)] : List (Instr × Word)),
      s.canWriteAll [s.lengthen p.2, s.lengthen (p.2 + 1)] → 3 ≤ s.sp.val →
        exec p.1 s = .next (((s.stored (s.lengthen (p.2 + 1)) (s.top 0)).stored (s.lengthen p.2) (s.top 1)).dropped 2))
    ∧ (s.canWriteAll [s.topLong 2 + zextByteLong alpha, s.topLong 2 + zextByteLong alpha + 1] → 4 ≤ s.sp.val →
      exec (.psdlb alpha) s = .next (((s.stored (s.topLong 2 + zextByteLong alpha + 1) (s.top 0)).stored
        (s.topLong 2 + zextByteLong alpha) (s.top 1)).dropped 2))

/-- A read through a pointer held in a frame: the pointer is read first, then the word it points to
(43_assign_immediate_frame_pointer.md R440 to R444). It is stated where no device acts meanwhile (decision D9, log entry 7). -/
def Obligations.IndirectLoads : Prop :=
  ∀ (left right : Nibble) (s : State), s.devices = [] → s.mapCanonical = true → s.sp.val < 14 →
    (∀ p ∈ ([(.rli00, s.lf, 0), (.rli01, s.lf, 1), (.rli02, s.lf, 2), (.rli03, s.lf, 3),
        (.rlip left right, s.lf + zextNibble left, zextNibble right),
        (.rgip left right, s.gf + zextNibble left, zextNibble right)] : List (Instr × Word × Word)),
      s.canReadAll [s.lengthen p.2.1, s.lengthen (s.wordAt (s.lengthen p.2.1) + p.2.2)] →
        exec p.1 s = .next (((s.loaded (s.lengthen p.2.1)).loaded
          (s.lengthen (s.wordAt (s.lengthen p.2.1) + p.2.2))).pushed
          (s.wordAt (s.lengthen (s.wordAt (s.lengthen p.2.1) + p.2.2)))))
    ∧ (∀ p ∈ ([(.rlilp left right, s.lf + zextNibble left), (.rgilp left right, s.gf + zextNibble left)]
        : List (Instr × Word)),
      s.canReadAll [s.lengthen p.2, s.lengthen p.2 + 1, s.longAt (s.lengthen p.2) + zextNibbleLong right] →
        exec p.1 s = .next (((s.loadedLong (s.lengthen p.2)).loaded
          (s.longAt (s.lengthen p.2) + zextNibbleLong right)).pushed
          (s.wordAt (s.longAt (s.lengthen p.2) + zextNibbleLong right))))

/-- A double read through a pointer held in the local frame (43_assign_immediate_frame_pointer.md R445 to R447). It is stated
where no device acts meanwhile (decision D9, log entry 7). -/
def Obligations.IndirectDoubleLoads : Prop :=
  ∀ (left right : Nibble) (s : State), s.devices = [] → s.mapCanonical = true → s.sp.val < 13 →
    (∀ p ∈ ([(.rldi00, s.lf, s.wordAt (s.lengthen s.lf)),
        (.rldip left right, s.lf + zextNibble left,
          s.wordAt (s.lengthen (s.lf + zextNibble left)) + zextNibble right)] : List (Instr × Word × Word)),
      s.canReadAll [s.lengthen p.2.1, s.lengthen p.2.2, s.lengthen (p.2.2 + 1)] →
        exec p.1 s = .next (((((s.loaded (s.lengthen p.2.1)).loaded (s.lengthen p.2.2)).loaded
          (s.lengthen (p.2.2 + 1))).pushed (s.wordAt (s.lengthen p.2.2))).pushed
          (s.wordAt (s.lengthen (p.2.2 + 1)))))
    ∧ (∀ a va, a = s.lengthen (s.lf + zextNibble left) → va = s.longAt a + zextNibbleLong right →
      s.canReadAll [a, a + 1, va, va + 1] →
        exec (.rldilp left right) s = .next (((((s.loadedLong a).loaded va).loaded (va + 1)).pushed
          (s.wordAt va)).pushed (s.wordAt (va + 1))))

/-- A write through a pointer held in the local frame (43_assign_immediate_frame_pointer.md R450 to R452). It is stated where
no device acts meanwhile (decision D9, log entry 7). -/
def Obligations.IndirectStores : Prop :=
  ∀ (left right : Nibble) (s : State) (a va : LongWord) (p : Word), s.devices = [] → s.mapCanonical = true →
    a = s.lengthen (s.lf + zextNibble left) → p = s.wordAt a + zextNibble right →
    va = s.longAt a + zextNibbleLong right →
    (s.canRead a = true → s.canWrite (s.lengthen p) = true → 0 < s.sp.val →
      exec (.wlip left right) s = .next (((s.loaded a).stored (s.lengthen p) (s.top 0)).dropped 1))
    ∧ (s.canReadAll [a, a + 1] → s.canWrite va = true → 0 < s.sp.val →
      exec (.wlilp left right) s = .next (((s.loadedLong a).stored va (s.top 0)).dropped 1))
    ∧ (s.canReadAll [a, a + 1] → s.canWriteAll [va, va + 1] → 2 ≤ s.sp.val →
      exec (.wldilp left right) s =
        .next ((((s.loadedLong a).stored (va + 1) (s.top 0)).stored va (s.top 1)).dropped 2))

/-- The string instructions: the low bit of the byte offset selects the byte, zero the most significant; a read clears the
high-order byte of what it pushes, a write rewrites the other byte of the word with the value read (44_assign_string_field.md
R471 to R476; the sum of the short forms is decision D14, log entry 20). It is stated where no device acts meanwhile (decision
D9, log entry 7). -/
def Obligations.StringInstructions : Prop :=
  ∀ (alpha : Byte) (s : State) (offset : Word) (offsetLong va vb : LongWord), s.devices = [] → s.mapCanonical = true →
    offset = zextByte alpha + s.top 0 → offsetLong = zextByteLong alpha + zextLong (s.top 0) →
    va = s.lengthen (s.top 1 + offset >>> 1) → vb = s.topLong 1 + offsetLong >>> 1 →
    (s.canRead va = true → 2 ≤ s.sp.val →
      exec (.rs alpha) s =
        .next (((s.dropped 2).loaded va).pushed (zextByte (selectByte (s.wordAt va) (offset.getLsbD 0)))))
    ∧ (s.canRead vb = true → 3 ≤ s.sp.val →
      exec (.rls alpha) s =
        .next (((s.dropped 3).loaded vb).pushed (zextByte (selectByte (s.wordAt vb) (offsetLong.getLsbD 0)))))
    ∧ (s.canWrite va = true → 3 ≤ s.sp.val →
      exec (.ws alpha) s = .next (((s.dropped 3).loaded va).stored va
        (replaceByte (s.wordAt va) (offset.getLsbD 0) (rightByte (s.top 2)))))
    ∧ (s.canWrite vb = true → 4 ≤ s.sp.val →
      exec (.wls alpha) s = .next (((s.dropped 4).loaded vb).stored vb
        (replaceByte (s.wordAt vb) (offsetLong.getLsbD 0) (rightByte (s.top 3)))))

/-- The field reads push the field of the word right-justified and zero-filled; a specifier that crosses the word is refused
once the word is read (44_assign_string_field.md R481, R483 to R490; the refusal is U11's treatment). It is stated where no
device acts meanwhile (decision D9, log entry 7). -/
def Obligations.FieldReads : Prop :=
  ∀ (alpha : Byte) (left right pos size : Nibble) (s : State), s.devices = [] → s.mapCanonical = true →
    (∀ p ∈ ([(.r0f pos size, 1, s.lengthen (s.top 0)), (.rf alpha pos size, 1, s.lengthen (s.top 0 + zextByte alpha)),
        (.rl0f pos size, 2, s.topLong 0), (.rlf alpha pos size, 2, s.topLong 0 + zextByteLong alpha)]
        : List (Instr × Nat × LongWord)),
      s.canRead p.2.2 = true → p.2.1 ≤ s.sp.val →
        (fieldSpecLegal pos size = true → exec p.1 s = .next (((s.dropped p.2.1).loaded p.2.2).pushed
          (readField (s.wordAt p.2.2) pos size)))
        ∧ (fieldSpecLegal pos size = false → exec p.1 s = .refused (.fieldSpecifier (nibblePair pos size))))
    ∧ (∀ p ∈ ([(.rlfs, 3, s.topLong 1 + zextByteLong (descOffset (s.top 0))),
        (.rcfs, 2, s.codeWord (s.top 1 + zextByte (descOffset (s.top 0))))] : List (Instr × Nat × LongWord)),
      s.canRead p.2.2 = true → p.2.1 ≤ s.sp.val → fieldSpecLegal (descPos (s.top 0)) (descSize (s.top 0)) = true →
        exec p.1 s = .next (((s.dropped p.2.1).loaded p.2.2).pushed
          (readField (s.wordAt p.2.2) (descPos (s.top 0)) (descSize (s.top 0)))))
    ∧ (∀ a va, a = s.lengthen (s.lf + zextNibble left) → va = s.lengthen (s.wordAt a + zextNibble right) →
      s.canReadAll [a, va] → s.sp.val < 14 → fieldSpecLegal pos size = true →
        exec (.rlipf left right pos size) s =
          .next (((s.loaded a).loaded va).pushed (readField (s.wordAt va) pos size)))
    ∧ (∀ a va, a = s.lengthen (s.lf + zextNibble left) → va = s.longAt a + zextNibbleLong right →
      s.canReadAll [a, a + 1, va] → s.sp.val < 14 → fieldSpecLegal pos size = true →
        exec (.rlilpf left right pos size) s =
          .next (((s.loadedLong a).loaded va).pushed (readField (s.wordAt va) pos size)))

/-- The field stores read the word, merge the field, write the word back to the same address, and store nowhere else; the
swapped forms leave the pointer above the stack, the put forms on it (44_assign_string_field.md R481, R482, R491 to R500). It
is stated where no device acts meanwhile (decision D9, log entry 7). -/
def Obligations.FieldStores : Prop :=
  ∀ (alpha : Byte) (pos size : Nibble) (s : State), s.devices = [] → s.mapCanonical = true →
    (∀ p ∈ ([(.w0f pos size, s.lengthen (s.top 0), 2, s.top 1, 2),
        (.wf alpha pos size, s.lengthen (s.top 0 + zextByte alpha), 2, s.top 1, 2),
        (.wl0f pos size, s.topLong 0, 3, s.top 2, 3),
        (.wlf alpha pos size, s.topLong 0 + zextByteLong alpha, 3, s.top 2, 3),
        (.ws0f pos size, s.lengthen (s.top 1), 2, s.top 0, 2),
        (.ps0f pos size, s.lengthen (s.top 1), 2, s.top 0, 1),
        (.psf alpha pos size, s.lengthen (s.top 1 + zextByte alpha), 2, s.top 0, 1),
        (.pslf alpha pos size, s.topLong 1 + zextByteLong alpha, 3, s.top 0, 1)]
        : List (Instr × LongWord × Nat × Word × Nat)),
      s.canWrite p.2.1 = true → p.2.2.1 ≤ s.sp.val →
        (fieldSpecLegal pos size = true →
          exec p.1 s = .next (((s.loaded p.2.1).stored p.2.1
            (writeField (s.wordAt p.2.1) pos size p.2.2.2.1)).dropped p.2.2.2.2))
        ∧ (fieldSpecLegal pos size = false → exec p.1 s = .refused (.fieldSpecifier (nibblePair pos size))))
    ∧ (∀ va, va = s.topLong 1 + zextByteLong (descOffset (s.top 0)) → s.canWrite va = true → 4 ≤ s.sp.val →
      fieldSpecLegal (descPos (s.top 0)) (descSize (s.top 0)) = true →
        exec .wlfs s = .next (((s.loaded va).stored va
          (writeField (s.wordAt va) (descPos (s.top 0)) (descSize (s.top 0)) (s.top 3))).dropped 4))

/-- The stack primitives: what each leaves on the stack and above it, with no other effect, and where it raises `StackError`,
with what it has popped and pushed by then (41_stack_instructions.md R241 to R249). The word that `EXDIS` leaves above the top
is R249's own inference from the routine; that `REC` and `REC2` find what the slot holds in every state is the model treatment
of 10_state.md R61, where U7 would let any value appear (log entry 13); the state in which a stack error is raised is decision
D5 (log entry 18). -/
def Obligations.StackPrimitives : Prop :=
  ∀ s : State,
    ((s.sp.val < 14 → exec .recover s = .next s.raised) ∧ (s.sp.val = 14 → exec .recover s = deliver stackError s))
    ∧ ((s.sp.val < 13 → exec .recover2 s = .next s.raised.raised)
      ∧ (s.sp.val = 13 → exec .recover2 s = deliver stackError s.raised)
      ∧ (s.sp.val = 14 → exec .recover2 s = deliver stackError s))
    ∧ (1 ≤ s.sp.val → exec .dis s = .next (s.dropped 1))
    ∧ (2 ≤ s.sp.val → exec .dis2 s = .next (s.dropped 2))
    ∧ (2 ≤ s.sp.val → exec .exch s = .next (((s.dropped 2).pushed (s.top 0)).pushed (s.top 1)))
    ∧ (4 ≤ s.sp.val → exec .dexch s = .next (((s.dropped 4).pushedLong (s.topLong 0)).pushedLong (s.topLong 2)))
    ∧ ((1 ≤ s.sp.val → s.sp.val < 14 → exec .dup s = .next (((s.dropped 1).pushed (s.top 0)).pushed (s.top 0)))
      ∧ (s.sp.val = 14 → exec .dup s = deliver stackError ((s.dropped 1).pushed (s.top 0))))
    ∧ ((2 ≤ s.sp.val → s.sp.val < 13 →
        exec .ddup s = .next (((s.dropped 2).pushedLong (s.topLong 0)).pushedLong (s.topLong 0)))
      ∧ (s.sp.val = 13 → exec .ddup s =
        deliver stackError (((s.dropped 2).pushedLong (s.topLong 0)).pushed (lowHalf (s.topLong 0))))
      ∧ (s.sp.val = 14 → exec .ddup s = deliver stackError ((s.dropped 2).pushedLong (s.topLong 0))))
    ∧ (2 ≤ s.sp.val → exec .exdis s = .next ((s.dropped 2).pushed (s.top 0)))
    ∧ ∀ p ∈ ([(.dis, 1), (.dis2, 2), (.exch, 2), (.dexch, 4), (.dup, 1), (.ddup, 2), (.exdis, 2)] : List (Instr × Nat)),
      s.sp.val < p.2 → exec p.1 s = deliver stackError (s.dropped s.sp.val)

/-- A check, unary, logical, arithmetic or comparison instruction that pops more words than the stack holds raises
`StackError`, and `LINT` does on a full stack (10_state.md R55, 41_stack_instructions.md R240, 60_exceptions.md R776); that
the error is raised at the pop or push that makes it is the MODEL's choice (decision D5, log entry 18). -/
def Obligations.StackErrors : Prop :=
  ∀ (alpha : Byte) (s : State),
    (∀ p ∈ ([(.bndck, 2), (.bndckl, 4), (.nilckl, 2), (.neg, 1), (.inc, 1), (.dinc, 2), (.dec, 1), (.dbl, 1), (.ddbl, 2),
        (.trpl, 1), (.lint, 1), (.and, 2), (.dand, 4), (.ior, 2), (.dior, 4), (.xor, 2), (.dxor, 4), (.shift, 2),
        (.dshift, 3), (.rotate, 2), (.add, 2), (.sub, 2), (.dadd, 4), (.dsub, 4), (.adc, 3), (.acd, 3), (.mul, 2),
        (.dmul, 4), (.sdiv, 2), (.udiv, 2), (.ludiv, 3), (.sddiv, 4), (.uddiv, 4), (.dcmp, 4), (.udcmp, 4),
        (.addsb alpha, 1), (.shiftsb alpha, 1)]
        : List (Instr × Nat)),
      s.sp.val < p.2 → exec p.1 s = deliver stackError (s.dropped s.sp.val))
    ∧ (s.sp.val = 14 → exec .lint s = deliver stackError ((s.dropped 1).pushed (s.top 0)))

/-- The checks restore their first parameter; they trap exactly when the index is not below the range (unsigned) or the
pointer is zero (41_stack_instructions.md R250 to R252). -/
def Obligations.Checks : Prop :=
  ∀ s : State,
    (2 ≤ s.sp.val →
      exec .bndck s = if s.top 1 < s.top 0 then .next ((s.dropped 2).pushed (s.top 1))
        else deliver boundsTrap ((s.dropped 2).pushed (s.top 1)))
    ∧ (4 ≤ s.sp.val →
      exec .bndckl s = if s.topLong 2 < s.topLong 0 then .next ((s.dropped 4).pushedLong (s.topLong 2))
        else deliver boundsTrap ((s.dropped 4).pushedLong (s.topLong 2)))
    ∧ (2 ≤ s.sp.val →
      exec .nilckl s = if s.topLong 0 = 0 then deliver pointerTrap ((s.dropped 2).pushedLong (s.topLong 0))
        else .next ((s.dropped 2).pushedLong (s.topLong 0)))

/-- The word operations push their result in place of their operands, modulo 2^16, and change nothing else
(41_stack_instructions.md R255 to R257, R259 to R261, R263, R264, R266, R268, R270, R272, R274, R276, R280, R281, R286). Two
points are the MODEL's choice: `NEG` and `ADDSB` outside the signed range are reduced modulo 2^16 (decision D6, log entry 19),
and a `SHIFTSB` count outside -15 to 15 is refused (decision D4, log entry 28). -/
def Obligations.WordOperations : Prop :=
  ∀ (alpha : Byte) (s : State),
    (1 ≤ s.sp.val →
      (∀ p ∈ ([(.neg, 0 - s.top 0), (.inc, s.top 0 + 1), (.dec, s.top 0 - 1),
          (.addsb alpha, s.top 0 + alpha.signExtend 16), (.dbl, 2 * s.top 0), (.trpl, 3 * s.top 0)]
          : List (Instr × Word)), exec p.1 s = .next ((s.dropped 1).pushed p.2))
      ∧ exec (.shiftsb alpha) s =
        if -15 ≤ alpha.toInt ∧ alpha.toInt ≤ 15 then
          .next ((s.dropped 1).pushed (if 0 ≤ alpha.toInt then s.top 0 <<< alpha.toInt.toNat
            else s.top 0 >>> (-alpha.toInt).toNat))
        else .refused (.shiftCount alpha))
    ∧ (1 ≤ s.sp.val → s.sp.val < 14 →
      exec .lint s =
        .next (((s.dropped 1).pushed (s.top 0)).pushed (if (s.top 0).toInt < 0 then 0xFFFF else 0)))
    ∧ (2 ≤ s.sp.val →
      (∀ p ∈ ([(.and, s.top 1 &&& s.top 0), (.ior, s.top 1 ||| s.top 0), (.xor, s.top 1 ^^^ s.top 0),
          (.add, s.top 1 + s.top 0), (.sub, s.top 1 - s.top 0),
          (.shift, if 0 ≤ (s.top 0).toInt then s.top 1 <<< (s.top 0).toInt.toNat
            else s.top 1 >>> (-(s.top 0).toInt).toNat),
          (.rotate, (s.top 1).rotateLeft ((s.top 0).toInt % 16).toNat)] : List (Instr × Word)),
        exec p.1 s = .next ((s.dropped 2).pushed p.2))
      ∧ exec .mul s = .next ((((s.dropped 2).pushedLong
        (BitVec.ofNat 32 ((s.top 1).toNat * (s.top 0).toNat)))).dropped 1))

/-- The long operations push their result in place of their operands, modulo 2^32, and change nothing else; the comparisons
push 1, 0 or minus one (41_stack_instructions.md R258, R262, R269, R271, R273, R275, R282 to R285, R287, R300, R301). -/
def Obligations.LongOperations : Prop :=
  ∀ s : State,
    (2 ≤ s.sp.val →
      exec .dinc s = .next ((s.dropped 2).pushedLong (s.topLong 0 + 1))
      ∧ exec .ddbl s = .next ((s.dropped 2).pushedLong (2 * s.topLong 0)))
    ∧ (3 ≤ s.sp.val →
      exec .dshift s = .next ((s.dropped 3).pushedLong (if 0 ≤ (s.top 0).toInt then
        s.topLong 1 <<< (s.top 0).toInt.toNat else s.topLong 1 >>> (-(s.top 0).toInt).toNat))
      ∧ exec .adc s = .next ((s.dropped 3).pushedLong (zextLong (s.top 2) + s.topLong 0))
      ∧ exec .acd s = .next ((s.dropped 3).pushedLong (s.topLong 1 + zextLong (s.top 0))))
    ∧ (4 ≤ s.sp.val →
      (∀ p ∈ ([(.dand, s.topLong 2 &&& s.topLong 0), (.dior, s.topLong 2 ||| s.topLong 0),
          (.dxor, s.topLong 2 ^^^ s.topLong 0), (.dadd, s.topLong 2 + s.topLong 0),
          (.dsub, s.topLong 2 - s.topLong 0), (.dmul, s.topLong 2 * s.topLong 0)] : List (Instr × LongWord)),
        exec p.1 s = .next ((s.dropped 4).pushedLong p.2))
      ∧ exec .dcmp s = .next ((s.dropped 4).pushed (if (s.topLong 0).toInt < (s.topLong 2).toInt then 1
        else if (s.topLong 2).toInt < (s.topLong 0).toInt then 0xFFFF else 0))
      ∧ exec .udcmp s = .next ((s.dropped 4).pushed (if (s.topLong 0).toNat < (s.topLong 2).toNat then 1
        else if (s.topLong 2).toNat < (s.topLong 0).toNat then 0xFFFF else 0)))

/-- The divisions leave the quotient on the stack and the remainder above it; a zero divisor traps, as does a quotient of
`LUDIV` that does not fit; signed quotients truncate toward zero (41_stack_instructions.md R289 to R293, 00_scope.md R22; a
signed quotient out of range is reduced modulo the width by decision D6, log entry 19). -/
def Obligations.Divisions : Prop :=
  ∀ s : State,
    (2 ≤ s.sp.val →
      exec .sdiv s = (if s.top 0 = 0 then deliver divZeroTrap (s.dropped 2) else
        .next ((((s.dropped 2).pushed (BitVec.ofInt 16 ((s.top 1).toInt.tdiv (s.top 0).toInt))).pushed
          (BitVec.ofInt 16 ((s.top 1).toInt.tmod (s.top 0).toInt))).dropped 1))
      ∧ exec .udiv s = (if s.top 0 = 0 then deliver divZeroTrap (s.dropped 2) else
        .next ((((s.dropped 2).pushed (BitVec.ofNat 16 ((s.top 1).toNat / (s.top 0).toNat))).pushed
          (BitVec.ofNat 16 ((s.top 1).toNat % (s.top 0).toNat))).dropped 1)))
    ∧ (3 ≤ s.sp.val →
      exec .ludiv s = if s.top 0 = 0 then deliver divZeroTrap (s.dropped 3)
        else if (s.top 0).toNat ≤ (s.top 1).toNat then deliver divCheckTrap (s.dropped 3)
        else .next ((((s.dropped 3).pushed (BitVec.ofNat 16 ((s.topLong 1).toNat / (s.top 0).toNat))).pushed
          (BitVec.ofNat 16 ((s.topLong 1).toNat % (s.top 0).toNat))).dropped 1))
    ∧ (4 ≤ s.sp.val →
      exec .sddiv s = (if s.topLong 0 = 0 then deliver divZeroTrap (s.dropped 4) else
        .next ((((s.dropped 4).pushedLong (BitVec.ofInt 32 ((s.topLong 2).toInt.tdiv (s.topLong 0).toInt))).pushedLong
          (BitVec.ofInt 32 ((s.topLong 2).toInt.tmod (s.topLong 0).toInt))).dropped 2))
      ∧ exec .uddiv s = (if s.topLong 0 = 0 then deliver divZeroTrap (s.dropped 4) else
        .next ((((s.dropped 4).pushedLong (BitVec.ofNat 32 ((s.topLong 2).toNat / (s.topLong 0).toNat))).pushedLong
          (BitVec.ofNat 32 ((s.topLong 2).toNat % (s.topLong 0).toNat))).dropped 2)))

/-- The unconditional jumps change `PC` only: to `savedPC` plus the displacement, or, for `JS`, to the popped value; `JS` on an
empty stack raises `StackError`; `CATCH` changes nothing (42_jump_instructions.md R311 to R316, 10_state.md R54). That the stack
error is delivered in the instruction itself, at the pop that makes it, where R55 lets the report come later, is the MODEL's
choice (decision D5, log entry 18). -/
def Obligations.UnconditionalJumps : Prop :=
  ∀ (alpha : Byte) (word : Word) (s : State),
    (∀ p ∈ ([(.j2, 2), (.j3, 3), (.j4, 4), (.j5, 5), (.j6, 6), (.j7, 7), (.j8, 8), (.jb alpha, alpha.signExtend 16),
        (.jw word, word)] : List (Instr × Word)), exec p.1 s = .next (s.jumped p.2))
    ∧ (1 ≤ s.sp.val → exec .js s = .next { s.dropped 1 with pc := s.top 0 })
    ∧ (s.sp.val = 0 → exec .js s = deliver stackError s)
    ∧ exec (.catchByte alpha) s = .next s

/-- The conditional jumps pop their operands whether or not they jump, compare the deeper operand with the top one, and jump
relative to `savedPC` exactly when the relation holds (42_jump_instructions.md R311, R317 to R337). -/
def Obligations.ConditionalJumps : Prop :=
  ∀ (alpha beta : Byte) (left right : Nibble) (s : State),
    (1 ≤ s.sp.val →
      ∀ p ∈ ([(.jz3, decide (s.top 0 = 0), 3), (.jz4, decide (s.top 0 = 0), 4), (.jnz3, decide (s.top 0 ≠ 0), 3),
        (.jnz4, decide (s.top 0 ≠ 0), 4), (.jzb alpha, decide (s.top 0 = 0), alpha.signExtend 16),
        (.jnzb alpha, decide (s.top 0 ≠ 0), alpha.signExtend 16),
        (.jep left right, decide (s.top 0 = zextNibble left), zextNibble right + 4),
        (.jnep left right, decide (s.top 0 ≠ zextNibble left), zextNibble right + 4),
        (.jebb alpha beta, decide (s.top 0 = zextByte alpha), beta.signExtend 16),
        (.jnebb alpha beta, decide (s.top 0 ≠ zextByte alpha), beta.signExtend 16)] : List (Instr × Bool × Word)),
      exec p.1 s = .next (if p.2.1 then (s.dropped 1).jumped p.2.2 else s.dropped 1))
    ∧ (2 ≤ s.sp.val →
      ∀ p ∈ ([(.jeb alpha, decide (s.top 1 = s.top 0)), (.jneb alpha, decide (s.top 1 ≠ s.top 0)),
        (.jlb alpha, decide ((s.top 1).toInt < (s.top 0).toInt)),
        (.jleb alpha, decide ((s.top 1).toInt ≤ (s.top 0).toInt)),
        (.jgb alpha, decide ((s.top 1).toInt > (s.top 0).toInt)),
        (.jgeb alpha, decide ((s.top 1).toInt ≥ (s.top 0).toInt)),
        (.julb alpha, decide ((s.top 1).toNat < (s.top 0).toNat)),
        (.juleb alpha, decide ((s.top 1).toNat ≤ (s.top 0).toNat)),
        (.jugb alpha, decide ((s.top 1).toNat > (s.top 0).toNat)),
        (.jugeb alpha, decide ((s.top 1).toNat ≥ (s.top 0).toNat))] : List (Instr × Bool)),
      exec p.1 s = .next (if p.2 then (s.dropped 2).jumped (alpha.signExtend 16) else s.dropped 2))
    ∧ (4 ≤ s.sp.val →
      ∀ p ∈ ([(.jdeb alpha, decide (s.topLong 2 = s.topLong 0)),
        (.jdneb alpha, decide (s.topLong 2 ≠ s.topLong 0))] : List (Instr × Bool)),
      exec p.1 s = .next (if p.2 then (s.dropped 4).jumped (alpha.signExtend 16) else s.dropped 4))

/-- The indexed jumps take their displacement from the code segment when the index is below the limit, and do not jump
otherwise (42_jump_instructions.md R339 to R341). The read of the table is stated where no device acts before it (decision D9,
log entry 7). -/
def Obligations.IndexedJumps : Prop :=
  ∀ (word : Word) (s : State), 2 ≤ s.sp.val →
    ((s.top 0).toNat ≤ (s.top 1).toNat →
      exec (.jib word) s = .next (s.dropped 2) ∧ exec (.jiw word) s = .next (s.dropped 2))
    ∧ (s.devices = [] → (s.top 1).toNat < (s.top 0).toNat →
      (∀ va, va = s.codeWord (word + s.top 1 >>> 1) → s.canRead va = true →
        exec (.jib word) s =
          .next (((s.dropped 2).loaded va).jumped (zextByte (selectByte (s.wordAt va) ((s.top 1).getLsbD 0)))))
      ∧ (∀ va, va = s.codeWord (word + s.top 1) → s.canRead va = true →
        exec (.jiw word) s = .next (((s.dropped 2).loaded va).jumped (s.wordAt va))))

/-- The word block transfers: a count of zero pops the operands and touches no memory; otherwise one word is moved and the
instruction goes on, with interrupts disabled, as it would from the updated operands (45_block_transfers.md R520, R522 to
R526). It is stated where no device acts meanwhile (decision D9, log entry 7). -/
def Obligations.WordBlockTransfers : Prop :=
  ∀ s : State, s.devices = [] → s.wdc ≠ 0 → s.mapCanonical = true →
    (3 ≤ s.sp.val →
      (s.top 1 = 0 → exec .blt s = .next (s.dropped 3) ∧ exec .bltc s = .next (s.dropped 3))
      ∧ (s.top 1 ≠ 0 → s.canWrite (s.lengthen (s.top 0)) = true →
        (∀ va, va = s.lengthen (s.top 2) → s.canRead va = true →
          exec .blt s = exec .blt ((((((s.dropped 3).loaded va).stored (s.lengthen (s.top 0)) (s.wordAt va)).pushed
            (s.top 2 + 1)).pushed (s.top 1 - 1)).pushed (s.top 0 + 1)))
        ∧ (∀ va, va = s.codeWord (s.top 2) → s.canRead va = true →
          exec .bltc s = exec .bltc ((((((s.dropped 3).loaded va).stored (s.lengthen (s.top 0)) (s.wordAt va)).pushed
            (s.top 2 + 1)).pushed (s.top 1 - 1)).pushed (s.top 0 + 1)))))
    ∧ (4 ≤ s.sp.val →
      (s.top 2 = 0 → exec .bltcl s = .next (s.dropped 4))
      ∧ (∀ va, va = s.codeWord (s.top 3) → s.top 2 ≠ 0 → s.canWrite (s.topLong 0) = true → s.canRead va = true →
        exec .bltcl s = exec .bltcl ((((((s.dropped 4).loaded va).stored (s.topLong 0) (s.wordAt va)).pushed
          (s.top 3 + 1)).pushed (s.top 2 - 1)).pushedLong (s.topLong 0 + 1))))
    ∧ (5 ≤ s.sp.val →
      (s.top 2 = 0 → exec .bltl s = .next (s.dropped 5) ∧ exec .bltlr s = .next (s.dropped 5))
      ∧ (s.top 2 ≠ 0 → s.canRead (s.topLong 3) = true → s.canWrite (s.topLong 0) = true →
        exec .bltl s = exec .bltl ((((((s.dropped 5).loaded (s.topLong 3)).stored (s.topLong 0)
          (s.wordAt (s.topLong 3))).pushedLong (s.topLong 3 + 1)).pushed (s.top 2 - 1)).pushedLong
          (s.topLong 0 + 1)))
      ∧ (∀ va vb, va = s.topLong 3 + zextLong (s.top 2 - 1) → vb = s.topLong 0 + zextLong (s.top 2 - 1) →
        s.top 2 ≠ 0 → s.canRead va = true → s.canWrite vb = true →
        exec .bltlr s = exec .bltlr ((((((s.dropped 5).loaded va).stored vb (s.wordAt va)).pushedLong
          (s.topLong 3)).pushed (s.top 2 - 1)).pushedLong (s.topLong 0))))

/-- The checksum and the block comparisons: what each pushes at the end, and what one iteration does before the instruction
goes on, with interrupts disabled (45_block_transfers.md R528, R530, R531). It is stated where no device acts meanwhile
(decision D9, log entry 7). -/
def Obligations.ChecksumAndComparisons : Prop :=
  ∀ s : State, s.devices = [] → s.wdc ≠ 0 → s.mapCanonical = true →
    (4 ≤ s.sp.val →
      (s.top 2 = 0 →
        exec .cksum s = .next ((s.dropped 4).pushed (if s.top 3 = 0xFFFF then 0 else s.top 3))
        ∧ exec .blecl s = .next ((s.dropped 4).pushed 1))
      ∧ (s.top 2 ≠ 0 → s.canRead (s.topLong 0) = true →
        exec .cksum s = exec .cksum (((((s.dropped 4).loaded (s.topLong 0)).pushed
          (checksumStep (s.top 3) (s.wordAt (s.topLong 0)))).pushed (s.top 2 - 1)).pushedLong (s.topLong 0 + 1))
        ∧ (∀ va, va = s.codeWord (s.top 3) → s.canRead va = true →
          exec .blecl s =
            if s.wordAt (s.topLong 0) ≠ s.wordAt va then
              .next ((((s.dropped 4).loaded (s.topLong 0)).loaded va).pushed 0)
            else exec .blecl ((((((s.dropped 4).loaded (s.topLong 0)).loaded va).pushed (s.top 3 + 1)).pushed
              (s.top 2 - 1)).pushedLong (s.topLong 0 + 1)))))
    ∧ (5 ≤ s.sp.val →
      (s.top 2 = 0 → exec .blel s = .next ((s.dropped 5).pushed 1))
      ∧ (s.top 2 ≠ 0 → s.canReadAll [s.topLong 0, s.topLong 3] →
        exec .blel s =
          if s.wordAt (s.topLong 0) ≠ s.wordAt (s.topLong 3) then
            .next ((((s.dropped 5).loaded (s.topLong 0)).loaded (s.topLong 3)).pushed 0)
          else exec .blel ((((((s.dropped 5).loaded (s.topLong 0)).loaded (s.topLong 3)).pushedLong
            (s.topLong 3 + 1)).pushed (s.top 2 - 1)).pushedLong (s.topLong 0 + 1))))

/-- The byte block transfers: a count of zero pops the operands; otherwise one byte is moved, its word's other byte rewritten,
and the instruction goes on, with interrupts disabled, from the next byte position in its direction (45_block_transfers.md
R534, R535). It is stated where no device acts meanwhile (decision D9, log entry 7). -/
def Obligations.ByteBlockTransfers : Prop :=
  ∀ s : State, s.devices = [] → s.wdc ≠ 0 → s.mapCanonical = true → 7 ≤ s.sp.val →
    (s.top 3 = 0 → exec .bytblt s = .next (s.dropped 7) ∧ exec .bytbltr s = .next (s.dropped 7))
    ∧ (∀ va vb w t, s.top 3 ≠ 0 → va = s.topLong 1 + zextLong (s.top 0 >>> 1) →
      vb = s.topLong 5 + zextLong (s.top 4 >>> 1) → s.canRead va = true → s.canWrite vb = true →
      w = replaceByte (s.wordAt vb) ((s.top 4).getLsbD 0) (selectByte (s.wordAt va) ((s.top 0).getLsbD 0)) →
      t = (((s.dropped 7).loaded va).loaded vb).stored vb w →
      exec .bytblt s = exec .bytblt
        (((((t.pushedLong (if (s.top 4).getLsbD 0 then vb + 1 else vb)).pushed
          (if (s.top 4).getLsbD 0 then 0 else 1)).pushed (s.top 3 - 1)).pushedLong
          (if (s.top 0).getLsbD 0 then va + 1 else va)).pushed (if (s.top 0).getLsbD 0 then 0 else 1))
      ∧ exec .bytbltr s = exec .bytbltr
        (((((t.pushedLong (if (s.top 4).getLsbD 0 then vb else vb - 1)).pushed
          (if (s.top 4).getLsbD 0 then 0 else 1)).pushed (s.top 3 - 1)).pushedLong
          (if (s.top 0).getLsbD 0 then va else va - 1)).pushed (if (s.top 0).getLsbD 0 then 0 else 1)))

/-- The word, code and checksum block transfers run to their end: where every word they read and store is accessible and
interrupts are disabled, they pop their operands, push at most their result, change no register but `SP`, and store only to
their destination (45_block_transfers.md R520, R522 to R526, R528). It is stated where no device acts meanwhile (decision D9,
log entry 7). -/
def Obligations.BlockTransfersComplete : Prop :=
  ∀ s : State, s.devices = [] → s.wdc ≠ 0 → s.mapCanonical = true →
    (3 ≤ s.sp.val → (∀ k, k < (s.top 1).toNat → s.canWrite (s.lengthen (s.top 0 + BitVec.ofNat 16 k)) = true) →
      (∀ p ∈ ([(.blt, fun k => s.lengthen (s.top 2 + BitVec.ofNat 16 k)),
          (.bltc, fun k => s.codeWord (s.top 2 + BitVec.ofNat 16 k))] : List (Instr × (Nat → LongWord))),
        (∀ k, k < (s.top 1).toNat → s.canRead (p.2 k) = true) →
        ∃ t, exec p.1 s = .next t ∧ t.sp.val = s.sp.val - 3 ∧ s.sameContext t ∧ s.sameProcess t ∧ s.sameTranslation t
          ∧ ∀ key, (∀ k, k < (s.top 1).toNat →
              key / 2 ≠ s.realAddress (s.lengthen (s.top 0 + BitVec.ofNat 16 k))) → t.byteAt key = s.byteAt key))
    ∧ (4 ≤ s.sp.val → (∀ k, k < (s.top 2).toNat → s.canWrite (s.topLong 0 + BitVec.ofNat 32 k) = true) →
      (∀ k, k < (s.top 2).toNat → s.canRead (s.codeWord (s.top 3 + BitVec.ofNat 16 k)) = true) →
      ∃ t, exec .bltcl s = .next t ∧ t.sp.val = s.sp.val - 4 ∧ s.sameContext t ∧ s.sameProcess t ∧ s.sameTranslation t
        ∧ ∀ key, (∀ k, k < (s.top 2).toNat → key / 2 ≠ s.realAddress (s.topLong 0 + BitVec.ofNat 32 k)) →
            t.byteAt key = s.byteAt key)
    ∧ (4 ≤ s.sp.val → (∀ k, k < (s.top 2).toNat → s.canRead (s.topLong 0 + BitVec.ofNat 32 k) = true) →
      ∃ t, exec .cksum s = .next t ∧ t.sp.val = s.sp.val - 3 ∧ s.sameContext t ∧ s.sameProcess t ∧ s.sameTranslation t
        ∧ t.mem = s.mem)
    ∧ (5 ≤ s.sp.val → (∀ k, k < (s.top 2).toNat → s.canWrite (s.topLong 0 + BitVec.ofNat 32 k) = true) →
      (∀ k, k < (s.top 2).toNat → s.canRead (s.topLong 3 + BitVec.ofNat 32 k) = true) →
      ∀ i ∈ ([.bltl, .bltlr] : List Instr),
        ∃ t, exec i s = .next t ∧ t.sp.val = s.sp.val - 5 ∧ s.sameContext t ∧ s.sameProcess t ∧ s.sameTranslation t
          ∧ ∀ key, (∀ k, k < (s.top 2).toNat → key / 2 ≠ s.realAddress (s.topLong 0 + BitVec.ofNat 32 k)) →
              t.byteAt key = s.byteAt key)

/-- The calls: the current `PC` is saved in the current frame, a frame is taken from the free list the procedure's first byte
selects, its global link and return link are set, and the procedure is entered one byte further on; the instructions differ in
where the link comes from. A call through an indirect link reads the descriptor it points to, and leaves the indirect link and
the caller's frame in the two words above the stack (47_control_transfers.md R599, R610, R613, R616 to R621, R630). It is
stated where no device acts meanwhile (decision D9, log entry 7). -/
def Obligations.ProcedureCalls : Prop :=
  ∀ (alpha : Byte) (word : Word) (s s1 : State) (link : LongWord) (gf slot frame next : Word) (cb : LongWord),
    s.devices = [] → s.mapCanonical = true → s.xts.getLsbD 0 = false → s.canWrite (s.lengthen (s.lf - 1)) = true →
    s1 = s.stored (s.lengthen (s.lf - 1)) s.pc →
    (link.getLsbD 0 = true → gf = lowHalf link &&& 0xFFFE → s1.hasModule gf cb →
      s1.hasBody cb (highHalf link) slot frame next →
      (∀ p ∈ ([(.efc0, 0), (.efc1, 1), (.efc2, 2), (.efc3, 3), (.efc4, 4), (.efc5, 5), (.efc6, 6), (.efc7, 7), (.efc8, 8),
          (.efc9, 9), (.efc10, 10), (.efc11, 11), (.efc12, 12), (.efcb alpha, alpha)] : List (Instr × Byte)),
        s.canReadLink p.2 → s.longAt (s.linkAddress p.2) = link →
        ∃ t, exec p.1 s = .next t ∧ t.sp = s.sp ∧ t.wdc = s.wdc ∧ s.transferred t frame gf (highHalf link + 1) cb
          [(s.lengthen (s.lf - 1), s.pc), (s.lengthen slot, next), (s.lengthen (frame - 2), gf),
            (s.lengthen (frame - 3), s.lf)])
      ∧ (s.canReadAll [s.lengthen (sdEntry (zextByte alpha)), s.lengthen (sdEntry (zextByte alpha)) + 1] →
        s.longAt (s.lengthen (sdEntry (zextByte alpha))) = link →
        ∃ t, exec (.kfcb alpha) s = .next t ∧ t.sp = s.sp ∧ t.wdc = s.wdc
          ∧ s.transferred t frame gf (highHalf link + 1) cb
            [(s.lengthen (s.lf - 1), s.pc), (s.lengthen slot, next), (s.lengthen (frame - 2), gf),
              (s.lengthen (frame - 3), s.lf)])
      ∧ (2 ≤ s.sp.val → s.topLong 0 = link →
        ∃ t, exec .sfc s = .next t ∧ t.sp.val = s.sp.val - 2 ∧ t.wdc = s.wdc
          ∧ s.transferred t frame gf (highHalf link + 1) cb
            [(s.lengthen (s.lf - 1), s.pc), (s.lengthen slot, next), (s.lengthen (frame - 2), gf),
              (s.lengthen (frame - 3), s.lf)])
      ∧ (∀ ptr, 2 ≤ s.sp.val → s.topLong 0 = ptr → ptr.extractLsb' 0 2 = 2#2 →
        s.canReadAll [s.lengthen (lowHalf ptr), s.lengthen (lowHalf ptr) + 1] →
        s1.longAt (s.lengthen (lowHalf ptr)) = link →
        ∃ t, exec .sfc s = .next t ∧ t.sp.val = s.sp.val - 2 ∧ t.wdc = s.wdc
          ∧ t.stack = (s.stack.setIfInBounds (s.sp.val - 2) (lowHalf ptr)).setIfInBounds (s.sp.val - 1) s.lf
          ∧ s.transferred { t with stack := s.stack } frame gf (highHalf link + 1) cb
            [(s.lengthen (s.lf - 1), s.pc), (s.lengthen slot, next), (s.lengthen (frame - 2), gf),
              (s.lengthen (frame - 3), s.lf)]))
    ∧ (s1.hasBody s.cb word slot frame next →
      ∃ t, exec (.lfc word) s = .next t ∧ t.sp = s.sp ∧ t.wdc = s.wdc
        ∧ s.transferred t frame s.gf (word + 1) s.cb
          [(s.lengthen (s.lf - 1), s.pc), (s.lengthen slot, next), (s.lengthen (frame - 2), s.gf),
            (s.lengthen (frame - 3), s.lf)])

/-- The transfers to a frame: `RET` by the return link and `XF` by the links stored in the frame free the current frame and
resume the other; `XE` saves `PC` instead of freeing, and enables interrupts once. With the low bit of `XTS` clear `XTS` is
shifted; with it set, `RET` into a module whose `trapxfers` flag is clear leaves `XTS` as it is, and into one whose flag is set
it shifts `XTS` and takes the xfer trap in the new context (47_control_transfers.md R600, R610, R623, R656, R657,
60_exceptions.md R790). It is stated where no device acts meanwhile (decision D9, log entry 7). -/
def Obligations.FrameTransfers : Prop :=
  ∀ (alpha : Byte) (s : State) (frame gf pc slot item : Word) (cb : LongWord), s.devices = [] → s.mapCanonical = true →
    (s.xts.getLsbD 0 = true → s.hasFrame frame gf cb pc → s.canFree s.lf slot item →
      s.canRead (s.lengthen (s.lf - 3)) = true → s.wordAt (s.lengthen (s.lf - 3)) = frame →
      s.canRead (s.lengthen (gf - 3)) = true →
      ∃ t, t.sp = s.sp ∧ t.wdc = s.wdc
        ∧ s.transferred t frame gf pc cb [(s.lengthen s.lf, item), (s.lengthen slot, s.lf)]
        ∧ ((t.wordAt (s.lengthen (gf - 3))).getLsbD 1 = false → exec .ret s = .next { t with xts := s.xts })
        ∧ ((t.wordAt (s.lengthen (gf - 3))).getLsbD 1 = true →
          exec .ret s = deliver (.xferTrap (zextLong frame) .ret) t))
    ∧ (s.xts.getLsbD 0 = false → s.hasFrame frame gf cb pc → s.canFree s.lf slot item →
      (s.canRead (s.lengthen (s.lf - 3)) = true → s.wordAt (s.lengthen (s.lf - 3)) = frame →
        ∃ t, exec .ret s = .next t ∧ t.sp = s.sp ∧ t.wdc = s.wdc
          ∧ s.transferred t frame gf pc cb [(s.lengthen s.lf, item), (s.lengthen slot, s.lf)])
      ∧ (∀ ptr, ptr = s.lf + zextByte alpha →
        s.canReadAll [s.lengthen ptr, s.lengthen (ptr + 2), s.lengthen (ptr + 2) + 1] →
        lowHalf (s.longAt (s.lengthen (ptr + 2))) = frame →
        ∃ t, exec (.xf alpha) s = .next t ∧ t.sp = s.sp ∧ t.wdc = s.wdc
          ∧ s.transferred t frame gf pc cb [(s.lengthen s.lf, item), (s.lengthen slot, s.lf)]))
    ∧ (∀ s1 ptr, s.xts.getLsbD 0 = false → ptr = s.lf + zextByte alpha → s.canWrite (s.lengthen (s.lf - 1)) = true →
      s1 = s.stored (s.lengthen (s.lf - 1)) s.pc → s1.hasFrame frame gf cb pc →
      s.canReadAll [s.lengthen ptr, s.lengthen (ptr + 2), s.lengthen (ptr + 2) + 1] →
      lowHalf (s1.longAt (s.lengthen (ptr + 2))) = frame →
      ∃ t, exec (.xe alpha) s = .next t ∧ t.sp = s.sp ∧ t.wdc = s.wdc - 1
        ∧ s.transferred t frame gf pc cb [(s.lengthen (s.lf - 1), s.pc)])

/-- The port transfers: `PO` and `POR` save `PC`, leave the current frame in the port and transfer through the port's outport
where that holds a frame link (R625 to R627; an outport that holds a procedure or an indirect link is not stated here); `PI`
takes the source and the port from the two slots above the stack, clears the port's frame and, where the source is not zero,
stores it as the port's link, leaving the stack as it was (47_control_transfers.md R628). R628 says so only after a transfer
through an indirect link. That `PI` finds what the two slots hold in EVERY state, also after a transfer that left nothing there,
is the MODEL's choice: it is the model treatment of 10_state.md R61, where U7 would let any value appear (log entry 13). It is
stated where no device acts meanwhile (decision D9, log entry 7). -/
def Obligations.PortTransfers : Prop :=
  ∀ (s s1 : State) (frame gf pc port src : Word) (cb : LongWord), s.devices = [] → s.mapCanonical = true →
    (s.xts.getLsbD 0 = false → 2 ≤ s.sp.val → port = s.top 1 →
      s.canWriteAll [s.lengthen (s.lf - 1), s.lengthen port] →
      s1 = (s.stored (s.lengthen (s.lf - 1)) s.pc).stored (s.lengthen port) s.lf → s1.hasFrame frame gf cb pc →
      s.canReadAll [s.lengthen (port + 2), s.lengthen (port + 2) + 1] →
      lowHalf (s1.longAt (s.lengthen (port + 2))) = frame →
      ∀ i ∈ ([.po, .por] : List Instr),
        ∃ t, exec i s = .next t ∧ t.sp.val = s.sp.val - 2 ∧ t.wdc = s.wdc
          ∧ s.transferred t frame gf pc cb [(s.lengthen (s.lf - 1), s.pc), (s.lengthen port, s.lf)])
    ∧ (s.sp.val < 13 → port = s.slot s.sp.val → src = s.slot (s.sp.val + 1) → s.canWrite (s.lengthen port) = true →
      (src = 0 → exec .pi s = .next (s.stored (s.lengthen port) 0))
      ∧ (src ≠ 0 → s.canWrite (s.lengthen (port + 2)) = true →
        exec .pi s = .next ((s.stored (s.lengthen port) 0).stored (s.lengthen (port + 2)) src)))

/-- The link instructions: `LKB` stores the word above the stack, less `alpha`, in local zero; the others load a link of the
current module and push it, or the word or double word it points to (47_control_transfers.md R622, R630 to R633). Where no
transfer left a link above the stack, `LKB` stores whatever word lies there (R622); that this is the word the slot holds is the
model treatment of 10_state.md R61, where U7 would let any value appear (log entry 13). It is stated where no device acts
meanwhile (decision D9, log entry 7). -/
def Obligations.LinkInstructions : Prop :=
  ∀ (alpha : Byte) (s : State) (ptr : LongWord), s.devices = [] → s.mapCanonical = true →
    (s.sp.val < 14 → s.canWrite (s.lengthen s.lf) = true →
      exec (.lkb alpha) s = .next (s.stored (s.lengthen s.lf) (s.slot s.sp.val - zextByte alpha)))
    ∧ (s.canReadLink alpha → ptr = s.longAt (s.linkAddress alpha) →
      (s.sp.val < 13 → exec (.llkb alpha) s = .next ((s.loadedLink alpha).pushedLong ptr))
      ∧ (s.sp.val < 14 → s.canRead ptr = true →
        exec (.rkib alpha) s = .next (((s.loadedLink alpha).loaded ptr).pushed (s.wordAt ptr)))
      ∧ (s.sp.val < 13 → s.canReadAll [ptr, ptr + 1] →
        exec (.rkdib alpha) s = .next (((((s.loadedLink alpha).loaded ptr).pushed (s.wordAt ptr)).loaded
          (ptr + 1)).pushed (s.wordAt (ptr + 1)))))

/-- `AF` takes the first frame of the free list the popped index selects, or raises `FrameFault` with the index where the list
is empty; `FF` puts the popped frame back in front of the list its overhead word selects (47_control_transfers.md R598 to
R602). It is stated where no device acts meanwhile (decision D9, log entry 7). -/
def Obligations.FrameAllocation : Prop :=
  ∀ (s : State) (slot item : Word), s.devices = [] → s.mapCanonical = true → 1 ≤ s.sp.val →
    (slot = avEntry (s.top 0) → s.canWrite (s.lengthen slot) = true → item = s.wordAt (s.lengthen slot) →
      (item &&& 3 = 0 → s.canRead (s.lengthen item) = true →
        exec .af s = .next (((((s.dropped 1).loaded (s.lengthen slot)).loaded (s.lengthen item)).stored
          (s.lengthen slot) (s.wordAt (s.lengthen item))).pushed item))
      ∧ (item &&& 3 = 1 → exec .af s = deliver (frameFault (s.top 0)) ((s.dropped 1).loaded (s.lengthen slot))))
    ∧ (s.canFree (s.top 0) slot item →
      exec .ff s = .next (((((s.dropped 1).loaded (s.lengthen (s.top 0 - 4))).loaded (s.lengthen slot)).stored
        (s.lengthen (s.top 0)) item).stored (s.lengthen slot) (s.top 0)))

/-- `DSK` stores the stack with the two words above it, the stack pointer and the break byte in a state vector and leaves the
stack empty; `LSK` takes them back. Both complete wherever the words of the vector are accessible and the stack pointer in it
is one, and no other register changes (47_control_transfers.md R650 to R655). It is stated where no device acts meanwhile
(decision D9, log entry 7). -/
def Obligations.StateVectors : Prop :=
  ∀ (alpha : Byte) (s : State) (p : LongWord) (n : Nat), s.devices = [] → s.mapCanonical = true →
    p = s.lengthen (s.lf + zextByte alpha) →
    (n = min (s.sp.val + 2) 14 → (∀ k, k < 15 → s.canWrite (p + BitVec.ofNat 32 k) = true) →
      ∃ t, exec (.dsk alpha) s = .next t ∧ t.sp = 0 ∧ t.savedSP = 0 ∧ t.brk = 0 ∧ t.stack = s.stack ∧ s.sameContext t
        ∧ s.sameProcess { t with brk := s.brk, savedSP := s.savedSP }
        ∧ s.memoryAfter t (((List.range n).map fun k => (p + BitVec.ofNat 32 k, s.slot k))
          ++ [(p + 14, bytePair s.brk (BitVec.ofNat 8 s.sp.val))]))
    ∧ (∀ stkptr, stkptr = (rightByte (s.wordAt (p + 14))).toNat → stkptr < 15 → n = min (stkptr + 2) 14 →
      (∀ k, k < 15 → s.canRead (p + BitVec.ofNat 32 k) = true) →
      ∃ t, exec (.lsk alpha) s = .next t ∧ t.sp.val = stkptr ∧ t.savedSP.val = stkptr
        ∧ t.brk = leftByte (s.wordAt (p + 14)) ∧ s.sameContext t
        ∧ s.sameProcess { t with brk := s.brk, savedSP := s.savedSP } ∧ s.memoryAfter t []
        ∧ ∀ k, k < 14 → t.slot k = if k < n then s.wordAt (p + BitVec.ofNat 32 k) else s.slot k)

/-- What `DSK` saves, `LSK` with the same operand restores: the stack pointer, the break byte, every word of the stack and the
two above it (47_control_transfers.md R650 to R655). It is stated where no device acts meanwhile (decision D9, log entry 7). -/
def Obligations.SavedStackIsRestored : Prop :=
  ∀ (alpha : Byte) (s t : State), s.devices = [] → s.Inv → exec (.dsk alpha) s = .next t →
    (∀ k, k < 15 → s.canWrite (s.lengthen (s.lf + zextByte alpha) + BitVec.ofNat 32 k) = true) →
    ∃ u, exec (.lsk alpha) t = .next u ∧ u.sp = s.sp ∧ u.brk = s.brk ∧ ∀ k, k < min (s.sp.val + 2) 14 → u.slot k = s.slot k

/-- `BRK` with no break byte takes the breakpoint trap; with a break byte that the code bytes after `BRK` complete to an
instruction it fetches those bytes and runs that instruction's routine, and then clears the break byte; an abort of the routine
is delivered with the break byte as it was. The routine is the one that the instruction's own execution runs (30_encoding.md
R163, 47_control_transfers.md R660, 60_exceptions.md R772). The first two clauses are stated where no device acts meanwhile
(decision D9, log entry 7). -/
def Obligations.Breakpoint : Prop :=
  ∀ (s : State) (frame gf : Word) (cb : LongWord) (pc : Word), s.mapCanonical = true →
    (s.devices = [] → s.brk = 0 → s.trapReady (sdEntry 0) frame gf cb pc →
      ∃ t, exec .brk s = .next t ∧ s.trapped t frame gf cb pc [])
    ∧ (∀ (rest : List Byte) i, s.devices = [] → s.brk ≠ 0 → decode (s.brk :: rest) = .instr i [] →
      (List.range rest.length).map (fun k => s.codeByte (s.pc + BitVec.ofNat 16 k)) = rest →
      (∀ k, k < rest.length → s.canRead (s.codeWord ((s.pc + BitVec.ofNat 16 k) >>> 1)) = true) →
      (∀ t, dispatch i (s.fetched rest.length) = .ok () t → exec .brk s = .next { t with brk := 0 })
      ∧ (∀ a t, dispatch i (s.fetched rest.length) = .error a t → exec .brk s = deliver a t))
    ∧ ∀ i, i ≠ .brk → exec i s = run (dispatch i) s

/-- Taking a trap, the xfer trap among them: `PC` and `SP` are restored to the start of the instruction and `PC` saved in the
trapped frame, and the handler gets the trapped frame as its return link and the parameters in its first locals. A handler
whose table entry is a frame link runs at the `PC` its frame holds, with interrupts disabled once more; one whose entry is a
procedure descriptor gets a frame of its own, as in a call, and `WDC` stays (60_exceptions.md R761, R764 to R767, R790, R825,
47_control_transfers.md R610). It is stated where no device acts meanwhile (decision D9, log entry 7). -/
def Obligations.TrapEntersItsHandler : Prop :=
  ∀ (s : State) (a : Abort) (entry : Word) (parameters : List Word) (frame gf : Word) (cb : LongWord),
    s.devices = [] → s.mapCanonical = true →
    (a = .trapZero entry ∧ parameters = [] ∨ (∃ p, a = .trapOne entry p ∧ parameters = [p])
      ∨ (∃ p, a = .trapTwo entry p ∧ parameters = [lowHalf p, highHalf p])
      ∨ ∃ dst type, a = .xferTrap dst type ∧ entry = xferTrapEntry
        ∧ parameters = [lowHalf dst, highHalf dst, type.code]) →
    s.takesParameters frame parameters →
    (∀ pc, s.trapReady entry frame gf cb pc → ∃ t, deliver a s = .next t ∧ s.trapped t frame gf cb pc parameters)
    ∧ (∀ s1 link slot next, 8 ≤ s.savedPC.toNat → s.xts.getLsbD 0 = false →
      s.canReadAll [s.lengthen entry, s.lengthen entry + 1] → s.canWrite (s.lengthen (s.lf - 1)) = true →
      link = s.longAt (s.lengthen entry) → link.getLsbD 0 = true → gf = lowHalf link &&& 0xFFFE →
      s1 = s.stored (s.lengthen (s.lf - 1)) s.savedPC → s1.hasModule gf cb →
      s1.hasBody cb (highHalf link) slot frame next →
      ∃ t, deliver a s = .next t ∧ t.sp = s.savedSP ∧ t.wdc = s.wdc
        ∧ s.transferred t frame gf (highHalf link + 1) cb
          ([(s.lengthen (s.lf - 1), s.savedPC), (s.lengthen slot, next), (s.lengthen (frame - 2), gf),
              (s.lengthen (frame - 3), s.lf)]
            ++ (List.range parameters.length).map fun k =>
              (s.lengthen (frame + BitVec.ofNat 16 k), parameters.getD k 0)))

/-- The instructions that are listed and not defined, and the unassigned second bytes of the two prefixes, enter the
handler of `EscOpcodeTrap` through the entry of their second byte, which is its parameter (30_encoding.md R171, R174,
R176, 49_listed_only_instructions.md R740, 60_exceptions.md R763, R770). Two points are the MODEL's choice: that none of
them is implemented (decision D2, log entry 16), and the second bytes 0x25 to 0xA0 of the instructions, general knowledge
that R179 marks as not in the source (decision D1, log entry 15). It is stated where no device acts meanwhile (decision
D9, log entry 7). -/
def Obligations.UnimplementedEscapesTrap : Prop :=
  ∀ (code : Byte) (s : State) (frame gf : Word) (cb : LongWord) (pc : Word), s.devices = [] → s.mapCanonical = true →
    s.canWrite (s.lengthen frame) = true →
    ∀ p ∈ ([(.esc code, code), (.escl code, code), (.nilck, 0x25), (.version, 0x2F), (.fadd, 0x40), (.fsub, 0x41),
        (.fmul, 0x42), (.fdiv, 0x43), (.fcomp, 0x44), (.fix, 0x45), (.float, 0x46), (.fixi, 0x47), (.fixc, 0x48),
        (.fsticky, 0x49), (.frem, 0x4A), (.round, 0x4B), (.roundi, 0x4C), (.roundc, 0x4D), (.fsqrt, 0x4E), (.fsc, 0x4F),
        (.reclaimref, 0x60), (.altercount, 0x61), (.resetstkbits, 0x62), (.gcsetup, 0x63), (.a144, 0x64),
        (.enumeratereclaimable, 0x65), (.a146, 0x66), (.createref, 0x67), (.a150, 0x68), (.reftype, 0x69),
        (.canonicalreftype, 0x6A), (.allocquantized, 0x6B), (.allocheap, 0x6C), (.freeobject, 0x6D),
        (.freequantized, 0x6E), (.freeprefixed, 0x6F), (.input, 0x80), (.output, 0x81), (.loadramj, 0x82),
        (.bandblt, 0xA0)] : List (Instr × Byte)),
      s.trapReady (ettEntry p.2) frame gf cb pc →
      ∃ t, exec p.1 s = .next t ∧ s.trapped t frame gf cb pc [zextByte p.2]

/-- A fault suspends its process: it moves to the fault's queue, the fault's condition keeps the wakeup, the process's stack,
frame and the parameters stand in a state vector taken from its priority's list, and its `PC` is that of the faulted
instruction. Where it was the only ready process no process runs then; where another was ready too, that one runs
(60_exceptions.md R761, R794 to R798, R803, 48_process_instructions.md R700 to R702, R720, R722, R723, R725,
47_control_transfers.md R652). It is stated where no device acts meanwhile (decision D9, log entry 7). -/
def Obligations.FaultSuspendsTheProcess : Prop :=
  ∀ (s : State) (a : Abort) (fi : FaultIndex) (parameters : List Word) (offset next : Word), s.devices = [] → s.Inv →
    ((∃ p, a = .faultOne fi p ∧ parameters = [p])
      ∨ ∃ p, a = .faultTwo fi p ∧ parameters = [lowHalf p, highHalf p]) →
    s.savable → 8 ≤ s.savedPC.toNat → s.canWriteAll [faultQueue fi, faultCondition fi] →
    indexField (s.wordAt (faultQueue fi)) = 0 → indexField (s.wordAt (faultCondition fi)) = 0 →
    s.hasStateVector offset next 18 →
    (s.wdc = 0 → s.soleProcess →
      ∃ t, deliver a s = .next t ∧ t.running = false ∧ indexField (t.wordAt readyQueue) = 0
        ∧ indexField (t.wordAt (faultQueue fi)) = s.psb ∧ (t.wordAt (faultCondition fi)).getLsbD wakeupBit = true
        ∧ s.preemptedTo t offset next s.savedPC s.savedSP
        ∧ ∀ k, k < parameters.length →
          t.wordAt (pdaAddress (offset + 16 + BitVec.ofNat 16 k)) = parameters.getD k 0)
    ∧ (∀ (q : BitVec 10) (mds frame gf : Word) (cb : LongWord) (pc : Word), s.xts.getLsbD 0 = false →
      s.holdsQueue readyQueue [s.psb, q] ∨ s.holdsQueue readyQueue [q, s.psb] →
      (s.stored (s.lengthen (s.lf - 1)) s.savedPC).startable q false mds frame gf cb pc →
      (s.priorityOf q = s.priorityOf s.psb → next ≠ 0) →
      ∃ t, deliver a s = .next t ∧ t.started q mds frame gf cb pc ∧ t.holdsQueue readyQueue [q]
        ∧ t.holdsQueue (faultQueue fi) [s.psb] ∧ (t.wordAt (faultCondition fi)).getLsbD wakeupBit = true
        ∧ s.preemptedTo t offset next s.savedPC s.savedSP ∧ t.sp = 0 ∧ t.wdc = s.wdc
        ∧ ∀ k, k < parameters.length →
          t.wordAt (pdaAddress (offset + 16 + BitVec.ofNat 16 k)) = parameters.getD k 0)

/-- Monitors and conditions (48_process_instructions.md R690 to R697, R703, R704, R720, 60_exceptions.md R781). Where no other
process is concerned: `ME` locks an unlocked monitor and pushes TRUE, `MX` unlocks it, `MW` gives the monitor up and goes on at
once where a wakeup waits or the process is to be aborted, `MR` locks it again and forgets the process's cleanup link, or takes
`ProcessTrap` where the process is to be aborted, and `NC` and `BC` find nothing to wake, a condition whose one waiter has
timed out included. Where a process of higher priority waits: `NC` and `BC` of its condition, and `MX` of its monitor, where it
finds FALSE on its stack, start it before the current process. Whatever the queues hold, `WakeHead` moves the first process of
a condition to the ready queue, in the order of priorities, and `CleanupCondition` makes the header of a condition whose tail
has timed out name the process that ends the ring. It is stated where no device acts meanwhile (decision D9, log entry 7). -/
def Obligations.MonitorsAndConditions : Prop :=
  ∀ (s : State) (m c : LongWord), s.devices = [] → s.Inv → s.canWriteAll [m, c] → m ≠ c →
    psbFlags s.psb ≠ m → psbFlags s.psb ≠ c →
    (s.sp.val = 2 → s.topLong 0 = m →
      ((s.wordAt m).getLsbD lockedBit = false →
        exec .me s = .next ((((s.dropped 2).loaded m).stored m (withBit (s.wordAt m) lockedBit true)).pushed 1))
      ∧ ((s.wordAt m).getLsbD lockedBit = true → indexField (s.wordAt m) = 0 →
        exec .mx s = .next (((s.dropped 2).loaded m).stored m (withBit (s.wordAt m) lockedBit false)))
      ∧ (indexField (s.wordAt m) = 0 → ∀ i ∈ ([.nc, .bc] : List Instr), exec i s = .next ((s.dropped 2).loaded m)))
    ∧ (s.sp.val = 5 → s.topLong 1 = c → s.topLong 3 = m → (s.wordAt m).getLsbD lockedBit = true →
      indexField (s.wordAt m) = 0 → indexField (s.wordAt c) = 0 → s.canRead (psbFlags s.psb) = true →
      ((s.wordAt (psbFlags s.psb)).getLsbD abortBit && (s.wordAt c).getLsbD abortableBit) = true →
        ∃ t, exec .mw s = .next t ∧ t.sp = 0 ∧ s.sameContext t ∧ s.sameProcess t
          ∧ s.memoryAfter t [(m, withBit (s.wordAt m) lockedBit false)])
    ∧ (s.sp.val = 5 → s.topLong 1 = c → s.topLong 3 = m → (s.wordAt m).getLsbD lockedBit = true →
      indexField (s.wordAt m) = 0 → indexField (s.wordAt c) = 0 → s.canRead (psbFlags s.psb) = true →
      ((s.wordAt (psbFlags s.psb)).getLsbD abortBit && (s.wordAt c).getLsbD abortableBit) = false →
      (s.wordAt c).getLsbD wakeupBit = true →
        ∃ t, exec .mw s = .next t ∧ t.sp = 0 ∧ s.sameContext t ∧ s.sameProcess t
          ∧ s.memoryAfter t [(m, withBit (s.wordAt m) lockedBit false), (c, withBit (s.wordAt c) wakeupBit false)])
    ∧ (s.sp.val = 4 → s.topLong 0 = c → s.topLong 2 = m → (s.wordAt m).getLsbD lockedBit = false →
      indexField (s.wordAt c) = 0 → s.canWrite (psbFlags s.psb) = true →
      (s.wordAt (psbFlags s.psb)).getLsbD abortBit = false →
        ∃ t, exec .mr s = .next t ∧ t.sp.val = 1 ∧ t.slot 0 = 1 ∧ s.sameContext t ∧ s.sameProcess t
          ∧ s.memoryAfter t [(psbFlags s.psb, withIndex (s.wordAt (psbFlags s.psb)) 0),
            (m, withBit (s.wordAt m) lockedBit true)])
    ∧ (s.sp.val = 4 → s.topLong 0 = c → s.topLong 2 = m → (s.wordAt m).getLsbD lockedBit = false →
      indexField (s.wordAt c) = 0 → s.canWrite (psbFlags s.psb) = true →
      (s.wordAt (psbFlags s.psb)).getLsbD abortBit = true → (s.wordAt c).getLsbD abortableBit = true →
        ∃ t, exec .mr s = deliver processTrap t ∧ t.sp = 0 ∧ t.stack = s.stack ∧ s.sameContext t ∧ s.sameProcess t
          ∧ s.memoryAfter t [(psbFlags s.psb, withIndex (s.wordAt (psbFlags s.psb)) 0)])
    ∧ (∀ b, s.sp.val = 2 → s.topLong 0 = c → b = indexField (s.wordAt c) → b ≠ 0 → s.canRead (psbFlags b) = true →
      indexField (s.wordAt (psbFlags b)) = b → ∀ i ∈ ([.nc, .bc] : List Instr),
        ∃ t, exec i s = .next t ∧ t.sp = 0 ∧ t.stack = s.stack ∧ s.sameContext t ∧ s.sameProcess t
          ∧ s.memoryAfter t [(c, withIndex (withBit (s.wordAt c) wakeupBit false) 0)])
    ∧ (∀ b a l, b = indexField (s.wordAt c) → b ≠ 0 → a ≠ b → s.canReadAll [psbFlags b, psbFlags a] →
      indexField (s.wordAt (psbFlags b)) = a → indexField (s.wordAt (psbFlags a)) = 0 → s.ring (a :: l) →
        ∃ t, cleanupCondition c s = .ok () t ∧ t.sp = s.sp ∧ t.stack = s.stack ∧ s.sameContext t ∧ s.sameProcess t
          ∧ s.memoryAfter t [(c, withIndex (s.wordAt c) ((a :: l).getLastD 0))])
    ∧ (∀ h l ready, s.outside c → s.holdsQueue c (h :: l) → s.holdsQueue readyQueue ready → (∀ q ∈ h :: l, q ∉ ready) →
      ready.Pairwise (fun p q => s.priorityOf q ≤ s.priorityOf p) → s.canWriteAll [psbFlags h, psbTimeout h] →
        ∃ t, wakeHead c s = .ok () t ∧ t.holdsQueue c l
          ∧ t.holdsQueue readyQueue (ready.takeWhile (fun q => s.priorityOf h ≤ s.priorityOf q)
            ++ h :: ready.dropWhile (fun q => s.priorityOf h ≤ s.priorityOf q))
          ∧ t.wordAt (psbTimeout h) = 0 ∧ t.wordAt (psbFlags h) = withBit (s.wordAt (psbFlags h)) waitingBit false
          ∧ t.sp = s.sp ∧ t.stack = s.stack ∧ s.sameContext t ∧ s.sameProcess t)
    ∧ (∀ (p : BitVec 10) (mds frame gf : Word) (cb : LongWord) (pc : Word), s.soleProcess → s.xts.getLsbD 0 = false →
      s.sp.val = 2 → p ≠ s.psb → s.priorityOf s.psb < s.priorityOf p →
      (s.topLong 0 = c → s.outside c → highHalf c ≠ mds → s.aloneIn c p →
        (s.stored (s.lengthen (s.lf - 1)) s.pc).startable p false mds frame gf cb pc →
        ∀ i ∈ ([.nc, .bc] : List Instr),
          ∃ t, exec i s = .next t ∧ t.started p mds frame gf cb pc ∧ t.sp = 0 ∧ t.holdsQueue readyQueue [p, s.psb]
            ∧ indexField (t.wordAt c) = 0 ∧ (t.wordAt (psbFlags p)).getLsbD waitingBit = false
            ∧ t.wordAt (psbTimeout p) = 0 ∧ t.wordAt (psbContext s.psb) = s.lf
            ∧ (t.wordAt (psbLink s.psb)).getLsbD preemptedBit = false ∧ t.wordAt (s.lengthen (s.lf - 1)) = s.pc)
      ∧ (s.topLong 0 = m → s.outside m → highHalf m ≠ mds → s.aloneIn m p → (s.wordAt m).getLsbD lockedBit = true →
        (s.stored (s.lengthen (s.lf - 1)) s.pc).startable p true mds frame gf cb pc →
          ∃ t, exec .mx s = .next t ∧ t.started p mds frame gf cb pc ∧ t.sp.val = 1 ∧ t.slot 0 = 0
            ∧ t.holdsQueue readyQueue [p, s.psb] ∧ t.wordAt m = withIndex (withBit (s.wordAt m) lockedBit false) 0
            ∧ (t.wordAt (psbLink p)).getLsbD failedBit = false ∧ t.wordAt (psbContext s.psb) = s.lf
            ∧ (t.wordAt (psbLink s.psb)).getLsbD preemptedBit = false ∧ t.wordAt (s.lengthen (s.lf - 1)) = s.pc))

/-- The instructions that take the only ready process away stop the processor until an event: `REQ` to another queue, `MW` on a
condition without a wakeup, with the waiting bit and the timeout set, and `ME` or `MR` of a locked monitor, with the failed bit
set (48_process_instructions.md R690, R691, R693, R694, R698, R700 to R702, R720, R722). That `REQ` takes any handle by ten
bits of it, an ill-formed one too, is the MODEL's treatment of R674 (U9, log entry 26). It is stated where no device acts
meanwhile (decision D9, log entry 7). -/
def Obligations.BlockedProcessStopsProcessor : Prop :=
  ∀ (s : State) (m c : LongWord), s.devices = [] → s.Inv → s.wdc = 0 → s.soleProcess → s.outside m → s.outside c → m ≠ c →
    (s.sp.val = 5 → psbIndex (s.top 0) = s.psb → s.topLong 1 = c → s.topLong 3 = readyQueue →
      indexField (s.wordAt c) = 0 → ∃ t, exec .req s = .next t ∧ s.parked t c)
    ∧ (s.sp.val = 5 → s.topLong 1 = c → s.topLong 3 = m → (s.wordAt m).getLsbD lockedBit = true →
      indexField (s.wordAt m) = 0 → indexField (s.wordAt c) = 0 → (s.wordAt c).getLsbD wakeupBit = false →
      ((s.wordAt (psbFlags s.psb)).getLsbD abortBit && (s.wordAt c).getLsbD abortableBit) = false →
      ∃ t, exec .mw s = .next t ∧ s.parked t c ∧ (t.wordAt m).getLsbD lockedBit = false
        ∧ (t.wordAt (psbFlags s.psb)).getLsbD waitingBit = true
        ∧ t.wordAt (psbTimeout s.psb) = waitTimeout s.ptc (s.top 0))
    ∧ (s.sp.val = 2 → s.topLong 0 = m → (s.wordAt m).getLsbD lockedBit = true → indexField (s.wordAt m) = 0 →
      ∃ t, exec .me s = .next t ∧ s.parked t m ∧ (t.wordAt (psbLink s.psb)).getLsbD failedBit = true)
    ∧ (s.sp.val = 4 → s.topLong 2 = m → (s.wordAt m).getLsbD lockedBit = true → indexField (s.wordAt m) = 0 →
      ∃ t, exec .mr s = .next t ∧ s.parked t m ∧ (t.wordAt (psbLink s.psb)).getLsbD failedBit = true)

/-- `SPP` gives the current process the popped priority and requeues it; where it is the only ready process, and a state vector
of the new priority is free, it goes on where it was (48_process_instructions.md R699, R700, R720 to R723); that an operand
above 7 counts by its low three bits is the MODEL's treatment of R699 (U20, log entry 26). `Requeue`, which it uses, takes a
process out of one queue and puts it into another behind every process of its priority or a higher one, whatever the queues
hold: the order of the others stays, and nothing changes but the index fields of the two headers and of the links
(48_process_instructions.md R700 to R702). It is stated where no device acts meanwhile (decision D9, log entry 7). -/
def Obligations.SetPriorityGoesOn : Prop :=
  (∀ (s : State) (pri : BitVec 3) (gf : Word) (cb : LongWord), s.devices = [] → s.Inv → s.soleProcess → s.sp.val = 1 →
    s.xts.getLsbD 0 = false → pri = (s.top 0).extractLsb' 0 3 → s.canReadAll [stateList pri, psbMds s.psb] →
    s.wordAt (stateList pri) ≠ 0 → s.wordAt (psbMds s.psb) = s.mds →
    (s.wordAt (psbLink s.psb)).getLsbD failedBit = false →
    (s.stored (s.lengthen (s.lf - 1)) s.pc).hasFrame s.lf gf cb s.pc →
    ∃ t, exec .spp s = .next t ∧ linkPriority (t.wordAt (psbLink s.psb)) = pri ∧ t.psb = s.psb ∧ t.mds = s.mds
      ∧ t.lf = s.lf ∧ t.gf = gf ∧ t.cb = cb ∧ t.pc = s.pc ∧ t.sp = 0 ∧ t.running = true ∧ t.wdc = s.wdc
      ∧ indexField (t.wordAt readyQueue) = s.psb)
  ∧ ∀ (s : State) (src dst : LongWord) (psb : BitVec 10) (l m : List (BitVec 10)), s.devices = [] → s.Inv → src ≠ 0 →
    (∀ q : BitVec 10, 8 ≤ q.toNat → psbLink q ≠ src ∧ psbLink q ≠ dst) → s.holdsQueue src l → psb ∈ l →
    (src = dst ∧ m = l.erase psb ∨ src ≠ dst ∧ s.holdsQueue dst m ∧ ∀ q ∈ l, q ∉ m) →
    m.Pairwise (fun p q => s.priorityOf q ≤ s.priorityOf p) →
    ∃ t, requeue src dst psb s = .ok () t ∧ (src ≠ dst → t.holdsQueue src (l.erase psb))
      ∧ t.holdsQueue dst (m.takeWhile (fun q => s.priorityOf psb ≤ s.priorityOf q)
        ++ psb :: m.dropWhile (fun q => s.priorityOf psb ≤ s.priorityOf q))
      ∧ t.sp = s.sp ∧ t.stack = s.stack ∧ s.sameContext t ∧ s.sameProcess t ∧ s.sameTranslation t
      ∧ (∀ va ∈ [src, dst] ++ (l ++ m).map psbLink, t.wordAt va &&& 0xE007 = s.wordAt va &&& 0xE007)
      ∧ ∀ key, (∀ va ∈ [src, dst] ++ (l ++ m).map psbLink, key / 2 ≠ s.realAddress va) → t.byteAt key = s.byteAt key

/-- `DI` and `EI` count `WDC` up and down, and raise `InterruptError` where it is at its limit; nothing else changes
(48_process_instructions.md R730, R731). -/
def Obligations.InterruptDisabling : Prop :=
  ∀ s : State,
    (s.wdc ≠ Config.wdcMax → exec .di s = .next { s with wdc := s.wdc + 1 })
    ∧ (s.wdc = Config.wdcMax → exec .di s = deliver interruptError s)
    ∧ (s.wdc ≠ 0 → exec .ei s = .next { s with wdc := s.wdc - 1 })
    ∧ (s.wdc = 0 → exec .ei s = deliver interruptError s)

/-- The map instructions: `SM` sets an entry, ignoring the real page of a vacant one and a page out of bounds; `GMF` and `SMF`
push the flags and the real page, which is a free value where the entry is vacant, and `SMF` gives a mapped page new flags. The
devices have their turn before the operation, which has none inside it (40_map_register_instructions.md R201 to R203,
20_memory.md R107, R108, R112; the refusal of a real page that does not exist or is taken is the treatment of U8 and U3, log
entry 23). -/
def Obligations.MapInstructions : Prop :=
  ∀ (r s : State) (e : MapEntry), r.afterDevices = s →
    (5 ≤ s.sp.val → e = entryOfFlags (s.top 0) ((s.topLong 1).setWidth 24) →
      ((s.topLong 3).toNat < Config.vmPages → e.vacant = true →
        exec .sm r = .next ((s.dropped 5).writeMap (s.topLong 3).toNat e))
      ∧ ((s.topLong 3).toNat < Config.vmPages → e.vacant = false → (s.topLong 1).toNat < Config.realPages →
        s.realPageTaken (s.topLong 3).toNat e.real = false →
        exec .sm r = .next ((s.dropped 5).writeMap (s.topLong 3).toNat e))
      ∧ (Config.vmPages ≤ (s.topLong 3).toNat → exec .sm r = .next (s.dropped 5)))
    ∧ (2 ≤ s.sp.val → s.sp.val < 14 → e = s.readMap (s.topLong 0).toNat →
      (e.vacant = false →
        exec .gmf r = .next (((s.dropped 2).pushed e.flagsWord).pushedLong (e.real.setWidth 32)))
      ∧ (e.vacant = true → exec .gmf r = .next (State.pushedLong { (s.dropped 2).pushed e.flagsWord with draw := s.draw + 1 }
        ((Config.vacantRealPage s.draw).setWidth 32))))
    ∧ (3 ≤ s.sp.val → e = s.readMap (s.topLong 1).toNat →
      (e.vacant = false →
        exec .smf r = .next ((((s.dropped 3).pushed e.flagsWord).pushedLong (e.real.setWidth 32)).writeMap
          (s.topLong 1).toNat (entryOfFlags (s.top 0) e.real)))
      ∧ (e.vacant = true → exec .smf r = .next (State.pushedLong { (s.dropped 3).pushed e.flagsWord with draw := s.draw + 1 }
        ((Config.vacantRealPage s.draw).setWidth 32))))

/-- The register instructions read and write the registers they name and nothing else; a read of `IT` or `WP`, and `WRPTC`,
which copies `IT` to `time`, first bring the register up to date by a free value (40_map_register_instructions.md R214 to
R231, 10_state.md R64, 60_exceptions.md R800). The MODEL's choices are the free values (log entries 5 and 6) and that `WRPSB`
keeps ten bits of any handle, where R225 is silent (U9, log entry 26). -/
def Obligations.RegisterInstructions : Prop :=
  ∀ s : State,
    (s.sp.val < 14 →
      (∀ p ∈ ([(.rrmds, s.mds), (.rrpsb, psbHandle s.psb), (.rrptc, s.ptc), (.rrwdc, s.wdc), (.rrxts, s.xts)]
        : List (Instr × Word)), exec p.1 s = .next (s.pushed p.2))
      ∧ exec .rrwp s = .next (State.pushed { s with wp := s.wp ||| Config.wakeups s.draw, draw := s.draw + 1 }
        (s.wp ||| Config.wakeups s.draw)))
    ∧ (s.sp.val < 13 →
      exec .rrit s = .next (State.pushedLong { s with it := s.it + Config.pulses s.draw, draw := s.draw + 1 }
        (s.it + Config.pulses s.draw)))
    ∧ (1 ≤ s.sp.val →
      exec .wrmds s = .next { s.dropped 1 with mds := s.top 0 }
      ∧ exec .wrpsb s = .next { s.dropped 1 with psb := psbIndex (s.top 0) }
      ∧ exec .wrmp s = .next { s.dropped 1 with mp := s.top 0 }
      ∧ exec .wrwdc s = .next { s.dropped 1 with wdc := s.top 0 }
      ∧ exec .wrwp s = .next { s.dropped 1 with wp := s.top 0 }
      ∧ exec .wrxts s = .next { s.dropped 1 with xts := s.top 0 }
      ∧ exec .wrptc s = .next { s.dropped 1 with
          ptc := s.top 0, it := s.it + Config.pulses s.draw, time := s.it + Config.pulses s.draw, draw := s.draw + 1 })
    ∧ (2 ≤ s.sp.val → exec .writ s = .next { s.dropped 2 with it := s.topLong 0 })

/-- `LP` lengthens a pointer by `MDS` and leaves zero zero; the overhead instructions load and store an overhead word of a
frame (40_map_register_instructions.md R204 to R206). That an index that is not 1 to 4 is refused is the MODEL's choice: there
the program breaks its duty and the result is undefined (00_scope.md R9, decision D4, log entry 28). The accesses are stated
where no device acts before them (decision D9, log entry 7). -/
def Obligations.LengthenAndOverhead : Prop :=
  ∀ (alpha : Byte) (s : State) (va : LongWord), va = s.lengthen (s.top 0 - zextByte alpha) →
    (1 ≤ s.sp.val → s.sp.val < 14 →
      exec .lp s = .next ((s.dropped 1).pushedLong (if s.top 0 = 0 then 0 else s.lengthen (s.top 0))))
    ∧ (s.devices = [] → 1 ≤ alpha.toNat → alpha.toNat ≤ 4 →
      (1 ≤ s.sp.val → s.canRead va = true →
        exec (.rob alpha) s = .next (((s.dropped 1).loaded va).pushed (s.wordAt va)))
      ∧ (2 ≤ s.sp.val → s.canWrite va = true → exec (.wob alpha) s = .next ((s.stored va (s.top 1)).dropped 2)))
    ∧ (alpha.toNat = 0 ∨ 4 < alpha.toNat → 1 ≤ s.sp.val →
      exec (.rob alpha) s = .refused (.overheadIndex alpha) ∧ exec (.wob alpha) s = .refused (.overheadIndex alpha))

/-- `BITBLT` with a legal argument record, interrupts disabled and every word it touches accessible runs to its end: it pops
its argument, changes no other register, and changes memory only in words of the destination rectangle; a transfer of one bit
stores the combination of that bit with the source bit (46_bitblt_txtblt.md R551, R554, R557, R561 to R564). It is stated where
no device acts meanwhile (decision D9, log entry 7). -/
def Obligations.BitBlockTransfer : Prop :=
  ∀ (s : State) (ptr : Word) (a : BitBltArg) (dst src : Nat → Nat → BitAddress), s.devices = [] →
    s.mapCanonical = true → s.wdc ≠ 0 →
    s.sp.val = 1 → ptr = s.top 0 → ptr &&& 15 = 0 →
    (∀ k : Nat, k < 12 → s.canRead (s.lengthen (ptr + BitVec.ofNat 16 k)) = true) →
    a = bitBltArgOfWords ((List.range 12).map fun k => s.wordAt (s.lengthen (ptr + BitVec.ofNat 16 k))) →
    a.legal = true → (a.gray = true → a.grayOffset.toNat ≤ a.grayHeight.toNat) →
    (∀ n k, dst n k = ((bitBltStart a).advanceBy n).arg.dst.bump (BitVec.ofNat 32 k)) →
    (∀ n k, src n k = ((bitBltStart a).advanceBy n).arg.src.bump (BitVec.signExtend 32
      (if a.gray then ((BitVec.ofNat 16 k + zextNibble ((bitBltStart a).advanceBy n).arg.src.bit) &&& 15)
        - zextNibble ((bitBltStart a).advanceBy n).arg.src.bit else BitVec.ofNat 16 k))) →
    (∀ n k, n < a.height.toNat → k < a.width.toNat →
      s.canWrite (dst n k).word = true ∧ s.canRead (src n k).word = true) →
    ∃ t, exec .bitblt s = .next t ∧ t.sp = 0 ∧ t.stack = s.stack ∧ s.sameContext t ∧ s.sameProcess t
      ∧ s.sameTranslation t
      ∧ (∀ key, (∀ n k, n < a.height.toNat → k < a.width.toNat → key / 2 ≠ s.realAddress (dst n k).word) →
        t.byteAt key = s.byteAt key)
      ∧ (a.width = 1 → a.height = 1 → a.gray = false →
        t.mem = writeReal s.mem (s.realAddress a.dst.word) (writeField (s.wordAt a.dst.word) a.dst.bit 0
          (booleanWord (a.combine ((readField (s.wordAt a.dst.word) a.dst.bit 0).getLsbD 0)
            ((readField (s.wordAt a.src.word) a.src.bit 0).getLsbD 0)))))

/-- `TXTBLT` leaves its updated arguments and a result on the stack: 0 when the index is past the last character, 2 at a stop
character; where it formats, one character that fits advances the index and the positions by its widths (46_bitblt_txtblt.md
R570, R572, R573, R575, R576, R579; the font's layout is decision D18, log entry 21). It is stated where no device acts
meanwhile (decision D9, log entry 7). -/
def Obligations.TextBlockTransfer : Prop :=
  ∀ (s : State) (ptr : Word) (a : TxtBltArg) (c flags : Byte) (widths printWidths flagsAt : LongWord), s.devices = [] →
    s.mapCanonical = true → s.wdc ≠ 0 → s.sp.val = 5 → ptr = s.top 0 → ptr &&& 15 = 0 →
    (∀ k : Nat, k < 13 → s.canRead (s.lengthen (ptr + BitVec.ofNat 16 k)) = true) →
    a = txtBltArgOfWords ((List.range 13).map fun k => s.wordAt (s.lengthen (ptr + BitVec.ofNat 16 k))) →
    a.legal = true → widths = s.longAt (a.font + 2) → printWidths = s.longAt (a.font + 4) →
    flagsAt = s.longAt (a.font + 6) → c = s.byteOf a.text (zextLong (s.slot 0)) →
    flags = s.byteOf flagsAt (zextByteLong c) →
    ((a.last.toNat < (s.slot 0).toNat →
      ∃ t, exec .txtblt s = .next t ∧ t.sp.val = 5 ∧ (∀ k, k < 4 → t.slot k = s.slot k) ∧ t.slot 4 = 0
        ∧ s.sameContext t ∧ s.sameProcess t ∧ s.memoryAfter t [])
    ∧ ((s.slot 0).toNat ≤ a.last.toNat → a.function = 1 →
      s.canReadAll [a.font + 2, a.font + 2 + 1, a.font + 4, a.font + 4 + 1, a.font + 6, a.font + 6 + 1,
        a.text + zextLong (s.slot 0) >>> 1, flagsAt + zextByteLong c >>> 1, printWidths + zextByteLong c,
        widths + zextByteLong c >>> 1] →
      (flags.getLsbD 6 = true →
        ∃ t, exec .txtblt s = .next t ∧ t.sp.val = 5 ∧ (∀ k, k < 4 → t.slot k = s.slot k) ∧ t.slot 4 = 2
          ∧ s.sameContext t ∧ s.sameProcess t ∧ s.memoryAfter t [])
      ∧ (flags.getLsbD 6 = false →
        (s.slot 2 + s.wordAt (printWidths + zextByteLong c)).toNat ≤ a.margin.toNat → a.last = s.slot 0 →
        a.last ≠ 0xFFFF →
        ∃ t, exec .txtblt s = .next t ∧ t.sp.val = 5 ∧ t.slot 0 = s.slot 0 + 1
          ∧ t.slot 1 = s.slot 1 + zextByte (s.byteOf widths (zextByteLong c))
          ∧ t.slot 2 = s.slot 2 + s.wordAt (printWidths + zextByteLong c)
          ∧ t.slot 3 = (if flags.getLsbD 7 then s.slot 3 + 1 else s.slot 3) ∧ t.slot 4 = 0
          ∧ s.sameContext t ∧ s.sameProcess t ∧ s.memoryAfter t [])))

/-- The first step after reset is the boot transfer: through the indirect link at 0x202 it calls the procedure, or enters the
frame, whose link stands there, with no return link, leaves the two links above the stack, and leaves the machine booted
(70_reset_and_hazards.md R830, R832, 30_encoding.md R170, 47_control_transfers.md R610, R613). That the transfer is one step,
recorded in the field `booted`, is the MODEL's choice, log entry 10; a link that is itself indirect is not stated here. It is
stated where no device acts meanwhile (decision D9, log entry 7). -/
def Obligations.BootTransferCallsProcedure : Prop :=
  ∀ (r s : State) (link : LongWord) (gf frame : Word) (cb : LongWord), r.afterDevices = s → s.devices = [] →
    s.mapCanonical = true →
    s.booted = false → s.xts.getLsbD 0 = false → s.sp.val < 13 →
    s.canReadAll [s.lengthen 0x202, s.lengthen 0x202 + 1] → s.longAt (s.lengthen 0x202) = link →
    (∀ slot next, link.getLsbD 0 = true → gf = lowHalf link &&& 0xFFFE → s.hasModule gf cb →
      s.hasBody cb (highHalf link) slot frame next →
      ∃ t, step r = .next t ∧ t.booted = true ∧ t.lf = frame ∧ t.gf = gf ∧ t.cb = cb ∧ t.pc = highHalf link + 1
        ∧ t.stack = (s.stack.setIfInBounds s.sp.val 0x202).setIfInBounds (s.sp.val + 1) 0
        ∧ t.sp = s.sp ∧ t.wdc = s.wdc ∧ t.running = s.running
        ∧ s.memoryAfter t [(s.lengthen slot, next), (s.lengthen (frame - 2), gf), (s.lengthen (frame - 3), 0)])
    ∧ (∀ pc, lowHalf link = frame → s.hasFrame frame gf cb pc →
      ∃ t, step r = .next t ∧ t.booted = true ∧ t.lf = frame ∧ t.gf = gf ∧ t.cb = cb ∧ t.pc = pc
        ∧ t.stack = (s.stack.setIfInBounds s.sp.val 0x202).setIfInBounds (s.sp.val + 1) 0
        ∧ t.sp = s.sp ∧ t.wdc = s.wdc ∧ t.running = s.running ∧ s.memoryAfter t [])
end

