-- ==== Sys2Proof/Laws/Monad.lean ====
section
/-!
SUPPORT. How routines compose: the laws of `M`, so that no proof unfolds its bind.
-/
namespace Sys2Proof.Machine

@[simp] theorem pure_run {α : Type} (a : α) (s : State) : (pure a : M α) s = .ok a s := rfl

theorem bind_run {α β : Type} (m : M α) (f : α → M β) (s : State) :
    (m >>= f) s = match m s with
      | .ok a s' => f a s'
      | .error e s' => .error e s' := by
  show EStateM.bind m f s = _
  unfold EStateM.bind
  cases m s <;> rfl

/-- A routine that has ended with a value hands over to the rest. -/
theorem bind_ok {α β : Type} {m : M α} {f : α → M β} {s s' : State} {a : α} (h : m s = .ok a s') :
    (m >>= f) s = f a s' := by
  rw [bind_run, h]

/-- A routine that was aborted aborts the whole. -/
theorem bind_error {α β : Type} {m : M α} {f : α → M β} {s s' : State} {e : Abort} (h : m s = .error e s') :
    (m >>= f) s = .error e s' := by
  rw [bind_run, h]

/-- A sequence ends with a value exactly when both parts do. -/
theorem bind_eq_ok {α β : Type} {m : M α} {f : α → M β} {s t : State} {b : β} :
    (m >>= f) s = .ok b t ↔ ∃ a s', m s = .ok a s' ∧ f a s' = .ok b t := by
  rw [bind_run]
  constructor
  · intro h
    split at h
    · exact ⟨_, _, by assumption, h⟩
    · cases h
  · rintro ⟨a, s', h1, h2⟩
    rw [h1]
    exact h2

@[simp] theorem getState_run (s : State) : getState s = .ok s s := rfl

@[simp] theorem update_run (f : State → State) (s : State) : update f s = .ok () (f s) := rfl

@[simp] theorem raise_run {α : Type} (a : Abort) (s : State) : (raise a : M α) s = .error a s := rfl

@[simp] theorem refuse_run {α : Type} (r : Refusal) (s : State) : (refuse r : M α) s = .error (.refuse r) s := rfl

theorem getState_bind {β : Type} (f : State → M β) (s : State) : (getState >>= f) s = f s s :=
  bind_ok (getState_run s)

theorem update_bind {β : Type} (g : State → State) (f : Unit → M β) (s : State) :
    (update g >>= f) s = f () (g s) :=
  bind_ok (update_run g s)

/-- `noAbort` changes nothing of a routine that ends with a value. -/
theorem noAbort_ok {α : Type} {r : Refusal} {m : M α} {s s' : State} {a : α} (h : m s = .ok a s') :
    noAbort r m s = .ok a s' := by
  simp [noAbort, h]

/-- Everything `noAbort` can do: end as the routine does, or stop the model. -/
theorem noAbort_cases {α : Type} (r : Refusal) (m : M α) (s : State) :
    (∃ a s', m s = .ok a s' ∧ noAbort r m s = .ok a s')
      ∨ (∃ f s', noAbort r m s = .error (.stuck f) s') ∨ ∃ r' s', noAbort r m s = .error (.refuse r') s' := by
  unfold noAbort
  cases m s with
  | ok a s' => exact .inl ⟨a, s', rfl, rfl⟩
  | error a s' => cases a <;> simp

/-- An instruction whose routine ends with a value answers the state it ends in. -/
theorem run_ok {m : M Unit} {s s' : State} (h : m s = .ok () s') : run m s = .next s' := by
  unfold run
  rw [h]

/-- An instruction whose routine is aborted answers what the taking of the exception does. -/
theorem run_error {m : M Unit} {s s' : State} {a : Abort} (h : m s = .error a s') : run m s = deliver a s' := by
  unfold run
  rw [h]

/-- A refusal of the model is the answer. -/
theorem deliver_refuse (r : Refusal) (s : State) : deliver (.refuse r) s = .refused r := rfl

/-- A stuck machine is the answer. -/
theorem deliver_stuck (f : Fault) (s : State) : deliver (.stuck f) s = .fault f := rfl

/-- A trap whose taking ends with a value: the handler is about to run. -/
theorem deliver_trap {a : Abort} {s s' : State} (h : a.isTrap = true) (h' : takeTrap a s = .ok () s') :
    deliver a s = .next s' := by
  unfold deliver settle settleTraps
  rw [if_pos h, h']

/-- A fault whose taking ends with a value. -/
theorem deliver_fault {a : Abort} {s s' : State} (h : takeFault a s = .ok () s') : deliver a s = .next s' := by
  cases a with
  | trapZero _ => simp [takeFault] at h
  | trapOne _ _ => simp [takeFault] at h
  | trapTwo _ _ => simp [takeFault] at h
  | xferTrap _ _ => simp [takeFault] at h
  | faultOne _ _ => simp [deliver, settle, settleTraps, Abort.isTrap, h]
  | faultTwo _ _ => simp [deliver, settle, settleTraps, Abort.isTrap, h]
  | stuck _ => simp [takeFault] at h
  | refuse _ => simp [takeFault] at h

/-! ### A property that routines keep -/

/-- The routine keeps `P`, whether it ends with a value or is aborted. -/
def Keeps {α : Type} (P : State → Prop) (m : M α) : Prop :=
  ∀ s, P s → match m s with
    | .ok _ s' => P s'
    | .error _ s' => P s'

theorem keeps_pure {α : Type} (P : State → Prop) (a : α) : Keeps P (pure a : M α) := fun _ h => h

theorem keeps_getState (P : State → Prop) : Keeps P getState := fun _ h => h

theorem keeps_raise {α : Type} (P : State → Prop) (a : Abort) : Keeps P (raise a : M α) := fun _ h => h

theorem keeps_update {P : State → Prop} {f : State → State} (h : ∀ s, P s → P (f s)) : Keeps P (update f) := h

theorem keeps_bind {α β : Type} {P : State → Prop} {m : M α} {f : α → M β} (hm : Keeps P m)
    (hf : ∀ a, Keeps P (f a)) : Keeps P (m >>= f) := by
  intro s hs
  rw [bind_run]
  have h := hm s hs
  revert h
  cases m s with
  | ok a s' => exact fun h => hf a s' h
  | error e s' => exact fun h => h

theorem keeps_noAbort {α : Type} {P : State → Prop} {m : M α} (r : Refusal) (hm : Keeps P m) :
    Keeps P (noAbort r m) := by
  intro s hs
  have h := hm s hs
  unfold noAbort
  revert h
  cases m s with
  | ok a s' => exact fun h => h
  | error e s' => cases e <;> exact fun h => h

end Sys2Proof.Machine
end

