-- ==== Sys2Proof/Laws/State.lean ====
section
/-!
SUPPORT. One lemma for each field and each named update of the state.
-/
namespace Sys2Proof.Machine

@[simp] theorem State.dropped_psb (s : State) (n : Nat) : (s.dropped n).psb = s.psb := rfl
@[simp] theorem State.dropped_mds (s : State) (n : Nat) : (s.dropped n).mds = s.mds := rfl
@[simp] theorem State.dropped_lf (s : State) (n : Nat) : (s.dropped n).lf = s.lf := rfl
@[simp] theorem State.dropped_gf (s : State) (n : Nat) : (s.dropped n).gf = s.gf := rfl
@[simp] theorem State.dropped_cb (s : State) (n : Nat) : (s.dropped n).cb = s.cb := rfl
@[simp] theorem State.dropped_pc (s : State) (n : Nat) : (s.dropped n).pc = s.pc := rfl
@[simp] theorem State.dropped_stack (s : State) (n : Nat) : (s.dropped n).stack = s.stack := rfl
@[simp] theorem State.dropped_pid (s : State) (n : Nat) : (s.dropped n).pid = s.pid := rfl
@[simp] theorem State.dropped_mp (s : State) (n : Nat) : (s.dropped n).mp = s.mp := rfl
@[simp] theorem State.dropped_it (s : State) (n : Nat) : (s.dropped n).it = s.it := rfl
@[simp] theorem State.dropped_wm (s : State) (n : Nat) : (s.dropped n).wm = s.wm := rfl
@[simp] theorem State.dropped_wp (s : State) (n : Nat) : (s.dropped n).wp = s.wp := rfl
@[simp] theorem State.dropped_wdc (s : State) (n : Nat) : (s.dropped n).wdc = s.wdc := rfl
@[simp] theorem State.dropped_ptc (s : State) (n : Nat) : (s.dropped n).ptc = s.ptc := rfl
@[simp] theorem State.dropped_xts (s : State) (n : Nat) : (s.dropped n).xts = s.xts := rfl
@[simp] theorem State.dropped_brk (s : State) (n : Nat) : (s.dropped n).brk = s.brk := rfl
@[simp] theorem State.dropped_savedPC (s : State) (n : Nat) : (s.dropped n).savedPC = s.savedPC := rfl
@[simp] theorem State.dropped_savedSP (s : State) (n : Nat) : (s.dropped n).savedSP = s.savedSP := rfl
@[simp] theorem State.dropped_running (s : State) (n : Nat) : (s.dropped n).running = s.running := rfl
@[simp] theorem State.dropped_time (s : State) (n : Nat) : (s.dropped n).time = s.time := rfl
@[simp] theorem State.dropped_map (s : State) (n : Nat) : (s.dropped n).map = s.map := rfl
@[simp] theorem State.dropped_mem (s : State) (n : Nat) : (s.dropped n).mem = s.mem := rfl
@[simp] theorem State.dropped_booted (s : State) (n : Nat) : (s.dropped n).booted = s.booted := rfl
@[simp] theorem State.dropped_draw (s : State) (n : Nat) : (s.dropped n).draw = s.draw := rfl
@[simp] theorem State.dropped_devices (s : State) (n : Nat) : (s.dropped n).devices = s.devices := rfl

@[simp] theorem State.dropped_sp_val (s : State) (n : Nat) : (s.dropped n).sp.val = s.sp.val - n := rfl

@[simp] theorem State.raised_psb (s : State) : (s.raised).psb = s.psb := rfl
@[simp] theorem State.raised_mds (s : State) : (s.raised).mds = s.mds := rfl
@[simp] theorem State.raised_lf (s : State) : (s.raised).lf = s.lf := rfl
@[simp] theorem State.raised_gf (s : State) : (s.raised).gf = s.gf := rfl
@[simp] theorem State.raised_cb (s : State) : (s.raised).cb = s.cb := rfl
@[simp] theorem State.raised_pc (s : State) : (s.raised).pc = s.pc := rfl
@[simp] theorem State.raised_stack (s : State) : (s.raised).stack = s.stack := rfl
@[simp] theorem State.raised_pid (s : State) : (s.raised).pid = s.pid := rfl
@[simp] theorem State.raised_mp (s : State) : (s.raised).mp = s.mp := rfl
@[simp] theorem State.raised_it (s : State) : (s.raised).it = s.it := rfl
@[simp] theorem State.raised_wm (s : State) : (s.raised).wm = s.wm := rfl
@[simp] theorem State.raised_wp (s : State) : (s.raised).wp = s.wp := rfl
@[simp] theorem State.raised_wdc (s : State) : (s.raised).wdc = s.wdc := rfl
@[simp] theorem State.raised_ptc (s : State) : (s.raised).ptc = s.ptc := rfl
@[simp] theorem State.raised_xts (s : State) : (s.raised).xts = s.xts := rfl
@[simp] theorem State.raised_brk (s : State) : (s.raised).brk = s.brk := rfl
@[simp] theorem State.raised_savedPC (s : State) : (s.raised).savedPC = s.savedPC := rfl
@[simp] theorem State.raised_savedSP (s : State) : (s.raised).savedSP = s.savedSP := rfl
@[simp] theorem State.raised_running (s : State) : (s.raised).running = s.running := rfl
@[simp] theorem State.raised_time (s : State) : (s.raised).time = s.time := rfl
@[simp] theorem State.raised_map (s : State) : (s.raised).map = s.map := rfl
@[simp] theorem State.raised_mem (s : State) : (s.raised).mem = s.mem := rfl
@[simp] theorem State.raised_booted (s : State) : (s.raised).booted = s.booted := rfl
@[simp] theorem State.raised_draw (s : State) : (s.raised).draw = s.draw := rfl
@[simp] theorem State.raised_devices (s : State) : (s.raised).devices = s.devices := rfl

@[simp] theorem State.raised_sp_val (s : State) : s.raised.sp.val = min (s.sp.val + 1) 14 := rfl

@[simp] theorem State.pushed_psb (s : State) (v : Word) : (s.pushed v).psb = s.psb := rfl
@[simp] theorem State.pushed_mds (s : State) (v : Word) : (s.pushed v).mds = s.mds := rfl
@[simp] theorem State.pushed_lf (s : State) (v : Word) : (s.pushed v).lf = s.lf := rfl
@[simp] theorem State.pushed_gf (s : State) (v : Word) : (s.pushed v).gf = s.gf := rfl
@[simp] theorem State.pushed_cb (s : State) (v : Word) : (s.pushed v).cb = s.cb := rfl
@[simp] theorem State.pushed_pc (s : State) (v : Word) : (s.pushed v).pc = s.pc := rfl
@[simp] theorem State.pushed_pid (s : State) (v : Word) : (s.pushed v).pid = s.pid := rfl
@[simp] theorem State.pushed_mp (s : State) (v : Word) : (s.pushed v).mp = s.mp := rfl
@[simp] theorem State.pushed_it (s : State) (v : Word) : (s.pushed v).it = s.it := rfl
@[simp] theorem State.pushed_wm (s : State) (v : Word) : (s.pushed v).wm = s.wm := rfl
@[simp] theorem State.pushed_wp (s : State) (v : Word) : (s.pushed v).wp = s.wp := rfl
@[simp] theorem State.pushed_wdc (s : State) (v : Word) : (s.pushed v).wdc = s.wdc := rfl
@[simp] theorem State.pushed_ptc (s : State) (v : Word) : (s.pushed v).ptc = s.ptc := rfl
@[simp] theorem State.pushed_xts (s : State) (v : Word) : (s.pushed v).xts = s.xts := rfl
@[simp] theorem State.pushed_brk (s : State) (v : Word) : (s.pushed v).brk = s.brk := rfl
@[simp] theorem State.pushed_savedPC (s : State) (v : Word) : (s.pushed v).savedPC = s.savedPC := rfl
@[simp] theorem State.pushed_savedSP (s : State) (v : Word) : (s.pushed v).savedSP = s.savedSP := rfl
@[simp] theorem State.pushed_running (s : State) (v : Word) : (s.pushed v).running = s.running := rfl
@[simp] theorem State.pushed_time (s : State) (v : Word) : (s.pushed v).time = s.time := rfl
@[simp] theorem State.pushed_map (s : State) (v : Word) : (s.pushed v).map = s.map := rfl
@[simp] theorem State.pushed_mem (s : State) (v : Word) : (s.pushed v).mem = s.mem := rfl
@[simp] theorem State.pushed_booted (s : State) (v : Word) : (s.pushed v).booted = s.booted := rfl
@[simp] theorem State.pushed_draw (s : State) (v : Word) : (s.pushed v).draw = s.draw := rfl
@[simp] theorem State.pushed_devices (s : State) (v : Word) : (s.pushed v).devices = s.devices := rfl

@[simp] theorem State.pushed_sp_val (s : State) (v : Word) : (s.pushed v).sp.val = min (s.sp.val + 1) 14 := rfl

@[simp] theorem State.pushed_stack (s : State) (v : Word) :
    (s.pushed v).stack = s.stack.setIfInBounds s.sp.val v := rfl

@[simp] theorem State.writeMap_psb (s : State) (vp : Nat) (e : MapEntry) : (s.writeMap vp e).psb = s.psb := by unfold State.writeMap; split <;> rfl
@[simp] theorem State.writeMap_mds (s : State) (vp : Nat) (e : MapEntry) : (s.writeMap vp e).mds = s.mds := by unfold State.writeMap; split <;> rfl
@[simp] theorem State.writeMap_lf (s : State) (vp : Nat) (e : MapEntry) : (s.writeMap vp e).lf = s.lf := by unfold State.writeMap; split <;> rfl
@[simp] theorem State.writeMap_gf (s : State) (vp : Nat) (e : MapEntry) : (s.writeMap vp e).gf = s.gf := by unfold State.writeMap; split <;> rfl
@[simp] theorem State.writeMap_cb (s : State) (vp : Nat) (e : MapEntry) : (s.writeMap vp e).cb = s.cb := by unfold State.writeMap; split <;> rfl
@[simp] theorem State.writeMap_pc (s : State) (vp : Nat) (e : MapEntry) : (s.writeMap vp e).pc = s.pc := by unfold State.writeMap; split <;> rfl
@[simp] theorem State.writeMap_stack (s : State) (vp : Nat) (e : MapEntry) : (s.writeMap vp e).stack = s.stack := by unfold State.writeMap; split <;> rfl
@[simp] theorem State.writeMap_sp (s : State) (vp : Nat) (e : MapEntry) : (s.writeMap vp e).sp = s.sp := by unfold State.writeMap; split <;> rfl
@[simp] theorem State.writeMap_pid (s : State) (vp : Nat) (e : MapEntry) : (s.writeMap vp e).pid = s.pid := by unfold State.writeMap; split <;> rfl
@[simp] theorem State.writeMap_mp (s : State) (vp : Nat) (e : MapEntry) : (s.writeMap vp e).mp = s.mp := by unfold State.writeMap; split <;> rfl
@[simp] theorem State.writeMap_it (s : State) (vp : Nat) (e : MapEntry) : (s.writeMap vp e).it = s.it := by unfold State.writeMap; split <;> rfl
@[simp] theorem State.writeMap_wm (s : State) (vp : Nat) (e : MapEntry) : (s.writeMap vp e).wm = s.wm := by unfold State.writeMap; split <;> rfl
@[simp] theorem State.writeMap_wp (s : State) (vp : Nat) (e : MapEntry) : (s.writeMap vp e).wp = s.wp := by unfold State.writeMap; split <;> rfl
@[simp] theorem State.writeMap_wdc (s : State) (vp : Nat) (e : MapEntry) : (s.writeMap vp e).wdc = s.wdc := by unfold State.writeMap; split <;> rfl
@[simp] theorem State.writeMap_ptc (s : State) (vp : Nat) (e : MapEntry) : (s.writeMap vp e).ptc = s.ptc := by unfold State.writeMap; split <;> rfl
@[simp] theorem State.writeMap_xts (s : State) (vp : Nat) (e : MapEntry) : (s.writeMap vp e).xts = s.xts := by unfold State.writeMap; split <;> rfl
@[simp] theorem State.writeMap_brk (s : State) (vp : Nat) (e : MapEntry) : (s.writeMap vp e).brk = s.brk := by unfold State.writeMap; split <;> rfl
@[simp] theorem State.writeMap_savedPC (s : State) (vp : Nat) (e : MapEntry) : (s.writeMap vp e).savedPC = s.savedPC := by unfold State.writeMap; split <;> rfl
@[simp] theorem State.writeMap_savedSP (s : State) (vp : Nat) (e : MapEntry) : (s.writeMap vp e).savedSP = s.savedSP := by unfold State.writeMap; split <;> rfl
@[simp] theorem State.writeMap_running (s : State) (vp : Nat) (e : MapEntry) : (s.writeMap vp e).running = s.running := by unfold State.writeMap; split <;> rfl
@[simp] theorem State.writeMap_time (s : State) (vp : Nat) (e : MapEntry) : (s.writeMap vp e).time = s.time := by unfold State.writeMap; split <;> rfl
@[simp] theorem State.writeMap_mem (s : State) (vp : Nat) (e : MapEntry) : (s.writeMap vp e).mem = s.mem := by unfold State.writeMap; split <;> rfl
@[simp] theorem State.writeMap_booted (s : State) (vp : Nat) (e : MapEntry) : (s.writeMap vp e).booted = s.booted := by unfold State.writeMap; split <;> rfl
@[simp] theorem State.writeMap_draw (s : State) (vp : Nat) (e : MapEntry) : (s.writeMap vp e).draw = s.draw := by unfold State.writeMap; split <;> rfl
@[simp] theorem State.writeMap_devices (s : State) (vp : Nat) (e : MapEntry) : (s.writeMap vp e).devices = s.devices := by unfold State.writeMap; split <;> rfl

@[simp] theorem State.mark_psb (s : State) (va : LongWord) (op : Access) : (s.mark va op).psb = s.psb := by simp [State.mark]
@[simp] theorem State.mark_mds (s : State) (va : LongWord) (op : Access) : (s.mark va op).mds = s.mds := by simp [State.mark]
@[simp] theorem State.mark_lf (s : State) (va : LongWord) (op : Access) : (s.mark va op).lf = s.lf := by simp [State.mark]
@[simp] theorem State.mark_gf (s : State) (va : LongWord) (op : Access) : (s.mark va op).gf = s.gf := by simp [State.mark]
@[simp] theorem State.mark_cb (s : State) (va : LongWord) (op : Access) : (s.mark va op).cb = s.cb := by simp [State.mark]
@[simp] theorem State.mark_pc (s : State) (va : LongWord) (op : Access) : (s.mark va op).pc = s.pc := by simp [State.mark]
@[simp] theorem State.mark_stack (s : State) (va : LongWord) (op : Access) : (s.mark va op).stack = s.stack := by simp [State.mark]
@[simp] theorem State.mark_sp (s : State) (va : LongWord) (op : Access) : (s.mark va op).sp = s.sp := by simp [State.mark]
@[simp] theorem State.mark_pid (s : State) (va : LongWord) (op : Access) : (s.mark va op).pid = s.pid := by simp [State.mark]
@[simp] theorem State.mark_mp (s : State) (va : LongWord) (op : Access) : (s.mark va op).mp = s.mp := by simp [State.mark]
@[simp] theorem State.mark_it (s : State) (va : LongWord) (op : Access) : (s.mark va op).it = s.it := by simp [State.mark]
@[simp] theorem State.mark_wm (s : State) (va : LongWord) (op : Access) : (s.mark va op).wm = s.wm := by simp [State.mark]
@[simp] theorem State.mark_wp (s : State) (va : LongWord) (op : Access) : (s.mark va op).wp = s.wp := by simp [State.mark]
@[simp] theorem State.mark_wdc (s : State) (va : LongWord) (op : Access) : (s.mark va op).wdc = s.wdc := by simp [State.mark]
@[simp] theorem State.mark_ptc (s : State) (va : LongWord) (op : Access) : (s.mark va op).ptc = s.ptc := by simp [State.mark]
@[simp] theorem State.mark_xts (s : State) (va : LongWord) (op : Access) : (s.mark va op).xts = s.xts := by simp [State.mark]
@[simp] theorem State.mark_brk (s : State) (va : LongWord) (op : Access) : (s.mark va op).brk = s.brk := by simp [State.mark]
@[simp] theorem State.mark_savedPC (s : State) (va : LongWord) (op : Access) : (s.mark va op).savedPC = s.savedPC := by simp [State.mark]
@[simp] theorem State.mark_savedSP (s : State) (va : LongWord) (op : Access) : (s.mark va op).savedSP = s.savedSP := by simp [State.mark]
@[simp] theorem State.mark_running (s : State) (va : LongWord) (op : Access) : (s.mark va op).running = s.running := by simp [State.mark]
@[simp] theorem State.mark_time (s : State) (va : LongWord) (op : Access) : (s.mark va op).time = s.time := by simp [State.mark]
@[simp] theorem State.mark_mem (s : State) (va : LongWord) (op : Access) : (s.mark va op).mem = s.mem := by simp [State.mark]
@[simp] theorem State.mark_booted (s : State) (va : LongWord) (op : Access) : (s.mark va op).booted = s.booted := by simp [State.mark]
@[simp] theorem State.mark_draw (s : State) (va : LongWord) (op : Access) : (s.mark va op).draw = s.draw := by simp [State.mark]
@[simp] theorem State.mark_devices (s : State) (va : LongWord) (op : Access) : (s.mark va op).devices = s.devices := by simp [State.mark]

@[simp] theorem State.marked_psb (s : State) : (s.marked).psb = s.psb := rfl
@[simp] theorem State.marked_mds (s : State) : (s.marked).mds = s.mds := rfl
@[simp] theorem State.marked_lf (s : State) : (s.marked).lf = s.lf := rfl
@[simp] theorem State.marked_gf (s : State) : (s.marked).gf = s.gf := rfl
@[simp] theorem State.marked_cb (s : State) : (s.marked).cb = s.cb := rfl
@[simp] theorem State.marked_pc (s : State) : (s.marked).pc = s.pc := rfl
@[simp] theorem State.marked_stack (s : State) : (s.marked).stack = s.stack := rfl
@[simp] theorem State.marked_sp (s : State) : (s.marked).sp = s.sp := rfl
@[simp] theorem State.marked_pid (s : State) : (s.marked).pid = s.pid := rfl
@[simp] theorem State.marked_mp (s : State) : (s.marked).mp = s.mp := rfl
@[simp] theorem State.marked_it (s : State) : (s.marked).it = s.it := rfl
@[simp] theorem State.marked_wm (s : State) : (s.marked).wm = s.wm := rfl
@[simp] theorem State.marked_wp (s : State) : (s.marked).wp = s.wp := rfl
@[simp] theorem State.marked_wdc (s : State) : (s.marked).wdc = s.wdc := rfl
@[simp] theorem State.marked_ptc (s : State) : (s.marked).ptc = s.ptc := rfl
@[simp] theorem State.marked_xts (s : State) : (s.marked).xts = s.xts := rfl
@[simp] theorem State.marked_brk (s : State) : (s.marked).brk = s.brk := rfl
@[simp] theorem State.marked_running (s : State) : (s.marked).running = s.running := rfl
@[simp] theorem State.marked_time (s : State) : (s.marked).time = s.time := rfl
@[simp] theorem State.marked_map (s : State) : (s.marked).map = s.map := rfl
@[simp] theorem State.marked_mem (s : State) : (s.marked).mem = s.mem := rfl
@[simp] theorem State.marked_booted (s : State) : (s.marked).booted = s.booted := rfl
@[simp] theorem State.marked_draw (s : State) : (s.marked).draw = s.draw := rfl
@[simp] theorem State.marked_devices (s : State) : (s.marked).devices = s.devices := rfl

@[simp] theorem State.marked_savedPC (s : State) : s.marked.savedPC = s.pc := rfl

@[simp] theorem State.marked_savedSP (s : State) : s.marked.savedSP = s.sp := rfl

@[simp] theorem State.ready_psb (s : State) : (s.ready).psb = s.psb := rfl
@[simp] theorem State.ready_mds (s : State) : (s.ready).mds = s.mds := rfl
@[simp] theorem State.ready_lf (s : State) : (s.ready).lf = s.lf := rfl
@[simp] theorem State.ready_gf (s : State) : (s.ready).gf = s.gf := rfl
@[simp] theorem State.ready_cb (s : State) : (s.ready).cb = s.cb := rfl
@[simp] theorem State.ready_pc (s : State) : (s.ready).pc = s.pc := rfl
@[simp] theorem State.ready_stack (s : State) : (s.ready).stack = s.stack := rfl
@[simp] theorem State.ready_sp (s : State) : (s.ready).sp = s.sp := rfl
@[simp] theorem State.ready_pid (s : State) : (s.ready).pid = s.pid := rfl
@[simp] theorem State.ready_mp (s : State) : (s.ready).mp = s.mp := rfl
@[simp] theorem State.ready_it (s : State) : (s.ready).it = s.it := rfl
@[simp] theorem State.ready_wm (s : State) : (s.ready).wm = s.wm := rfl
@[simp] theorem State.ready_wp (s : State) : (s.ready).wp = s.wp := rfl
@[simp] theorem State.ready_ptc (s : State) : (s.ready).ptc = s.ptc := rfl
@[simp] theorem State.ready_xts (s : State) : (s.ready).xts = s.xts := rfl
@[simp] theorem State.ready_brk (s : State) : (s.ready).brk = s.brk := rfl
@[simp] theorem State.ready_savedPC (s : State) : (s.ready).savedPC = s.savedPC := rfl
@[simp] theorem State.ready_savedSP (s : State) : (s.ready).savedSP = s.savedSP := rfl
@[simp] theorem State.ready_time (s : State) : (s.ready).time = s.time := rfl
@[simp] theorem State.ready_map (s : State) : (s.ready).map = s.map := rfl
@[simp] theorem State.ready_mem (s : State) : (s.ready).mem = s.mem := rfl
@[simp] theorem State.ready_draw (s : State) : (s.ready).draw = s.draw := rfl

@[simp] theorem State.ready_booted (s : State) : s.ready.booted = true := rfl

@[simp] theorem State.ready_running (s : State) : s.ready.running = true := rfl

@[simp] theorem State.ready_wdc (s : State) : s.ready.wdc = if s.wdc = 0 then 1 else s.wdc := rfl

@[simp] theorem State.ready_devices (s : State) :
    s.ready.devices = if s.devices = [] then [] else [[], [], [], []] ++ s.devices := rfl

@[simp] theorem State.perform_psb (s : State) (a : DeviceAction) : (s.perform a).psb = s.psb := by cases a <;> (unfold State.perform; repeat' split) <;> simp
@[simp] theorem State.perform_mds (s : State) (a : DeviceAction) : (s.perform a).mds = s.mds := by cases a <;> (unfold State.perform; repeat' split) <;> simp
@[simp] theorem State.perform_lf (s : State) (a : DeviceAction) : (s.perform a).lf = s.lf := by cases a <;> (unfold State.perform; repeat' split) <;> simp
@[simp] theorem State.perform_gf (s : State) (a : DeviceAction) : (s.perform a).gf = s.gf := by cases a <;> (unfold State.perform; repeat' split) <;> simp
@[simp] theorem State.perform_cb (s : State) (a : DeviceAction) : (s.perform a).cb = s.cb := by cases a <;> (unfold State.perform; repeat' split) <;> simp
@[simp] theorem State.perform_pc (s : State) (a : DeviceAction) : (s.perform a).pc = s.pc := by cases a <;> (unfold State.perform; repeat' split) <;> simp
@[simp] theorem State.perform_stack (s : State) (a : DeviceAction) : (s.perform a).stack = s.stack := by cases a <;> (unfold State.perform; repeat' split) <;> simp
@[simp] theorem State.perform_sp (s : State) (a : DeviceAction) : (s.perform a).sp = s.sp := by cases a <;> (unfold State.perform; repeat' split) <;> simp
@[simp] theorem State.perform_pid (s : State) (a : DeviceAction) : (s.perform a).pid = s.pid := by cases a <;> (unfold State.perform; repeat' split) <;> simp
@[simp] theorem State.perform_mp (s : State) (a : DeviceAction) : (s.perform a).mp = s.mp := by cases a <;> (unfold State.perform; repeat' split) <;> simp
@[simp] theorem State.perform_it (s : State) (a : DeviceAction) : (s.perform a).it = s.it := by cases a <;> (unfold State.perform; repeat' split) <;> simp
@[simp] theorem State.perform_wm (s : State) (a : DeviceAction) : (s.perform a).wm = s.wm := by cases a <;> (unfold State.perform; repeat' split) <;> simp
@[simp] theorem State.perform_wdc (s : State) (a : DeviceAction) : (s.perform a).wdc = s.wdc := by cases a <;> (unfold State.perform; repeat' split) <;> simp
@[simp] theorem State.perform_ptc (s : State) (a : DeviceAction) : (s.perform a).ptc = s.ptc := by cases a <;> (unfold State.perform; repeat' split) <;> simp
@[simp] theorem State.perform_xts (s : State) (a : DeviceAction) : (s.perform a).xts = s.xts := by cases a <;> (unfold State.perform; repeat' split) <;> simp
@[simp] theorem State.perform_brk (s : State) (a : DeviceAction) : (s.perform a).brk = s.brk := by cases a <;> (unfold State.perform; repeat' split) <;> simp
@[simp] theorem State.perform_savedPC (s : State) (a : DeviceAction) : (s.perform a).savedPC = s.savedPC := by cases a <;> (unfold State.perform; repeat' split) <;> simp
@[simp] theorem State.perform_savedSP (s : State) (a : DeviceAction) : (s.perform a).savedSP = s.savedSP := by cases a <;> (unfold State.perform; repeat' split) <;> simp
@[simp] theorem State.perform_running (s : State) (a : DeviceAction) : (s.perform a).running = s.running := by cases a <;> (unfold State.perform; repeat' split) <;> simp
@[simp] theorem State.perform_time (s : State) (a : DeviceAction) : (s.perform a).time = s.time := by cases a <;> (unfold State.perform; repeat' split) <;> simp
@[simp] theorem State.perform_booted (s : State) (a : DeviceAction) : (s.perform a).booted = s.booted := by cases a <;> (unfold State.perform; repeat' split) <;> simp
@[simp] theorem State.perform_draw (s : State) (a : DeviceAction) : (s.perform a).draw = s.draw := by cases a <;> (unfold State.perform; repeat' split) <;> simp
@[simp] theorem State.perform_devices (s : State) (a : DeviceAction) : (s.perform a).devices = s.devices := by cases a <;> (unfold State.perform; repeat' split) <;> simp

/-- Actions of devices change nothing but `WP`, the map and memory (decision D9). -/
theorem perform_foldl_field {α : Type} (field : State → α) (h : ∀ s a, field (s.perform a) = field s)
    (actions : List DeviceAction) (s : State) : field (actions.foldl State.perform s) = field s := by
  induction actions generalizing s with
  | nil => rfl
  | cons a rest ih => rw [List.foldl_cons, ih, h]

theorem afterDevices_field {α : Type} (field : State → α) (h : ∀ s a, field (s.perform a) = field s)
    (hd : ∀ s rest, field { s with devices := rest } = field s) (s : State) : field s.afterDevices = field s := by
  unfold State.afterDevices; split
  · rfl
  · rw [perform_foldl_field field h, hd]

@[simp] theorem State.afterDevices_psb (s : State) : s.afterDevices.psb = s.psb :=
  afterDevices_field State.psb State.perform_psb (fun _ _ => rfl) s
@[simp] theorem State.afterDevices_mds (s : State) : s.afterDevices.mds = s.mds :=
  afterDevices_field State.mds State.perform_mds (fun _ _ => rfl) s
@[simp] theorem State.afterDevices_lf (s : State) : s.afterDevices.lf = s.lf :=
  afterDevices_field State.lf State.perform_lf (fun _ _ => rfl) s
@[simp] theorem State.afterDevices_gf (s : State) : s.afterDevices.gf = s.gf :=
  afterDevices_field State.gf State.perform_gf (fun _ _ => rfl) s
@[simp] theorem State.afterDevices_cb (s : State) : s.afterDevices.cb = s.cb :=
  afterDevices_field State.cb State.perform_cb (fun _ _ => rfl) s
@[simp] theorem State.afterDevices_pc (s : State) : s.afterDevices.pc = s.pc :=
  afterDevices_field State.pc State.perform_pc (fun _ _ => rfl) s
@[simp] theorem State.afterDevices_stack (s : State) : s.afterDevices.stack = s.stack :=
  afterDevices_field State.stack State.perform_stack (fun _ _ => rfl) s
@[simp] theorem State.afterDevices_sp (s : State) : s.afterDevices.sp = s.sp :=
  afterDevices_field State.sp State.perform_sp (fun _ _ => rfl) s
@[simp] theorem State.afterDevices_pid (s : State) : s.afterDevices.pid = s.pid :=
  afterDevices_field State.pid State.perform_pid (fun _ _ => rfl) s
@[simp] theorem State.afterDevices_mp (s : State) : s.afterDevices.mp = s.mp :=
  afterDevices_field State.mp State.perform_mp (fun _ _ => rfl) s
@[simp] theorem State.afterDevices_it (s : State) : s.afterDevices.it = s.it :=
  afterDevices_field State.it State.perform_it (fun _ _ => rfl) s
@[simp] theorem State.afterDevices_wm (s : State) : s.afterDevices.wm = s.wm :=
  afterDevices_field State.wm State.perform_wm (fun _ _ => rfl) s
@[simp] theorem State.afterDevices_wdc (s : State) : s.afterDevices.wdc = s.wdc :=
  afterDevices_field State.wdc State.perform_wdc (fun _ _ => rfl) s
@[simp] theorem State.afterDevices_ptc (s : State) : s.afterDevices.ptc = s.ptc :=
  afterDevices_field State.ptc State.perform_ptc (fun _ _ => rfl) s
@[simp] theorem State.afterDevices_xts (s : State) : s.afterDevices.xts = s.xts :=
  afterDevices_field State.xts State.perform_xts (fun _ _ => rfl) s
@[simp] theorem State.afterDevices_brk (s : State) : s.afterDevices.brk = s.brk :=
  afterDevices_field State.brk State.perform_brk (fun _ _ => rfl) s
@[simp] theorem State.afterDevices_savedPC (s : State) : s.afterDevices.savedPC = s.savedPC :=
  afterDevices_field State.savedPC State.perform_savedPC (fun _ _ => rfl) s
@[simp] theorem State.afterDevices_savedSP (s : State) : s.afterDevices.savedSP = s.savedSP :=
  afterDevices_field State.savedSP State.perform_savedSP (fun _ _ => rfl) s
@[simp] theorem State.afterDevices_running (s : State) : s.afterDevices.running = s.running :=
  afterDevices_field State.running State.perform_running (fun _ _ => rfl) s
@[simp] theorem State.afterDevices_time (s : State) : s.afterDevices.time = s.time :=
  afterDevices_field State.time State.perform_time (fun _ _ => rfl) s
@[simp] theorem State.afterDevices_booted (s : State) : s.afterDevices.booted = s.booted :=
  afterDevices_field State.booted State.perform_booted (fun _ _ => rfl) s
@[simp] theorem State.afterDevices_draw (s : State) : s.afterDevices.draw = s.draw :=
  afterDevices_field State.draw State.perform_draw (fun _ _ => rfl) s

/-- Where no device acts, the processor takes its step in the state itself. -/
theorem afterDevices_idle {s : State} (h : s.devices = []) : s.afterDevices = s := by
  unfold State.afterDevices; rw [h]

@[simp] theorem State.afterDevices_devices (s : State) : s.afterDevices.devices = s.devices.tail := by
  unfold State.afterDevices; split
  · rename_i h; rw [h]; rfl
  · rename_i actions rest h
    rw [perform_foldl_field State.devices State.perform_devices, h]; rfl

end Sys2Proof.Machine
end

