-- ==== Sys2Proof/Laws/Memory.lean ====
section
/-!
SUPPORT. The laws of the sparse tables, of real memory and of the map: read after write, other places unchanged, the
canonical form kept; and what each memory operation can do.
-/
namespace Sys2Proof.Machine

/-! ### Tables -/

section Table

variable {α : Type} [DecidableEq α] {unlisted : Nat → α}

theorem tableWfFrom_mono {size low low' : Nat} (h : low' ≤ low) (t : List (Nat × α))
    (hw : tableWfFrom unlisted size low t = true) : tableWfFrom unlisted size low' t = true := by
  cases t with
  | nil => rfl
  | cons p rest =>
    obtain ⟨k, v⟩ := p
    simp only [tableWfFrom, Bool.and_eq_true, decide_eq_true_eq] at hw ⊢
    exact ⟨⟨⟨by omega, hw.1.1.2⟩, hw.1.2⟩, hw.2⟩

/-- Below its lowest key a table holds the unlisted values. -/
theorem tableGet_below {size low : Nat} (t : List (Nat × α)) (hw : tableWfFrom unlisted size low t = true)
    {key : Nat} (h : key < low) : tableGet unlisted t key = unlisted key := by
  induction t generalizing low with
  | nil => rfl
  | cons p rest ih =>
    obtain ⟨k, v⟩ := p
    simp only [tableWfFrom, Bool.and_eq_true, decide_eq_true_eq] at hw
    have hk : k ≠ key := by omega
    simp only [tableGet, hk, if_false]
    exact ih hw.2 (by omega)

/-- Beyond its size a table holds the unlisted values. -/
theorem tableGet_beyond {size low : Nat} (t : List (Nat × α)) (hw : tableWfFrom unlisted size low t = true)
    {key : Nat} (h : size ≤ key) : tableGet unlisted t key = unlisted key := by
  induction t generalizing low with
  | nil => rfl
  | cons p rest ih =>
    obtain ⟨k, v⟩ := p
    simp only [tableWfFrom, Bool.and_eq_true, decide_eq_true_eq] at hw
    have hk : k ≠ key := by omega
    simp only [tableGet, hk, if_false]
    exact ih hw.2

/-- `tablePut` keeps the canonical form. -/
theorem tablePut_wf {size low : Nat} (t : List (Nat × α)) {key : Nat} (value : α)
    (hw : tableWfFrom unlisted size low t = true) (hl : low ≤ key) (hs : key < size) :
    tableWfFrom unlisted size low (tablePut unlisted t key value) = true := by
  induction t generalizing low with
  | nil =>
    unfold tablePut
    split
    · rfl
    · simp [tableWfFrom, *]
  | cons p rest ih =>
    obtain ⟨k, v⟩ := p
    have hw' := hw
    simp only [tableWfFrom, Bool.and_eq_true, decide_eq_true_eq] at hw
    unfold tablePut
    split
    · rename_i hlt
      split
      · exact hw'
      · rename_i hne
        simp only [tableWfFrom, Bool.and_eq_true, decide_eq_true_eq]
        exact ⟨⟨⟨hl, hs⟩, by simpa using hne⟩, ⟨⟨by omega, hw.1.1.2⟩, hw.1.2⟩, hw.2⟩
    · split
      · rename_i _ heq
        split
        · exact tableWfFrom_mono (by omega) rest hw.2
        · rename_i hne
          simp only [tableWfFrom, Bool.and_eq_true, decide_eq_true_eq]
          exact ⟨⟨⟨hl, hs⟩, by simpa using hne⟩, tableWfFrom_mono (by omega) rest hw.2⟩
      · rename_i hge hne
        simp only [tableWfFrom, Bool.and_eq_true, decide_eq_true_eq]
        exact ⟨⟨⟨hw.1.1.1, hw.1.1.2⟩, hw.1.2⟩, ih hw.2 (by omega)⟩

/-- Reading the key just put gives its value, in a table in canonical form. -/
theorem tableGet_tablePut_self {size low : Nat} (t : List (Nat × α)) {key : Nat} (value : α)
    (hw : tableWfFrom unlisted size low t = true) :
    tableGet unlisted (tablePut unlisted t key value) key = value := by
  induction t generalizing low with
  | nil =>
    unfold tablePut
    split
    · rename_i h; simp [tableGet, h]
    · simp [tableGet]
  | cons p rest ih =>
    obtain ⟨k, v⟩ := p
    simp only [tableWfFrom, Bool.and_eq_true, decide_eq_true_eq] at hw
    unfold tablePut
    split
    · rename_i hlt
      split
      · rename_i h
        have hk : k ≠ key := by omega
        simp only [tableGet, hk, if_false]
        rw [tableGet_below rest hw.2 (by omega), h]
      · simp [tableGet]
    · split
      · rename_i _ heq
        split
        · rename_i h
          rw [tableGet_below rest hw.2 (by omega), h]
        · simp [tableGet]
      · rename_i hge hne
        simp only [tableGet, hne, if_false]
        exact ih hw.2

/-- Reading another key gives what it held. -/
theorem tableGet_tablePut_other (t : List (Nat × α)) {key other : Nat} (value : α) (h : other ≠ key) :
    tableGet unlisted (tablePut unlisted t key value) other = tableGet unlisted t other := by
  induction t with
  | nil =>
    unfold tablePut
    split
    · rfl
    · simp [tableGet, Ne.symm h]
  | cons p rest ih =>
    obtain ⟨k, v⟩ := p
    unfold tablePut
    split
    · split
      · rfl
      · simp [tableGet, Ne.symm h]
    · split
      · rename_i _ heq
        subst heq
        split
        · simp [tableGet, Ne.symm h]
        · simp [tableGet, Ne.symm h]
      · simp only [tableGet, ih]

end Table

/-! ### Real memory -/

/-- A store of a word keeps memory in canonical form. -/
theorem writeReal_wf {m : List Host.Cell} {a : Nat} (v : Word) (hm : Memory.wf m = true)
    (ha : a < 256 * Config.realPages) : Memory.wf (writeReal m a v) = true := by
  unfold Memory.wf writeReal at *
  have hb : memoryBytes = 2 * (256 * Config.realPages) := rfl
  exact tablePut_wf _ _ (tablePut_wf _ _ hm (Nat.zero_le _) (by omega)) (Nat.zero_le _) (by omega)

theorem bytes_append (v : Word) : v.extractLsb' 8 8 ++ v.extractLsb' 0 8 = v := by
  ext i hi
  simp only [BitVec.getElem_append, BitVec.getElem_extractLsb']
  split
  · simp [BitVec.getLsbD_eq_getElem hi]
  · rename_i h
    rw [show 8 + (i - 8) = i by omega]
    exact BitVec.getLsbD_eq_getElem hi

/-- Read after write of a word. -/
theorem readReal_writeReal_self {m : List Host.Cell} {a : Nat} (v : Word) (hm : Memory.wf m = true)
    (ha : a < 256 * Config.realPages) : readReal (writeReal m a v) a = v := by
  have hb : memoryBytes = 2 * (256 * Config.realPages) := rfl
  unfold readReal writeReal
  have h1 := tablePut_wf (size := memoryBytes) (low := 0) m (key := 2 * a) (v.extractLsb' 8 8) hm (Nat.zero_le _)
    (by omega)
  rw [tableGet_tablePut_self _ _ h1, tableGet_tablePut_other _ _ (by omega),
    tableGet_tablePut_self (size := memoryBytes) (low := 0) m _ hm]
  exact bytes_append v

/-- A store of a word leaves every other word. -/
theorem readReal_writeReal_other (m : List Host.Cell) {a b : Nat} (v : Word) (h : b ≠ a) :
    readReal (writeReal m a v) b = readReal m b := by
  unfold readReal writeReal
  rw [tableGet_tablePut_other _ _ (by omega), tableGet_tablePut_other _ _ (by omega),
    tableGet_tablePut_other _ _ (by omega), tableGet_tablePut_other _ _ (by omega)]

/-- A store of a word leaves every byte but its own two. -/
theorem byte_writeReal_other (m : List Host.Cell) {a key : Nat} (v : Word) (h0 : key ≠ 2 * a)
    (h1 : key ≠ 2 * a + 1) :
    tableGet unlistedByte (writeReal m a v) key = tableGet unlistedByte m key := by
  unfold writeReal
  rw [tableGet_tablePut_other _ _ h1, tableGet_tablePut_other _ _ h0]

/-! ### Translation -/

/-- Everything `translate` can answer. -/
theorem translate_ok {s : State} {va : LongWord} {op : Access} {a : Nat} (h : s.translate va op = .ok a) :
    (s.readMap (pageOf va)).vacant = false ∧ (op = .write → (s.readMap (pageOf va)).writeProtect = false)
      ∧ realPageExists (s.readMap (pageOf va)).real = true
      ∧ a = (s.readMap (pageOf va)).real.toNat * 256 + va.toNat % 256 := by
  unfold State.translate at h
  simp only at h
  split at h
  · cases h
  · rename_i hv
    split at h
    · cases h
    · rename_i hp
      split at h
      · rename_i hr
        refine ⟨by simpa using hv, ?_, hr, by cases h; rfl⟩
        intro hop
        subst hop
        simpa using hp
      · cases h

/-- The real address of an access that goes through is one of real memory. -/
theorem translate_bound {s : State} {va : LongWord} {op : Access} {a : Nat} (h : s.translate va op = .ok a) :
    a < 256 * Config.realPages := by
  obtain ⟨_, _, hr, rfl⟩ := translate_ok h
  unfold realPageExists at hr
  have hr := of_decide_eq_true hr
  have := Nat.mod_lt va.toNat (show 0 < 256 by omega)
  omega

/-- A store that goes through: so does a load, at the same real address. -/
theorem translate_read_of_write {s : State} {va : LongWord} {a : Nat} (h : s.translate va .write = .ok a) :
    s.translate va .read = .ok a := by
  obtain ⟨hv, _, hr, rfl⟩ := translate_ok h
  simp [State.translate, hv, hr]

theorem canRead_of_canWrite {s : State} {va : LongWord} (h : s.canWrite va = true) : s.canRead va = true := by
  unfold State.canWrite at h
  cases hw : s.translate va .write with
  | error e => rw [hw] at h; cases h
  | ok a => simp [State.canRead, translate_read_of_write hw, Except.isOk, Except.toBool]

theorem translate_of_canRead {s : State} {va : LongWord} (h : s.canRead va = true) :
    s.translate va .read = .ok (s.realAddress va) := by
  unfold State.canRead at h
  unfold State.realAddress
  cases hr : s.translate va .read with
  | error e => rw [hr] at h; cases h
  | ok a => rfl

theorem translate_of_canWrite {s : State} {va : LongWord} (h : s.canWrite va = true) :
    s.translate va .write = .ok (s.realAddress va) := by
  have hr := translate_of_canRead (canRead_of_canWrite h)
  unfold State.canWrite at h
  cases hw : s.translate va .write with
  | error e => rw [hw] at h; cases h
  | ok a => rw [translate_read_of_write hw] at hr; exact hr

/-! ### The memory operations -/

/-- A translation is the processor's own, after a turn of the devices (20_memory.md R140). -/
theorem mapAddress_run (va : LongWord) (op : Access) (s : State) :
    mapAddress va op s = translateMarked va op s.afterDevices := rfl

/-- Everything a translation can do: after a turn of the devices, the real address with the flags set, or an abort with
nothing changed (20_memory.md R110, R140). -/
theorem mapAddress_cases (va : LongWord) (op : Access) (s : State) :
    (∃ a, s.afterDevices.translate va op = .ok a ∧ mapAddress va op s = .ok a (s.afterDevices.mark va op))
      ∨ ∃ e, s.afterDevices.translate va op = .error e ∧ mapAddress va op s = .error e s.afterDevices := by
  rw [mapAddress_run, translateMarked]
  cases h : s.afterDevices.translate va op with
  | ok a => exact .inl ⟨a, rfl, rfl⟩
  | error e => exact .inr ⟨e, rfl, rfl⟩

theorem mapAddress_read {s : State} {va : LongWord} (hd : s.devices = []) (h : s.canRead va = true) :
    mapAddress va .read s = .ok (s.realAddress va) (s.mark va .read) := by
  rw [mapAddress_run, afterDevices_idle hd, translateMarked, translate_of_canRead h]

theorem mapAddress_write {s : State} {va : LongWord} (hd : s.devices = []) (h : s.canWrite va = true) :
    mapAddress va .write s = .ok (s.realAddress va) (s.mark va .write) := by
  rw [mapAddress_run, afterDevices_idle hd, translateMarked, translate_of_canWrite h]

/-- Everything a load can do. -/
theorem memRead_cases (va : LongWord) (s : State) :
    (s.afterDevices.canRead va = true ∧ memRead va s = .ok (s.afterDevices.wordAt va) (s.afterDevices.loaded va))
      ∨ (∃ e, s.afterDevices.translate va .read = .error e ∧ memRead va s = .error e s.afterDevices) := by
  rcases mapAddress_cases va .read s with ⟨a, h1, h2⟩ | ⟨e, h1, h2⟩
  · have h : s.afterDevices.canRead va = true := by simp [State.canRead, h1, Except.isOk, Except.toBool]
    have ha : a = s.afterDevices.realAddress va := by simpa [h1] using translate_of_canRead h
    refine .inl ⟨h, ?_⟩
    unfold memRead
    rw [bind_ok h2, ha]
    simp [readAt, State.wordAt, State.loaded]
  · exact .inr ⟨e, h1, bind_error h2⟩

/-- A load that goes through, where no device acts. -/
theorem memRead_run {s : State} {va : LongWord} (hd : s.devices = []) (h : s.canRead va = true) :
    memRead va s = .ok (s.wordAt va) (s.loaded va) := by
  unfold memRead
  rw [bind_ok (mapAddress_read hd h)]
  simp [readAt, State.wordAt, State.loaded]

/-- Everything a store can do. -/
theorem memWrite_cases (va : LongWord) (v : Word) (s : State) :
    (s.afterDevices.canWrite va = true ∧ memWrite va v s = .ok () (s.afterDevices.stored va v))
      ∨ (∃ e, s.afterDevices.translate va .write = .error e ∧ memWrite va v s = .error e s.afterDevices) := by
  rcases mapAddress_cases va .write s with ⟨a, h1, h2⟩ | ⟨e, h1, h2⟩
  · have h : s.afterDevices.canWrite va = true := by simp [State.canWrite, h1, Except.isOk, Except.toBool]
    have ha : a = s.afterDevices.realAddress va := by simpa [h1] using translate_of_canWrite h
    refine .inl ⟨h, ?_⟩
    unfold memWrite
    rw [bind_ok h2, ha]
    simp [writeAt, State.stored]
  · exact .inr ⟨e, h1, bind_error h2⟩

/-- A store that goes through, where no device acts. -/
theorem memWrite_run {s : State} {va : LongWord} (v : Word) (hd : s.devices = []) (h : s.canWrite va = true) :
    memWrite va v s = .ok () (s.stored va v) := by
  unfold memWrite
  rw [bind_ok (mapAddress_write hd h)]
  simp [writeAt, State.stored]

end Sys2Proof.Machine
end

