-- ==== Sys2Proof/Laws/Map.lean ====
section
/-!
SUPPORT. The laws of the map: reading an entry after a write, and that an access that goes through changes flags only, so
that every later access has the outcome and the real address it had.
-/
namespace Sys2Proof.Machine

theorem pageOf_lt (va : LongWord) : pageOf va < Config.vmPages := by
  have h := va.isLt
  unfold pageOf Config.vmPages
  omega

theorem mapCanonical_iff (s : State) :
    s.mapCanonical = true ↔ tableWfFrom unlistedEntry Config.vmPages 0 s.map = true
      ∧ ∀ p ∈ s.map, p.2.vacant = true → p.2 = vacantEntry := by
  unfold State.mapCanonical
  rw [Bool.and_eq_true, List.all_eq_true]
  constructor
  · rintro ⟨h1, h2⟩
    exact ⟨h1, fun p hp hv => by simpa [hv] using h2 p hp⟩
  · rintro ⟨h1, h2⟩
    refine ⟨h1, fun p hp => ?_⟩
    cases hv : p.2.vacant with
    | false => rfl
    | true => simp [h2 p hp hv]

/-- Every entry of `tablePut` is the one put or was there. -/
theorem mem_tablePut {α : Type} [DecidableEq α] {unlisted : Nat → α} {t : List (Nat × α)} {key : Nat} {value : α}
    {p : Nat × α} (h : p ∈ tablePut unlisted t key value) : p = (key, value) ∨ p ∈ t := by
  induction t with
  | nil =>
    unfold tablePut at h
    split at h
    · exact absurd h List.not_mem_nil
    · exact .inl (List.mem_singleton.mp h)
  | cons q rest ih =>
    obtain ⟨k, v⟩ := q
    unfold tablePut at h
    split at h
    · split at h
      · exact .inr h
      · rcases List.mem_cons.mp h with h | h
        · exact .inl h
        · exact .inr h
    · split at h
      · split at h
        · exact .inr (List.mem_cons_of_mem _ h)
        · rcases List.mem_cons.mp h with h | h
          · exact .inl h
          · exact .inr (List.mem_cons_of_mem _ h)
      · rcases List.mem_cons.mp h with h | h
        · exact .inr (h ▸ List.mem_cons_self)
        · rcases ih h with h | h
          · exact .inl h
          · exact .inr (List.mem_cons_of_mem _ h)

theorem writeMap_map {s : State} {vp : Nat} {e : MapEntry} (h : vp < Config.vmPages) :
    (s.writeMap vp e).map = tablePut unlistedEntry s.map vp (if e.vacant then vacantEntry else e) := by
  unfold State.writeMap; rw [if_pos h]

theorem writeMap_outside {s : State} {vp : Nat} {e : MapEntry} (h : ¬ vp < Config.vmPages) :
    s.writeMap vp e = s := by
  unfold State.writeMap; rw [if_neg h]

/-- `WriteMap` keeps the map in canonical form. -/
theorem writeMap_canonical {s : State} {vp : Nat} {e : MapEntry} (hc : s.mapCanonical = true) :
    (s.writeMap vp e).mapCanonical = true := by
  by_cases h : vp < Config.vmPages
  · rw [mapCanonical_iff] at hc ⊢
    rw [writeMap_map h]
    refine ⟨tablePut_wf _ _ hc.1 (Nat.zero_le _) h, fun p hp hv => ?_⟩
    rcases mem_tablePut hp with rfl | hp
    · by_cases he : e.vacant = true
      · simp [he]
      · simp only [he] at hv
        exact absurd hv he
    · exact hc.2 p hp hv
  · rw [writeMap_outside h]; exact hc

theorem readMap_writeMap_self {s : State} {vp : Nat} {e : MapEntry} (hc : s.mapCanonical = true)
    (h : vp < Config.vmPages) : (s.writeMap vp e).readMap vp = if e.vacant then vacantEntry else e := by
  unfold State.readMap
  rw [if_pos h, writeMap_map h, tableGet_tablePut_self _ _ ((mapCanonical_iff s).mp hc).1]

theorem readMap_writeMap_other {s : State} {vp vp' : Nat} {e : MapEntry} (h : vp' ≠ vp) :
    (s.writeMap vp e).readMap vp' = s.readMap vp' := by
  unfold State.readMap
  split
  · by_cases hv : vp < Config.vmPages
    · rw [writeMap_map hv, tableGet_tablePut_other _ _ h]
    · rw [writeMap_outside hv]
  · rfl

/-- The entry of a page after an access to it: `referenced` is set, and by a store `dirty` (20_memory.md R110). -/
theorem readMap_mark_self {s : State} {va : LongWord} {op : Access} (hc : s.mapCanonical = true) :
    (s.mark va op).readMap (pageOf va) =
      { s.readMap (pageOf va) with
        dirty := (s.readMap (pageOf va)).dirty || decide (op = .write), referenced := true } := by
  unfold State.mark
  rw [readMap_writeMap_self hc (pageOf_lt va)]
  simp [MapEntry.vacant]

theorem readMap_mark_other {s : State} {va : LongWord} {op : Access} {vp : Nat} (h : vp ≠ pageOf va) :
    (s.mark va op).readMap vp = s.readMap vp := readMap_writeMap_other h

theorem mark_canonical {s : State} {va : LongWord} {op : Access} (hc : s.mapCanonical = true) :
    (s.mark va op).mapCanonical = true := writeMap_canonical hc

/-- An access that goes through leaves the outcome of every access as it was. -/
theorem translate_mark {s : State} {va : LongWord} {op : Access} {a : Nat} (hc : s.mapCanonical = true)
    (h : s.translate va op = .ok a) (va' : LongWord) (op' : Access) :
    (s.mark va op).translate va' op' = s.translate va' op' := by
  have hv := (translate_ok h).1
  unfold State.translate
  by_cases hp : pageOf va' = pageOf va
  · rw [hp, readMap_mark_self hc]
    have hv' : MapEntry.vacant { s.readMap (pageOf va) with
        dirty := (s.readMap (pageOf va)).dirty || decide (op = .write), referenced := true } = false := by
      simp [MapEntry.vacant]
    simp only [hv', hv]
  · rw [readMap_mark_other hp]

theorem loaded_canonical {s : State} {va : LongWord} (hc : s.mapCanonical = true) :
    (s.loaded va).mapCanonical = true := mark_canonical hc

theorem stored_canonical {s : State} {va : LongWord} {v : Word} (hc : s.mapCanonical = true) :
    (s.stored va v).mapCanonical = true := mark_canonical (s := s) hc

theorem translate_loaded {s : State} {va : LongWord} (hc : s.mapCanonical = true) (h : s.canRead va = true)
    (va' : LongWord) (op' : Access) : (s.loaded va).translate va' op' = s.translate va' op' :=
  translate_mark hc (translate_of_canRead h) va' op'

theorem translate_stored {s : State} {va : LongWord} {v : Word} (hc : s.mapCanonical = true)
    (h : s.canWrite va = true) (va' : LongWord) (op' : Access) :
    (s.stored va v).translate va' op' = s.translate va' op' :=
  translate_mark hc (translate_of_canWrite h) va' op'

/-- Two states with the same translation and the same memory hold the same words. -/
theorem wordAt_congr {s t : State} (h : s.sameTranslation t) (hm : s.mem = t.mem) (va : LongWord) :
    s.wordAt va = t.wordAt va := by
  unfold State.wordAt State.realAddress
  rw [h va .read, hm]

theorem wordAt_loaded {s : State} {va : LongWord} (hc : s.mapCanonical = true) (h : s.canRead va = true)
    (va' : LongWord) : (s.loaded va).wordAt va' = s.wordAt va' :=
  wordAt_congr (fun v o => translate_loaded hc h v o) (by simp [State.loaded]) va'

/-- Read after write at a virtual address. -/
theorem wordAt_stored_self {s : State} {va : LongWord} {v : Word} (hc : s.mapCanonical = true)
    (hm : Memory.wf s.mem = true) (h : s.canWrite va = true) : (s.stored va v).wordAt va = v := by
  have hr : (s.stored va v).realAddress va = s.realAddress va := by
    unfold State.realAddress; rw [translate_stored hc h]
  unfold State.wordAt
  rw [hr]
  exact readReal_writeReal_self v hm (translate_bound (translate_of_canWrite h))

/-- A store leaves every word at another real address. -/
theorem wordAt_stored_other {s : State} {va va' : LongWord} {v : Word} (hc : s.mapCanonical = true)
    (h : s.canWrite va = true) (hne : s.realAddress va' ≠ s.realAddress va) :
    (s.stored va v).wordAt va' = s.wordAt va' := by
  have hr : (s.stored va v).realAddress va' = s.realAddress va' := by
    unfold State.realAddress; rw [translate_stored hc h]
  unfold State.wordAt
  rw [hr]
  exact readReal_writeReal_other s.mem v hne

/-- A state whose map lists nothing is backed and injective: every real page is mapped at its own number. -/
theorem inv_of_unlisted_map {s : State} (hm : s.map = []) (hw : Memory.wf s.mem = true) (hp : s.pid = Config.pid)
    (hwm : s.wm = Config.cWM) : s.Inv := by
  have hr : ∀ vp, s.readMap vp = if vp < Config.realPages then unlistedEntry vp else vacantEntry := by
    intro vp
    unfold State.readMap
    rw [hm]
    by_cases h : vp < Config.realPages
    · have : vp < Config.vmPages := by unfold Config.realPages at h; unfold Config.vmPages; omega
      simp [tableGet, h, this]
    · simp [tableGet, h, unlistedEntry]
  have hreal : ∀ vp, (s.readMap vp).vacant = false → vp < Config.realPages ∧ (s.readMap vp).real.toNat = vp := by
    intro vp h
    rw [hr] at h ⊢
    by_cases hv : vp < Config.realPages
    · refine ⟨hv, ?_⟩
      rw [if_pos hv, unlistedEntry, if_pos hv]
      unfold Config.realPages at hv
      rw [BitVec.toNat_ofNat]
      omega
    · rw [if_neg hv] at h
      exact absurd h (by decide)
  refine ⟨hw, ?_, ?_, ?_, hp, hwm⟩
  · simp [State.mapCanonical, hm, tableWfFrom]
  · intro vp h
    obtain ⟨hv, he⟩ := hreal vp h
    simp [realPageExists, he, hv]
  · intro vp vp' h h' he
    rw [← (hreal vp h).2, ← (hreal vp' h').2, he]

end Sys2Proof.Machine
end

