-- ==== Sys2Proof/Laws/Stack.lean ====
section
/-!
SUPPORT. What each operation of the evaluation stack can do.
-/
namespace Sys2Proof.Machine

@[simp] theorem State.dropped_slot (s : State) (n i : Nat) : (s.dropped n).slot i = s.slot i := rfl

@[simp] theorem State.raised_slot (s : State) (i : Nat) : s.raised.slot i = s.slot i := rfl

theorem State.slot_lt (s : State) {i : Nat} (h : i < 14) : s.slot i = s.stack[i] := by
  simp [State.slot, Vector.getD, h]

theorem State.pushed_slot (s : State) (v : Word) (i : Nat) (h : s.sp.val < 14) :
    (s.pushed v).slot i = if i = s.sp.val then v else s.slot i := by
  unfold State.slot
  rw [State.pushed_stack]
  by_cases hi : i < 14
  · by_cases he : s.sp.val = i
    · simp [Vector.getD, he]
      omega
    · simp [Vector.getD, he, Ne.symm he]
  · have : i ≠ s.sp.val := by omega
    simp [Vector.getD, hi, this]

@[simp] theorem State.dropped_zero (s : State) : s.dropped 0 = s := rfl

theorem State.dropped_dropped (s : State) (m n : Nat) : (s.dropped m).dropped n = s.dropped (m + n) := by
  simp [State.dropped, Nat.sub_sub]

theorem State.dropped_top (s : State) (n k : Nat) : (s.dropped n).top k = s.top (n + k) := by
  simp only [State.top, State.dropped_slot, State.dropped_sp_val]
  congr 1
  omega

/-- A word popped and `SP` raised again: the stack is as it was (10_state.md R54, R59). -/
theorem State.raised_dropped (s : State) (h : 0 < s.sp.val) : (s.dropped 1).raised = s := by
  have hs := s.sp.isLt
  have : min (s.sp.val - 1 + 1) 14 = s.sp.val := by omega
  simp [State.dropped, State.raised, this]

/-- Everything `push` can do. -/
theorem push_cases (v : Word) (s : State) :
    (s.sp.val < 14 ∧ push v s = .ok () (s.pushed v)) ∨ (s.sp.val = 14 ∧ push v s = .error stackError s) := by
  have := s.sp.isLt
  unfold push
  by_cases h : s.sp.val < 14
  · exact .inl ⟨h, by rw [if_pos h]⟩
  · exact .inr ⟨by omega, by rw [if_neg h]⟩

theorem push_run {v : Word} {s : State} (h : s.sp.val < 14) : push v s = .ok () (s.pushed v) := by
  unfold push; rw [if_pos h]

theorem push_full {v : Word} {s : State} (h : s.sp.val = 14) : push v s = .error stackError s := by
  unfold push; rw [if_neg (by omega)]

/-- Everything `pop` can do. -/
theorem pop_cases (s : State) :
    (0 < s.sp.val ∧ pop s = .ok (s.top 0) (s.dropped 1)) ∨ (s.sp.val = 0 ∧ pop s = .error stackError s) := by
  unfold pop
  by_cases h : 0 < s.sp.val
  · exact .inl ⟨h, by rw [if_pos h]⟩
  · exact .inr ⟨by omega, by rw [if_neg h]⟩

theorem pop_run {s : State} (h : 0 < s.sp.val) : pop s = .ok (s.top 0) (s.dropped 1) := by
  unfold pop; rw [if_pos h]

theorem pop_empty {s : State} (h : s.sp.val = 0) : pop s = .error stackError s := by
  unfold pop; rw [if_neg (by omega)]

/-- `PopLong` on two words at least. -/
theorem popLong_run {s : State} (h : 2 ≤ s.sp.val) :
    popLong s = .ok (mkLong (s.top 1) (s.top 0)) (s.dropped 2) := by
  unfold popLong
  rw [bind_ok (pop_run (by omega)), bind_ok (pop_run (by simp; omega))]
  simp [State.dropped_top, State.dropped_dropped]

/-- `PushLong` with two free words at least. -/
theorem pushLong_run {v : LongWord} {s : State} (h : s.sp.val < 13) :
    pushLong v s = .ok () ((s.pushed (lowHalf v)).pushed (highHalf v)) := by
  unfold pushLong
  rw [bind_ok (push_run (by omega)), push_run (by simp; omega)]

theorem discard_run {s : State} (h : 0 < s.sp.val) : discard s = .ok () (s.dropped 1) := by
  unfold discard; rw [if_pos h]

theorem discard_empty {s : State} (h : s.sp.val = 0) : discard s = .error stackError s := by
  unfold discard; rw [if_neg (by omega)]

theorem recoverTop_run {s : State} (h : s.sp.val < 14) : recoverTop s = .ok () s.raised := by
  unfold recoverTop; rw [if_pos h]

theorem recoverTop_full {s : State} (h : s.sp.val = 14) : recoverTop s = .error stackError s := by
  unfold recoverTop; rw [if_neg (by omega)]

theorem minimalStack_run {s : State} (h : s.sp.val = 0) : minimalStack s = .ok () s := by
  unfold minimalStack; rw [if_pos h]

theorem minimalStack_error {s : State} (h : s.sp.val ≠ 0) : minimalStack s = .error stackError s := by
  unfold minimalStack; rw [if_neg h]

end Sys2Proof.Machine
end

