-- ==== Sys2Proof/Laws/Ops.lean ====
section
/-!
SUPPORT. What each shared operation over memory does when its accesses go through, and that the stack's updates leave
every access as it was.
-/
namespace Sys2Proof.Machine

@[simp] theorem State.translate_dropped (s : State) (n : Nat) (va : LongWord) (op : Access) : (s.dropped n).translate va op = s.translate va op := rfl
@[simp] theorem State.canRead_dropped (s : State) (n : Nat) (va : LongWord) : (s.dropped n).canRead va = s.canRead va := rfl
@[simp] theorem State.canWrite_dropped (s : State) (n : Nat) (va : LongWord) : (s.dropped n).canWrite va = s.canWrite va := rfl
@[simp] theorem State.wordAt_dropped (s : State) (n : Nat) (va : LongWord) : (s.dropped n).wordAt va = s.wordAt va := rfl
@[simp] theorem State.realAddress_dropped (s : State) (n : Nat) (va : LongWord) : (s.dropped n).realAddress va = s.realAddress va := rfl
@[simp] theorem State.lengthen_dropped (s : State) (n : Nat) (p : Word) : (s.dropped n).lengthen p = s.lengthen p := rfl
@[simp] theorem State.mapCanonical_dropped (s : State) (n : Nat) : (s.dropped n).mapCanonical = s.mapCanonical := rfl

@[simp] theorem State.translate_raised (s : State) (va : LongWord) (op : Access) : (s.raised).translate va op = s.translate va op := rfl
@[simp] theorem State.canRead_raised (s : State) (va : LongWord) : (s.raised).canRead va = s.canRead va := rfl
@[simp] theorem State.canWrite_raised (s : State) (va : LongWord) : (s.raised).canWrite va = s.canWrite va := rfl
@[simp] theorem State.wordAt_raised (s : State) (va : LongWord) : (s.raised).wordAt va = s.wordAt va := rfl
@[simp] theorem State.realAddress_raised (s : State) (va : LongWord) : (s.raised).realAddress va = s.realAddress va := rfl
@[simp] theorem State.lengthen_raised (s : State) (p : Word) : (s.raised).lengthen p = s.lengthen p := rfl
@[simp] theorem State.mapCanonical_raised (s : State) : (s.raised).mapCanonical = s.mapCanonical := rfl

@[simp] theorem State.translate_pushed (s : State) (v : Word) (va : LongWord) (op : Access) : (s.pushed v).translate va op = s.translate va op := rfl
@[simp] theorem State.canRead_pushed (s : State) (v : Word) (va : LongWord) : (s.pushed v).canRead va = s.canRead va := rfl
@[simp] theorem State.canWrite_pushed (s : State) (v : Word) (va : LongWord) : (s.pushed v).canWrite va = s.canWrite va := rfl
@[simp] theorem State.wordAt_pushed (s : State) (v : Word) (va : LongWord) : (s.pushed v).wordAt va = s.wordAt va := rfl
@[simp] theorem State.realAddress_pushed (s : State) (v : Word) (va : LongWord) : (s.pushed v).realAddress va = s.realAddress va := rfl
@[simp] theorem State.lengthen_pushed (s : State) (v : Word) (p : Word) : (s.pushed v).lengthen p = s.lengthen p := rfl
@[simp] theorem State.mapCanonical_pushed (s : State) (v : Word) : (s.pushed v).mapCanonical = s.mapCanonical := rfl

@[simp] theorem State.loaded_psb (s : State) (va : LongWord) : (s.loaded va).psb = s.psb := by simp [State.loaded]
@[simp] theorem State.loaded_mds (s : State) (va : LongWord) : (s.loaded va).mds = s.mds := by simp [State.loaded]
@[simp] theorem State.loaded_lf (s : State) (va : LongWord) : (s.loaded va).lf = s.lf := by simp [State.loaded]
@[simp] theorem State.loaded_gf (s : State) (va : LongWord) : (s.loaded va).gf = s.gf := by simp [State.loaded]
@[simp] theorem State.loaded_cb (s : State) (va : LongWord) : (s.loaded va).cb = s.cb := by simp [State.loaded]
@[simp] theorem State.loaded_pc (s : State) (va : LongWord) : (s.loaded va).pc = s.pc := by simp [State.loaded]
@[simp] theorem State.loaded_stack (s : State) (va : LongWord) : (s.loaded va).stack = s.stack := by simp [State.loaded]
@[simp] theorem State.loaded_sp (s : State) (va : LongWord) : (s.loaded va).sp = s.sp := by simp [State.loaded]
@[simp] theorem State.loaded_pid (s : State) (va : LongWord) : (s.loaded va).pid = s.pid := by simp [State.loaded]
@[simp] theorem State.loaded_mp (s : State) (va : LongWord) : (s.loaded va).mp = s.mp := by simp [State.loaded]
@[simp] theorem State.loaded_it (s : State) (va : LongWord) : (s.loaded va).it = s.it := by simp [State.loaded]
@[simp] theorem State.loaded_wm (s : State) (va : LongWord) : (s.loaded va).wm = s.wm := by simp [State.loaded]
@[simp] theorem State.loaded_wp (s : State) (va : LongWord) : (s.loaded va).wp = s.wp := by simp [State.loaded]
@[simp] theorem State.loaded_wdc (s : State) (va : LongWord) : (s.loaded va).wdc = s.wdc := by simp [State.loaded]
@[simp] theorem State.loaded_ptc (s : State) (va : LongWord) : (s.loaded va).ptc = s.ptc := by simp [State.loaded]
@[simp] theorem State.loaded_xts (s : State) (va : LongWord) : (s.loaded va).xts = s.xts := by simp [State.loaded]
@[simp] theorem State.loaded_brk (s : State) (va : LongWord) : (s.loaded va).brk = s.brk := by simp [State.loaded]
@[simp] theorem State.loaded_savedPC (s : State) (va : LongWord) : (s.loaded va).savedPC = s.savedPC := by simp [State.loaded]
@[simp] theorem State.loaded_savedSP (s : State) (va : LongWord) : (s.loaded va).savedSP = s.savedSP := by simp [State.loaded]
@[simp] theorem State.loaded_running (s : State) (va : LongWord) : (s.loaded va).running = s.running := by simp [State.loaded]
@[simp] theorem State.loaded_time (s : State) (va : LongWord) : (s.loaded va).time = s.time := by simp [State.loaded]
@[simp] theorem State.loaded_booted (s : State) (va : LongWord) : (s.loaded va).booted = s.booted := by simp [State.loaded]
@[simp] theorem State.loaded_draw (s : State) (va : LongWord) : (s.loaded va).draw = s.draw := by simp [State.loaded]
@[simp] theorem State.loaded_devices (s : State) (va : LongWord) : (s.loaded va).devices = s.devices := by simp [State.loaded]
@[simp] theorem State.loaded_mem (s : State) (va : LongWord) : (s.loaded va).mem = s.mem := by simp [State.loaded]
@[simp] theorem State.loaded_top (s : State) (va : LongWord) (k : Nat) : (s.loaded va).top k = s.top k := by
  simp [State.top, State.slot]
@[simp] theorem State.loaded_lengthen (s : State) (va : LongWord) (p : Word) : (s.loaded va).lengthen p = s.lengthen p := by
  simp [State.lengthen]

@[simp] theorem State.stored_psb (s : State) (va : LongWord) (v : Word) : (s.stored va v).psb = s.psb := by simp [State.stored]
@[simp] theorem State.stored_mds (s : State) (va : LongWord) (v : Word) : (s.stored va v).mds = s.mds := by simp [State.stored]
@[simp] theorem State.stored_lf (s : State) (va : LongWord) (v : Word) : (s.stored va v).lf = s.lf := by simp [State.stored]
@[simp] theorem State.stored_gf (s : State) (va : LongWord) (v : Word) : (s.stored va v).gf = s.gf := by simp [State.stored]
@[simp] theorem State.stored_cb (s : State) (va : LongWord) (v : Word) : (s.stored va v).cb = s.cb := by simp [State.stored]
@[simp] theorem State.stored_pc (s : State) (va : LongWord) (v : Word) : (s.stored va v).pc = s.pc := by simp [State.stored]
@[simp] theorem State.stored_stack (s : State) (va : LongWord) (v : Word) : (s.stored va v).stack = s.stack := by simp [State.stored]
@[simp] theorem State.stored_sp (s : State) (va : LongWord) (v : Word) : (s.stored va v).sp = s.sp := by simp [State.stored]
@[simp] theorem State.stored_pid (s : State) (va : LongWord) (v : Word) : (s.stored va v).pid = s.pid := by simp [State.stored]
@[simp] theorem State.stored_mp (s : State) (va : LongWord) (v : Word) : (s.stored va v).mp = s.mp := by simp [State.stored]
@[simp] theorem State.stored_it (s : State) (va : LongWord) (v : Word) : (s.stored va v).it = s.it := by simp [State.stored]
@[simp] theorem State.stored_wm (s : State) (va : LongWord) (v : Word) : (s.stored va v).wm = s.wm := by simp [State.stored]
@[simp] theorem State.stored_wp (s : State) (va : LongWord) (v : Word) : (s.stored va v).wp = s.wp := by simp [State.stored]
@[simp] theorem State.stored_wdc (s : State) (va : LongWord) (v : Word) : (s.stored va v).wdc = s.wdc := by simp [State.stored]
@[simp] theorem State.stored_ptc (s : State) (va : LongWord) (v : Word) : (s.stored va v).ptc = s.ptc := by simp [State.stored]
@[simp] theorem State.stored_xts (s : State) (va : LongWord) (v : Word) : (s.stored va v).xts = s.xts := by simp [State.stored]
@[simp] theorem State.stored_brk (s : State) (va : LongWord) (v : Word) : (s.stored va v).brk = s.brk := by simp [State.stored]
@[simp] theorem State.stored_savedPC (s : State) (va : LongWord) (v : Word) : (s.stored va v).savedPC = s.savedPC := by simp [State.stored]
@[simp] theorem State.stored_savedSP (s : State) (va : LongWord) (v : Word) : (s.stored va v).savedSP = s.savedSP := by simp [State.stored]
@[simp] theorem State.stored_running (s : State) (va : LongWord) (v : Word) : (s.stored va v).running = s.running := by simp [State.stored]
@[simp] theorem State.stored_time (s : State) (va : LongWord) (v : Word) : (s.stored va v).time = s.time := by simp [State.stored]
@[simp] theorem State.stored_booted (s : State) (va : LongWord) (v : Word) : (s.stored va v).booted = s.booted := by simp [State.stored]
@[simp] theorem State.stored_draw (s : State) (va : LongWord) (v : Word) : (s.stored va v).draw = s.draw := by simp [State.stored]
@[simp] theorem State.stored_devices (s : State) (va : LongWord) (v : Word) : (s.stored va v).devices = s.devices := by simp [State.stored]
@[simp] theorem State.stored_top (s : State) (va : LongWord) (v : Word) (k : Nat) : (s.stored va v).top k = s.top k := by
  simp [State.top, State.slot]
@[simp] theorem State.stored_lengthen (s : State) (va : LongWord) (v : Word) (p : Word) : (s.stored va v).lengthen p = s.lengthen p := by
  simp [State.lengthen]

@[simp] theorem State.stored_mem (s : State) (va : LongWord) (v : Word) :
    (s.stored va v).mem = writeReal s.mem (s.realAddress va) v := rfl

theorem canRead_loaded {s : State} {va : LongWord} (hc : s.mapCanonical = true) (h : s.canRead va = true)
    (va' : LongWord) : (s.loaded va).canRead va' = s.canRead va' := by
  unfold State.canRead; rw [translate_loaded hc h]

theorem canWrite_loaded {s : State} {va : LongWord} (hc : s.mapCanonical = true) (h : s.canRead va = true)
    (va' : LongWord) : (s.loaded va).canWrite va' = s.canWrite va' := by
  unfold State.canWrite; rw [translate_loaded hc h]

theorem canRead_stored {s : State} {va : LongWord} {v : Word} (hc : s.mapCanonical = true)
    (h : s.canWrite va = true) (va' : LongWord) : (s.stored va v).canRead va' = s.canRead va' := by
  unfold State.canRead; rw [translate_stored hc h]

theorem canWrite_stored {s : State} {va : LongWord} {v : Word} (hc : s.mapCanonical = true)
    (h : s.canWrite va = true) (va' : LongWord) : (s.stored va v).canWrite va' = s.canWrite va' := by
  unfold State.canWrite; rw [translate_stored hc h]

theorem memReadMds_run {s : State} {p : Word} (hd : s.devices = []) (h : s.canRead (s.lengthen p) = true) :
    memReadMds p s = .ok (s.wordAt (s.lengthen p)) (s.loaded (s.lengthen p)) := by
  unfold memReadMds
  rw [getState_bind, memRead_run hd h]

theorem memWriteMds_run {s : State} {p : Word} (v : Word) (hd : s.devices = [])
    (h : s.canWrite (s.lengthen p) = true) :
    memWriteMds p v s = .ok () (s.stored (s.lengthen p) v) := by
  unfold memWriteMds
  rw [getState_bind, memWrite_run v hd h]

/-- `Store(va)^ <- Pop[]` on a stack that is not empty. -/
theorem memWritePop_run {s : State} {va : LongWord} (hd : s.devices = []) (h : s.canWrite va = true) (hs : 0 < s.sp.val) :
    memWritePop va s = .ok () ((s.stored va (s.top 0)).dropped 1) := by
  unfold memWritePop
  rw [bind_ok (mapAddress_write hd h), bind_ok (pop_run (by simpa using hs))]
  simp [writeAt, State.stored, State.dropped, State.top, State.slot]

theorem memWritePopMds_run {s : State} {p : Word} (hd : s.devices = []) (h : s.canWrite (s.lengthen p) = true)
    (hs : 0 < s.sp.val) :
    memWritePopMds p s = .ok () ((s.stored (s.lengthen p) (s.top 0)).dropped 1) := by
  unfold memWritePopMds
  rw [getState_bind, memWritePop_run hd h hs]

theorem readDbl_run {s : State} {va : LongWord} (hd : s.devices = []) (hc : s.mapCanonical = true)
    (h : s.canReadLong va = true) :
    readDbl va s = .ok (s.longAt va) (s.loadedLong va) := by
  unfold State.canReadLong at h
  rw [Bool.and_eq_true] at h
  unfold readDbl
  rw [bind_ok (memRead_run hd h.1), bind_ok (memRead_run (by simpa using hd) (by rw [canRead_loaded hc h.1]; exact h.2))]
  simp [State.longAt, State.loadedLong, wordAt_loaded hc h.1]

theorem readDblMds_run {s : State} {p : Word} (hd : s.devices = []) (hc : s.mapCanonical = true)
    (h : s.canReadLong (s.lengthen p) = true) :
    readDblMds p s = .ok (s.longAt (s.lengthen p)) (s.loadedLong (s.lengthen p)) := by
  unfold readDblMds
  rw [getState_bind, readDbl_run hd hc h]

theorem readCode_run {s : State} {o : Word} (hd : s.devices = []) (h : s.canRead (s.codeWord o) = true) :
    readCode o s = .ok (s.wordAt (s.codeWord o)) (s.loaded (s.codeWord o)) := by
  unfold readCode
  rw [getState_bind]
  exact memRead_run hd h

/-- With interrupts disabled nothing is pending and nothing is sampled (60_exceptions.md R802, R804). -/
theorem interruptPending_disabled {s : State} (h : s.wdc ≠ 0) : interruptPending s = .ok false s := by
  unfold interruptPending
  rw [getState_bind, if_neg h]
  rfl

theorem checkForInterrupts_disabled {s : State} (h : s.wdc ≠ 0) : checkForInterrupts s = .ok false s := by
  unfold checkForInterrupts
  rw [bind_ok (interruptPending_disabled h)]
  simp

theorem checkForTimeouts_disabled {s : State} (h : s.wdc ≠ 0) : checkForTimeouts s = .ok false s := by
  unfold checkForTimeouts
  rw [getState_bind, if_neg h]
  rfl

end Sys2Proof.Machine
end

