-- ==== Sys2Proof/Laws/Keeps.lean ====
section
/-!
SUPPORT. Every shared routine keeps the invariant, whether it ends with a value or is aborted: one lemma for each, the
simple ones first.
-/
namespace Sys2Proof.Machine

/-- The invariant is about memory, the map and the two read-only registers. -/
theorem inv_congr {s t : State} (hmem : t.mem = s.mem) (hmap : t.map = s.map) (hpid : t.pid = s.pid) (hwm : t.wm = s.wm)
    (h : s.Inv) : t.Inv := by
  have hr : ∀ vp, t.readMap vp = s.readMap vp := fun vp => by unfold State.readMap; rw [hmap]
  obtain ⟨h1, h2, h3, h4, h5, h6⟩ := h
  refine ⟨by rw [hmem]; exact h1, by unfold State.mapCanonical; rw [hmap]; exact h2, ?_, ?_, by rw [hpid]; exact h5,
    by rw [hwm]; exact h6⟩
  · intro vp; rw [hr]; exact h3 vp
  · intro vp vp'; rw [hr, hr]; exact h4 vp vp'

/-- An access that goes through changes no entry's real page and makes none vacant. -/
theorem readMap_mark {s : State} {va : LongWord} {op : Access} {a : Nat} (hc : s.mapCanonical = true)
    (h : s.translate va op = .ok a) (vp : Nat) :
    ((s.mark va op).readMap vp).vacant = (s.readMap vp).vacant ∧ ((s.mark va op).readMap vp).real = (s.readMap vp).real := by
  by_cases hv : vp = pageOf va
  · subst hv
    rw [readMap_mark_self hc]
    exact ⟨by rw [(translate_ok h).1]; simp [MapEntry.vacant], rfl⟩
  · rw [readMap_mark_other hv]
    exact ⟨rfl, rfl⟩

theorem inv_mark {s : State} {va : LongWord} {op : Access} {a : Nat} (hi : s.Inv) (h : s.translate va op = .ok a) :
    (s.mark va op).Inv := by
  obtain ⟨h1, h2, h3, h4, h5, h6⟩ := hi
  have hr := readMap_mark h2 h
  refine ⟨by simpa using h1, mark_canonical h2, ?_, ?_, by simpa using h5, by simpa using h6⟩
  · intro vp; rw [(hr vp).1, (hr vp).2]; exact h3 vp
  · intro vp vp'; rw [(hr vp).1, (hr vp').1, (hr vp).2, (hr vp').2]; exact h4 vp vp'

theorem inv_writeReal {s : State} {a : Nat} {v : Word} (hi : s.Inv) (ha : a < 256 * Config.realPages) :
    ({ s with mem := writeReal s.mem a v } : State).Inv := by
  obtain ⟨h1, h⟩ := hi
  exact ⟨writeReal_wf v h1 ha, h⟩

/-! ### Devices -/

theorem inv_perform {s : State} (hi : s.Inv) (a : DeviceAction) : (s.perform a).Inv := by
  cases a with
  | read va flags =>
    unfold State.perform
    dsimp only
    split
    · rename_i h
      split
      · exact inv_mark hi h
      · exact hi
    · exact hi
  | write va v flags =>
    unfold State.perform
    dsimp only
    split
    · rename_i h
      cases flags
      · exact inv_writeReal hi (translate_bound h)
      · have := inv_writeReal (v := v) (inv_mark hi h) (translate_bound h)
        simpa using this
    · exact hi
  | wakeup bits => exact inv_congr rfl rfl rfl rfl hi

/-- A turn of the devices keeps the invariant (20_memory.md R140). -/
theorem inv_afterDevices {s : State} (hi : s.Inv) : s.afterDevices.Inv := by
  have hfold : ∀ (actions : List DeviceAction) (s : State), s.Inv → (actions.foldl State.perform s).Inv := by
    intro actions
    induction actions with
    | nil => exact fun _ h => h
    | cons a rest ih => exact fun s h => ih _ (inv_perform h a)
  unfold State.afterDevices
  split
  · exact hi
  · exact hfold _ _ (inv_congr rfl rfl rfl rfl hi)

/-! ### The stack, memory and code -/

theorem keeps_push (v : Word) : Keeps State.Inv (push v) := by
  intro s h
  rcases push_cases v s with ⟨_, he⟩ | ⟨_, he⟩ <;> rw [he]
  · exact inv_congr rfl rfl rfl rfl h
  · exact h

theorem keeps_pop : Keeps State.Inv pop := by
  intro s h
  unfold pop
  split <;> rename_i heq <;> split at heq <;> cases heq
  · exact inv_congr rfl rfl rfl rfl h
  · exact h

theorem keeps_discard : Keeps State.Inv discard := by
  intro s h
  unfold discard
  split <;> rename_i heq <;> split at heq <;> cases heq
  · exact inv_congr rfl rfl rfl rfl h
  · exact h

theorem keeps_recoverTop : Keeps State.Inv recoverTop := by
  intro s h
  unfold recoverTop
  split <;> rename_i heq <;> split at heq <;> cases heq
  · exact inv_congr rfl rfl rfl rfl h
  · exact h

theorem keeps_minimalStack : Keeps State.Inv minimalStack := by
  intro s h
  unfold minimalStack
  split <;> rename_i heq <;> split at heq <;> cases heq <;> exact h

theorem keeps_pushLong (v : LongWord) : Keeps State.Inv (pushLong v) :=
  keeps_bind (keeps_push _) fun _ => keeps_push _

theorem keeps_popLong : Keeps State.Inv popLong :=
  keeps_bind keeps_pop fun _ => keeps_bind keeps_pop fun _ => keeps_pure _ _

theorem keeps_mapAddress (va : LongWord) (op : Access) : Keeps State.Inv (mapAddress va op) := by
  intro s h
  rcases mapAddress_cases va op s with ⟨a, ht, he⟩ | ⟨e, ht, he⟩ <;> rw [he]
  · exact inv_mark (inv_afterDevices h) ht
  · exact inv_afterDevices h

theorem keeps_readAt (a : Nat) : Keeps State.Inv (readAt a) := fun _ h => h

theorem keeps_memRead (va : LongWord) : Keeps State.Inv (memRead va) :=
  keeps_bind (keeps_mapAddress va .read) fun a => keeps_readAt a

/-- A store at the address its own translation gave. -/
theorem keeps_memWrite (va : LongWord) (v : Word) : Keeps State.Inv (memWrite va v) := by
  intro s h
  unfold memWrite
  rcases mapAddress_cases va .write s with ⟨a, ht, he⟩ | ⟨e, ht, he⟩
  · rw [bind_ok he]
    exact inv_writeReal (inv_mark (inv_afterDevices h) ht) (translate_bound ht)
  · rw [bind_error he]
    exact inv_afterDevices h

theorem keeps_memWritePop (va : LongWord) : Keeps State.Inv (memWritePop va) := by
  intro s h
  unfold memWritePop
  rcases mapAddress_cases va .write s with ⟨a, ht, he⟩ | ⟨e, ht, he⟩
  · rw [bind_ok he]
    have hm := inv_mark (inv_afterDevices h) ht
    rcases pop_cases (s.afterDevices.mark va .write) with ⟨_, hp⟩ | ⟨_, hp⟩
    · rw [bind_ok hp]
      exact inv_writeReal (inv_congr rfl rfl rfl rfl hm) (translate_bound ht)
    · rw [bind_error hp]
      exact hm
  · rw [bind_error he]
    exact inv_afterDevices h

theorem keeps_readDbl (va : LongWord) : Keeps State.Inv (readDbl va) :=
  keeps_bind (keeps_memRead _) fun _ => keeps_bind (keeps_memRead _) fun _ => keeps_pure _ _

theorem keeps_memReadMds (p : Word) : Keeps State.Inv (memReadMds p) :=
  keeps_bind (keeps_getState _) fun _ => keeps_memRead _

theorem keeps_memWriteMds (p v : Word) : Keeps State.Inv (memWriteMds p v) :=
  keeps_bind (keeps_getState _) fun _ => keeps_memWrite _ _

theorem keeps_memWritePopMds (p : Word) : Keeps State.Inv (memWritePopMds p) :=
  keeps_bind (keeps_getState _) fun _ => keeps_memWritePop _

theorem keeps_readDblMds (p : Word) : Keeps State.Inv (readDblMds p) :=
  keeps_bind (keeps_getState _) fun _ => keeps_readDbl _

theorem keeps_readCode (o : Word) : Keeps State.Inv (readCode o) :=
  keeps_bind (keeps_getState _) fun _ => keeps_memRead _

theorem keeps_fetchByte (p o : LongWord) : Keeps State.Inv (fetchByte p o) :=
  keeps_bind (keeps_memRead _) fun _ => keeps_pure _ _

theorem keeps_storeByte (p o : LongWord) (b : Byte) : Keeps State.Inv (storeByte p o b) :=
  keeps_bind (keeps_memRead _) fun _ => keeps_memWrite _ _

/-- A change of registers other than `PID` and `WM`. -/
theorem keeps_registers {f : State → State} (hmem : ∀ s, (f s).mem = s.mem) (hmap : ∀ s, (f s).map = s.map)
    (hpid : ∀ s, (f s).pid = s.pid) (hwm : ∀ s, (f s).wm = s.wm) : Keeps State.Inv (update f) :=
  keeps_update fun s h => inv_congr (hmem s) (hmap s) (hpid s) (hwm s) h

theorem keeps_getCodeByte : Keeps State.Inv getCodeByte :=
  keeps_bind (keeps_getState _) fun _ => keeps_bind (keeps_readCode _) fun _ =>
    keeps_bind (keeps_registers (fun _ => rfl) (fun _ => rfl) (fun _ => rfl) fun _ => rfl) fun _ => keeps_pure _ _

theorem keeps_getNextByte (bytes : List Byte) : Keeps State.Inv (getNextByte bytes) := by
  unfold getNextByte
  split
  · exact keeps_noAbort _ keeps_getCodeByte
  · exact keeps_getCodeByte

theorem keeps_fetchMore (n : Nat) (bytes : List Byte) : Keeps State.Inv (fetchMore n bytes) := by
  induction n generalizing bytes with
  | zero => exact keeps_pure _ _
  | succ n ih =>
    unfold fetchMore
    cases decode bytes with
    | short => exact keeps_bind (keeps_getNextByte _) fun _ => ih _
    | instr i rest => exact keeps_pure _ _
    | unassigned op => exact keeps_pure _ _
    | reserved op => exact keeps_pure _ _

theorem keeps_sampleWakeups : Keeps State.Inv sampleWakeups := fun _ h => inv_congr rfl rfl rfl rfl h

theorem keeps_sampleTimer : Keeps State.Inv sampleTimer := fun _ h => inv_congr rfl rfl rfl rfl h

theorem keeps_drawRealPage : Keeps State.Inv drawRealPage := fun _ h => inv_congr rfl rfl rfl rfl h

theorem keeps_interruptPending : Keeps State.Inv interruptPending := by
  refine keeps_bind (keeps_getState _) fun s => ?_
  split
  · exact keeps_bind keeps_sampleWakeups fun _ => keeps_pure _ _
  · exact keeps_pure _ _

/-! ### Frames and transfers -/

theorem keeps_findFrame (n : Nat) (slot : Word) : Keeps State.Inv (findFrame n slot) := by
  induction n generalizing slot with
  | zero => exact keeps_raise _ _
  | succ n ih =>
    refine keeps_bind (keeps_memReadMds _) fun item => ?_
    split
    · split
      · exact keeps_raise _ _
      · exact ih _
    · exact keeps_pure _ _

theorem keeps_alloc (fsi : Word) : Keeps State.Inv (alloc fsi) := by
  refine keeps_bind (keeps_findFrame _ _) fun (slot, item) => ?_
  simp only
  split
  · exact keeps_raise _ _
  · split
    · exact keeps_raise _ _
    · exact keeps_bind (keeps_memReadMds _) fun _ => keeps_bind (keeps_memWriteMds _ _) fun _ => keeps_pure _ _

theorem keeps_freeFrame (frame : Word) : Keeps State.Inv (freeFrame frame) :=
  keeps_bind (keeps_memReadMds _) fun _ => keeps_bind (keeps_memReadMds _) fun _ =>
    keeps_bind (keeps_memWriteMds _ _) fun _ => keeps_memWriteMds _ _

theorem keeps_checkForXferTraps (dst : LongWord) (type : XferType) : Keeps State.Inv (checkForXferTraps dst type) := by
  refine keeps_bind (keeps_getState _) fun s => ?_
  split
  · refine keeps_bind (keeps_memReadMds _) fun w => ?_
    split
    · exact keeps_bind (keeps_registers (fun _ => rfl) (fun _ => rfl) (fun _ => rfl) fun _ => rfl) fun _ =>
        keeps_raise _ _
    · exact keeps_pure _ _
  · exact keeps_registers (fun _ => rfl) (fun _ => rfl) (fun _ => rfl) fun _ => rfl

theorem keeps_resolveLink (n : Nat) (type : XferType) (link : LongWord) (followed : Bool) :
    Keeps State.Inv (resolveLink n type link followed) := by
  induction n generalizing link followed with
  | zero => exact keeps_raise _ _
  | succ n ih =>
    unfold resolveLink
    split
    · split
      · exact keeps_raise _ _
      · exact keeps_bind (keeps_readDblMds _) fun _ => ih _ _
    · exact keeps_pure _ _

/-- A trap or refusal raised where a condition holds. -/
theorem keeps_raiseIf {p : Prop} [Decidable p] (a : Abort) : Keeps State.Inv (if p then raise a else pure ()) := by
  split
  · exact keeps_raise _ _
  · exact keeps_pure _ _

/-- A trap or refusal raised where a condition holds, and the rest. -/
theorem keeps_guard {α : Type} {p : Prop} [Decidable p] {f : Unit → M α} (a : Abort) (h : Keeps State.Inv (f ())) :
    Keeps State.Inv (if p then raise a >>= f else f ()) := by
  split
  · exact keeps_bind (keeps_raise _ _) fun _ => h
  · exact h

theorem keeps_loadCodeBase (gf : Word) : Keeps State.Inv (loadCodeBase gf) :=
  keeps_bind (keeps_readDblMds _) fun _ =>
    keeps_bind (keeps_registers (fun _ => rfl) (fun _ => rfl) (fun _ => rfl) fun _ => rfl) fun _ => keeps_raiseIf _

theorem keeps_enterProcedure (pc gf returnLink : Word) : Keeps State.Inv (enterProcedure pc gf returnLink) :=
  keeps_bind (keeps_readCode _) fun _ => keeps_bind (keeps_alloc _) fun _ =>
    keeps_bind (keeps_memWriteMds _ _) fun _ => keeps_bind (keeps_memWriteMds _ _) fun _ => keeps_pure _ _

theorem keeps_xferProcedure (dst link : LongWord) (src : Word) : Keeps State.Inv (xferProcedure dst link src) := by
  refine keeps_bind (keeps_registers (fun _ => rfl) (fun _ => rfl) (fun _ => rfl) fun _ => rfl) fun _ => ?_
  dsimp only
  refine keeps_guard _ (keeps_bind (keeps_loadCodeBase _) fun _ => keeps_guard _ ?_)
  exact keeps_bind (keeps_enterProcedure _ _ _) fun _ => keeps_pure _ _

theorem keeps_xferFrame (dst link : LongWord) (src : Word) (type : XferType) :
    Keeps State.Inv (xferFrame dst link src type) := by
  unfold xferFrame
  dsimp only
  refine keeps_guard _ (keeps_bind (keeps_memReadMds _) fun _ =>
    keeps_bind (keeps_registers (fun _ => rfl) (fun _ => rfl) (fun _ => rfl) fun _ => rfl) fun _ => keeps_guard _
    (keeps_bind (keeps_loadCodeBase _) fun _ => keeps_bind (keeps_memReadMds _) fun _ => keeps_guard _ ?_))
  split
  · exact keeps_bind (keeps_memWriteMds _ _) fun _ => keeps_bind
      (keeps_registers (fun _ => rfl) (fun _ => rfl) (fun _ => rfl) fun _ => rfl) fun _ => keeps_pure _ _
  · exact keeps_pure _ _

theorem keeps_xfer (dst : LongWord) (src : Word) (type : XferType) (free : Bool) :
    Keeps State.Inv (xfer dst src type free) := by
  have hlast : ∀ frame pc : Word, Keeps State.Inv (do
      let s ← getState
      if free then freeFrame s.lf
      update fun s => { s with lf := frame, pc := pc }
      checkForXferTraps dst type) := by
    intro frame pc
    refine keeps_bind (keeps_getState _) fun s => ?_
    dsimp only
    split
    · exact keeps_bind (keeps_freeFrame _) fun _ =>
        keeps_bind (keeps_registers (fun _ => rfl) (fun _ => rfl) (fun _ => rfl) fun _ => rfl) fun _ =>
        keeps_checkForXferTraps _ _
    · exact keeps_bind (keeps_registers (fun _ => rfl) (fun _ => rfl) (fun _ => rfl) fun _ => rfl) fun _ =>
        keeps_checkForXferTraps _ _
  unfold xfer
  refine keeps_bind (keeps_resolveLink _ _ _ _) fun p => ?_
  obtain ⟨link, followed⟩ := p
  dsimp only
  have hrest : ∀ p : Word × Word, Keeps State.Inv (do
      if followed then do
        push (lowHalf dst)
        push src
        discard
        discard
      let s ← getState
      if free then freeFrame s.lf
      update fun s => { s with lf := p.1, pc := p.2 }
      checkForXferTraps dst type) := by
    intro p
    dsimp only
    split
    · exact keeps_bind (keeps_push _) fun _ => keeps_bind (keeps_push _) fun _ => keeps_bind keeps_discard fun _ =>
        keeps_bind keeps_discard fun _ => hlast _ _
    · exact hlast _ _
  split
  · exact keeps_bind (keeps_xferProcedure _ _ _) fun p => hrest p
  · exact keeps_bind (keeps_xferFrame _ _ _ _) fun p => hrest p

theorem keeps_call (dst : LongWord) : Keeps State.Inv (call dst) :=
  keeps_bind (keeps_getState _) fun _ => keeps_bind (keeps_memWriteMds _ _) fun _ => keeps_xfer _ _ _ _

theorem keeps_fetchLink (k : Byte) : Keeps State.Inv (fetchLink k) := by
  refine keeps_bind (keeps_getState _) fun _ => keeps_bind (keeps_memReadMds _) fun _ => ?_
  split
  · exact keeps_readDbl _
  · exact keeps_readDblMds _

theorem keeps_saveWords (state : LongWord) (n i : Nat) : Keeps State.Inv (saveWords state n i) := by
  induction n generalizing i with
  | zero => exact keeps_pure _ _
  | succ n ih => exact keeps_bind (keeps_getState _) fun _ => keeps_bind (keeps_memWrite _ _) fun _ => ih _

theorem keeps_saveStack (state : LongWord) : Keeps State.Inv (saveStack state) :=
  keeps_bind (keeps_getState _) fun _ => keeps_bind (keeps_saveWords _ _ _) fun _ =>
    keeps_bind (keeps_memWrite _ _) fun _ =>
    keeps_registers (fun _ => rfl) (fun _ => rfl) (fun _ => rfl) fun _ => rfl

theorem keeps_loadWords (state : LongWord) (n i : Nat) : Keeps State.Inv (loadWords state n i) := by
  induction n generalizing i with
  | zero => exact keeps_pure _ _
  | succ n ih =>
    exact keeps_bind (keeps_memRead _) fun _ =>
      keeps_bind (keeps_registers (fun _ => rfl) (fun _ => rfl) (fun _ => rfl) fun _ => rfl) fun _ => ih _

theorem keeps_loadStack (state : LongWord) : Keeps State.Inv (loadStack state) := by
  refine keeps_bind (keeps_memRead _) fun word => ?_
  simp only
  split
  · exact keeps_bind (keeps_loadWords _ _ _) fun _ =>
      keeps_registers (fun _ => rfl) (fun _ => rfl) (fun _ => rfl) fun _ => rfl
  · exact keeps_raise _ _

/-! ### Queues and the scheduler -/

theorem keeps_offsetPda (p : LongWord) : Keeps State.Inv (offsetPda p) := by
  unfold offsetPda
  split
  · exact keeps_pure _ _
  · exact keeps_raise _ _

theorem keeps_findPrevious (n : Nat) (psb prev : BitVec 10) : Keeps State.Inv (findPrevious n psb prev) := by
  induction n generalizing prev with
  | zero => exact keeps_raise _ _
  | succ n ih =>
    refine keeps_bind (keeps_memRead _) fun _ => ?_
    split
    · exact keeps_pure _ _
    · exact ih _

theorem keeps_followCleanup (n : Nat) (psb : BitVec 10) (flags : Word) :
    Keeps State.Inv (followCleanup n psb flags) := by
  induction n generalizing psb flags with
  | zero => exact keeps_raise _ _
  | succ n ih =>
    unfold followCleanup
    split
    · exact keeps_pure _ _
    · refine keeps_bind (keeps_memRead _) fun _ => ?_
      split
      · exact keeps_pure _ _
      · exact ih _ _

theorem keeps_unlink (que : LongWord) (tail psb : BitVec 10) (link : Word) :
    Keeps State.Inv (unlink que tail psb link) := by
  unfold unlink
  repeat' first
    | with_reducible first
      | exact keeps_getState _ | exact keeps_memWrite _ _ | exact keeps_findPrevious _ _ _ | exact keeps_pure _ _
      | refine keeps_bind ?_ fun _ => ?_
    | split
    | exact keeps_raise _ _

theorem keeps_dequeue (que : LongWord) (psb : BitVec 10) : Keeps State.Inv (dequeue que psb) := by
  unfold dequeue
  repeat' first
    | with_reducible first
      | exact keeps_memRead _ | exact keeps_memWrite _ _ | exact keeps_unlink _ _ _ _ | exact keeps_pure _ _
      | exact keeps_raise _ _ | exact keeps_getState _ | refine keeps_bind ?_ fun _ => ?_
    | split

theorem keeps_findPlace (n : Nat) (priority : BitVec 3) (prev : BitVec 10) (current : Word) :
    Keeps State.Inv (findPlace n priority prev current) := by
  induction n generalizing prev current with
  | zero => exact keeps_raise _ _
  | succ n ih =>
    refine keeps_bind (keeps_memRead _) fun _ => ?_
    split
    · exact keeps_pure _ _
    · exact ih _ _

theorem keeps_enqueue (que : LongWord) (psb : BitVec 10) : Keeps State.Inv (enqueue que psb) := by
  unfold enqueue
  repeat' first
    | with_reducible first
      | exact keeps_memRead _ | exact keeps_memWrite _ _ | exact keeps_findPlace _ _ _ _ | exact keeps_pure _ _
      | exact keeps_raise _ _ | exact keeps_getState _ | refine keeps_bind ?_ fun _ => ?_
    | split

theorem keeps_requeue (src dst : LongWord) (psb : BitVec 10) : Keeps State.Inv (requeue src dst psb) := by
  unfold requeue
  repeat' first
    | with_reducible first
      | exact keeps_dequeue _ _ | exact keeps_enqueue _ _ | exact keeps_pure _ _
      | exact keeps_raise _ _ | exact keeps_getState _ | refine keeps_bind ?_ fun _ => ?_
    | split
    | exact keeps_registers (fun _ => rfl) (fun _ => rfl) (fun _ => rfl) fun _ => rfl

theorem keeps_findTail (n : Nat) (head psb : BitVec 10) : Keeps State.Inv (findTail n head psb) := by
  induction n generalizing psb with
  | zero => exact keeps_raise _ _
  | succ n ih =>
    refine keeps_bind (keeps_memRead _) fun _ => ?_
    split
    · exact keeps_pure _ _
    · exact ih _

theorem keeps_cleanupCondition (c : LongWord) : Keeps State.Inv (cleanupCondition c) := by
  refine keeps_bind (keeps_memRead _) fun cond => ?_
  simp only
  split
  · exact keeps_pure _ _
  · refine keeps_bind (keeps_memRead _) fun flags => ?_
    split
    · exact keeps_pure _ _
    · refine keeps_bind (keeps_followCleanup _ _ _) fun found => ?_
      cases found with
      | none => exact keeps_memWrite _ _
      | some head => exact keeps_bind (keeps_findTail _ _ _) fun _ => keeps_memWrite _ _

theorem keeps_wakeHead (c : LongWord) : Keeps State.Inv (wakeHead c) :=
  keeps_bind (keeps_memRead _) fun _ => keeps_bind (keeps_memRead _) fun _ => keeps_bind (keeps_memRead _) fun _ =>
    keeps_bind (keeps_memWrite _ _) fun _ => keeps_bind (keeps_memWrite _ _) fun _ => keeps_requeue _ _ _

theorem keeps_notifyWakeup (c : LongWord) : Keeps State.Inv (notifyWakeup c) := by
  refine keeps_bind (keeps_cleanupCondition _) fun _ => keeps_bind (keeps_memRead _) fun cond => ?_
  split
  · exact keeps_bind (keeps_memWrite _ _) fun _ => keeps_pure _ _
  · exact keeps_bind (keeps_wakeHead _) fun _ => keeps_pure _ _

theorem keeps_emptyState (pri : BitVec 3) : Keeps State.Inv (emptyState pri) :=
  keeps_bind (keeps_memRead _) fun _ => keeps_pure _ _

theorem keeps_allocState (pri : BitVec 3) : Keeps State.Inv (allocState pri) := by
  unfold allocState
  repeat' first
    | with_reducible first
      | exact keeps_memRead _ | exact keeps_memWrite _ _ | exact keeps_pure _ _
      | exact keeps_raise _ _ | exact keeps_getState _ | refine keeps_bind ?_ fun _ => ?_
    | split
    | exact keeps_registers (fun _ => rfl) (fun _ => rfl) (fun _ => rfl) fun _ => rfl

theorem keeps_freeState (pri : BitVec 3) (state : LongWord) : Keeps State.Inv (freeState pri state) :=
  keeps_bind (keeps_memRead _) fun _ => keeps_bind (keeps_memWrite _ _) fun _ =>
    keeps_bind (keeps_offsetPda _) fun _ => keeps_memWrite _ _

theorem keeps_savePC : Keeps State.Inv savePC := by
  refine keeps_bind (keeps_getState _) fun s => ?_
  split
  · exact keeps_memWriteMds _ _
  · exact keeps_pure _ _

theorem keeps_saveProcess (preemption : Bool) : Keeps State.Inv (saveProcess preemption) := by
  refine keeps_noAbort _ ?_
  repeat' first
    | with_reducible first
      | exact keeps_memRead _ | exact keeps_memWrite _ _ | exact keeps_savePC | exact keeps_saveStack _ | exact keeps_allocState _ | exact keeps_offsetPda _ | exact keeps_pure _ _
      | exact keeps_raise _ _ | exact keeps_getState _ | refine keeps_bind ?_ fun _ => ?_
    | split
    | exact keeps_registers (fun _ => rfl) (fun _ => rfl) (fun _ => rfl) fun _ => rfl
    | dsimp only

theorem keeps_loadProcess : Keeps State.Inv loadProcess := by
  refine keeps_noAbort _ ?_
  repeat' first
    | with_reducible first
      | exact keeps_memRead _ | exact keeps_memWrite _ _ | exact keeps_push _ | exact keeps_loadStack _ | exact keeps_freeState _ _ | exact keeps_pure _ _
      | exact keeps_raise _ _ | exact keeps_getState _ | refine keeps_bind ?_ fun _ => ?_
    | split
    | exact keeps_registers (fun _ => rfl) (fun _ => rfl) (fun _ => rfl) fun _ => rfl

theorem keeps_findRunnable (n : Nat) (tail : BitVec 10) (link : Word) : Keeps State.Inv (findRunnable n tail link) := by
  induction n generalizing link with
  | zero => exact keeps_raise _ _
  | succ n ih =>
    unfold findRunnable
    repeat' first
      | with_reducible first
        | exact keeps_memRead _ | exact keeps_emptyState _ | exact ih _ | exact keeps_pure _ _
        | exact keeps_raise _ _ | exact keeps_getState _ | refine keeps_bind ?_ fun _ => ?_
      | split
      | exact keeps_registers (fun _ => rfl) (fun _ => rfl) (fun _ => rfl) fun _ => rfl
      | dsimp only

theorem keeps_chooseProcess : Keeps State.Inv chooseProcess := by
  refine keeps_bind (keeps_memRead _) fun queue => ?_
  split
  · exact keeps_pure _ _
  · exact keeps_bind (keeps_memRead _) fun _ => keeps_findRunnable _ _ _

theorem keeps_reschedule (preemption : Bool) : Keeps State.Inv (reschedule preemption) := by
  unfold reschedule
  repeat' first
    | with_reducible first
      | exact keeps_saveProcess _ | exact keeps_chooseProcess | exact keeps_loadProcess | exact keeps_xfer _ _ _ _ | exact keeps_pure _ _
      | exact keeps_raise _ _ | exact keeps_getState _ | refine keeps_bind ?_ fun _ => ?_
    | split
    | exact keeps_registers (fun _ => rfl) (fun _ => rfl) (fun _ => rfl) fun _ => rfl

/-! ### Traps -/

theorem keeps_trap (entry : Word) : Keeps State.Inv (trap entry) :=
  keeps_bind (keeps_readDblMds _) fun _ =>
    keeps_bind (keeps_registers (fun _ => rfl) (fun _ => rfl) (fun _ => rfl) fun _ => rfl) fun _ =>
    keeps_bind keeps_savePC fun _ => keeps_bind (keeps_getState _) fun _ => keeps_xfer _ _ _ _

theorem keeps_storeParameter (k p : Word) : Keeps State.Inv (storeParameter k p) :=
  keeps_bind (keeps_getState _) fun _ => keeps_memWriteMds _ _

theorem keeps_faultState (psb : BitVec 10) : Keeps State.Inv (faultState psb) := keeps_noAbort _ (keeps_memRead _)

theorem keeps_storeFaultParameter (state k p : Word) : Keeps State.Inv (storeFaultParameter state k p) :=
  keeps_noAbort _ (keeps_memWrite _ _)

end Sys2Proof.Machine
end

