-- ==== Sys2Proof/Laws/PerInstr.lean ====
section
/-!
SUPPORT. Facts stated for each instruction as syntax, one lemma per constructor.
-/
namespace Sys2Proof.Laws.Encoded

/-- The encoding is an opcode byte and at most two bytes after it (30_encoding.md R161). -/
def Statement (i : Instr) : Prop := ∃ opcode rest, encode i = opcode :: rest ∧ rest.length ≤ 2

theorem llb (alpha : Byte) : Statement (.llb alpha) := ⟨_, _, rfl, Nat.le_of_ble_eq_true rfl⟩
theorem lldb (alpha : Byte) : Statement (.lldb alpha) := ⟨_, _, rfl, Nat.le_of_ble_eq_true rfl⟩
theorem slb (alpha : Byte) : Statement (.slb alpha) := ⟨_, _, rfl, Nat.le_of_ble_eq_true rfl⟩
theorem plb (alpha : Byte) : Statement (.plb alpha) := ⟨_, _, rfl, Nat.le_of_ble_eq_true rfl⟩
theorem pldb (alpha : Byte) : Statement (.pldb alpha) := ⟨_, _, rfl, Nat.le_of_ble_eq_true rfl⟩
theorem lgb (alpha : Byte) : Statement (.lgb alpha) := ⟨_, _, rfl, Nat.le_of_ble_eq_true rfl⟩
theorem lgdb (alpha : Byte) : Statement (.lgdb alpha) := ⟨_, _, rfl, Nat.le_of_ble_eq_true rfl⟩
theorem sgb (alpha : Byte) : Statement (.sgb alpha) := ⟨_, _, rfl, Nat.le_of_ble_eq_true rfl⟩
theorem rb (alpha : Byte) : Statement (.rb alpha) := ⟨_, _, rfl, Nat.le_of_ble_eq_true rfl⟩
theorem rlb (alpha : Byte) : Statement (.rlb alpha) := ⟨_, _, rfl, Nat.le_of_ble_eq_true rfl⟩
theorem rdb (alpha : Byte) : Statement (.rdb alpha) := ⟨_, _, rfl, Nat.le_of_ble_eq_true rfl⟩
theorem rdlb (alpha : Byte) : Statement (.rdlb alpha) := ⟨_, _, rfl, Nat.le_of_ble_eq_true rfl⟩
theorem wb (alpha : Byte) : Statement (.wb alpha) := ⟨_, _, rfl, Nat.le_of_ble_eq_true rfl⟩
theorem psb (alpha : Byte) : Statement (.psb alpha) := ⟨_, _, rfl, Nat.le_of_ble_eq_true rfl⟩
theorem wlb (alpha : Byte) : Statement (.wlb alpha) := ⟨_, _, rfl, Nat.le_of_ble_eq_true rfl⟩
theorem pslb (alpha : Byte) : Statement (.pslb alpha) := ⟨_, _, rfl, Nat.le_of_ble_eq_true rfl⟩
theorem wdb (alpha : Byte) : Statement (.wdb alpha) := ⟨_, _, rfl, Nat.le_of_ble_eq_true rfl⟩
theorem psdb (alpha : Byte) : Statement (.psdb alpha) := ⟨_, _, rfl, Nat.le_of_ble_eq_true rfl⟩
theorem wdlb (alpha : Byte) : Statement (.wdlb alpha) := ⟨_, _, rfl, Nat.le_of_ble_eq_true rfl⟩
theorem psdlb (alpha : Byte) : Statement (.psdlb alpha) := ⟨_, _, rfl, Nat.le_of_ble_eq_true rfl⟩
theorem rlip (left : Nibble) (right : Nibble) : Statement (.rlip left right) := ⟨_, _, rfl, Nat.le_of_ble_eq_true rfl⟩
theorem rlilp (left : Nibble) (right : Nibble) : Statement (.rlilp left right) := ⟨_, _, rfl, Nat.le_of_ble_eq_true rfl⟩
theorem rldip (left : Nibble) (right : Nibble) : Statement (.rldip left right) := ⟨_, _, rfl, Nat.le_of_ble_eq_true rfl⟩
theorem rldilp (left : Nibble) (right : Nibble) : Statement (.rldilp left right) := ⟨_, _, rfl, Nat.le_of_ble_eq_true rfl⟩
theorem rgip (left : Nibble) (right : Nibble) : Statement (.rgip left right) := ⟨_, _, rfl, Nat.le_of_ble_eq_true rfl⟩
theorem rgilp (left : Nibble) (right : Nibble) : Statement (.rgilp left right) := ⟨_, _, rfl, Nat.le_of_ble_eq_true rfl⟩
theorem wlip (left : Nibble) (right : Nibble) : Statement (.wlip left right) := ⟨_, _, rfl, Nat.le_of_ble_eq_true rfl⟩
theorem wlilp (left : Nibble) (right : Nibble) : Statement (.wlilp left right) := ⟨_, _, rfl, Nat.le_of_ble_eq_true rfl⟩
theorem wldilp (left : Nibble) (right : Nibble) : Statement (.wldilp left right) := ⟨_, _, rfl, Nat.le_of_ble_eq_true rfl⟩
theorem rs (alpha : Byte) : Statement (.rs alpha) := ⟨_, _, rfl, Nat.le_of_ble_eq_true rfl⟩
theorem rls (alpha : Byte) : Statement (.rls alpha) := ⟨_, _, rfl, Nat.le_of_ble_eq_true rfl⟩
theorem ws (alpha : Byte) : Statement (.ws alpha) := ⟨_, _, rfl, Nat.le_of_ble_eq_true rfl⟩
theorem wls (alpha : Byte) : Statement (.wls alpha) := ⟨_, _, rfl, Nat.le_of_ble_eq_true rfl⟩
theorem r0f (pos : Nibble) (size : Nibble) : Statement (.r0f pos size) := ⟨_, _, rfl, Nat.le_of_ble_eq_true rfl⟩
theorem rf (alpha : Byte) (pos : Nibble) (size : Nibble) : Statement (.rf alpha pos size) := ⟨_, _, rfl, Nat.le_of_ble_eq_true rfl⟩
theorem rl0f (pos : Nibble) (size : Nibble) : Statement (.rl0f pos size) := ⟨_, _, rfl, Nat.le_of_ble_eq_true rfl⟩
theorem rlf (alpha : Byte) (pos : Nibble) (size : Nibble) : Statement (.rlf alpha pos size) := ⟨_, _, rfl, Nat.le_of_ble_eq_true rfl⟩
theorem rlipf (left : Nibble) (right : Nibble) (pos : Nibble) (size : Nibble) : Statement (.rlipf left right pos size) := ⟨_, _, rfl, Nat.le_of_ble_eq_true rfl⟩
theorem rlilpf (left : Nibble) (right : Nibble) (pos : Nibble) (size : Nibble) : Statement (.rlilpf left right pos size) := ⟨_, _, rfl, Nat.le_of_ble_eq_true rfl⟩
theorem w0f (pos : Nibble) (size : Nibble) : Statement (.w0f pos size) := ⟨_, _, rfl, Nat.le_of_ble_eq_true rfl⟩
theorem wf (alpha : Byte) (pos : Nibble) (size : Nibble) : Statement (.wf alpha pos size) := ⟨_, _, rfl, Nat.le_of_ble_eq_true rfl⟩
theorem psf (alpha : Byte) (pos : Nibble) (size : Nibble) : Statement (.psf alpha pos size) := ⟨_, _, rfl, Nat.le_of_ble_eq_true rfl⟩
theorem ps0f (pos : Nibble) (size : Nibble) : Statement (.ps0f pos size) := ⟨_, _, rfl, Nat.le_of_ble_eq_true rfl⟩
theorem ws0f (pos : Nibble) (size : Nibble) : Statement (.ws0f pos size) := ⟨_, _, rfl, Nat.le_of_ble_eq_true rfl⟩
theorem wl0f (pos : Nibble) (size : Nibble) : Statement (.wl0f pos size) := ⟨_, _, rfl, Nat.le_of_ble_eq_true rfl⟩
theorem wlf (alpha : Byte) (pos : Nibble) (size : Nibble) : Statement (.wlf alpha pos size) := ⟨_, _, rfl, Nat.le_of_ble_eq_true rfl⟩
theorem pslf (alpha : Byte) (pos : Nibble) (size : Nibble) : Statement (.pslf alpha pos size) := ⟨_, _, rfl, Nat.le_of_ble_eq_true rfl⟩
theorem sldb (alpha : Byte) : Statement (.sldb alpha) := ⟨_, _, rfl, Nat.le_of_ble_eq_true rfl⟩
theorem sgdb (alpha : Byte) : Statement (.sgdb alpha) := ⟨_, _, rfl, Nat.le_of_ble_eq_true rfl⟩
theorem llkb (alpha : Byte) : Statement (.llkb alpha) := ⟨_, _, rfl, Nat.le_of_ble_eq_true rfl⟩
theorem rkib (alpha : Byte) : Statement (.rkib alpha) := ⟨_, _, rfl, Nat.le_of_ble_eq_true rfl⟩
theorem rkdib (alpha : Byte) : Statement (.rkdib alpha) := ⟨_, _, rfl, Nat.le_of_ble_eq_true rfl⟩
theorem lkb (alpha : Byte) : Statement (.lkb alpha) := ⟨_, _, rfl, Nat.le_of_ble_eq_true rfl⟩
theorem shiftsb (alpha : Byte) : Statement (.shiftsb alpha) := ⟨_, _, rfl, Nat.le_of_ble_eq_true rfl⟩
theorem catchByte (alpha : Byte) : Statement (.catchByte alpha) := ⟨_, _, rfl, Nat.le_of_ble_eq_true rfl⟩
theorem jb (alpha : Byte) : Statement (.jb alpha) := ⟨_, _, rfl, Nat.le_of_ble_eq_true rfl⟩
theorem jw (word : Word) : Statement (.jw word) := ⟨_, _, rfl, Nat.le_of_ble_eq_true rfl⟩
theorem jep (left : Nibble) (right : Nibble) : Statement (.jep left right) := ⟨_, _, rfl, Nat.le_of_ble_eq_true rfl⟩
theorem jeb (alpha : Byte) : Statement (.jeb alpha) := ⟨_, _, rfl, Nat.le_of_ble_eq_true rfl⟩
theorem jebb (alpha : Byte) (beta : Byte) : Statement (.jebb alpha beta) := ⟨_, _, rfl, Nat.le_of_ble_eq_true rfl⟩
theorem jnep (left : Nibble) (right : Nibble) : Statement (.jnep left right) := ⟨_, _, rfl, Nat.le_of_ble_eq_true rfl⟩
theorem jneb (alpha : Byte) : Statement (.jneb alpha) := ⟨_, _, rfl, Nat.le_of_ble_eq_true rfl⟩
theorem jnebb (alpha : Byte) (beta : Byte) : Statement (.jnebb alpha beta) := ⟨_, _, rfl, Nat.le_of_ble_eq_true rfl⟩
theorem jlb (alpha : Byte) : Statement (.jlb alpha) := ⟨_, _, rfl, Nat.le_of_ble_eq_true rfl⟩
theorem jgeb (alpha : Byte) : Statement (.jgeb alpha) := ⟨_, _, rfl, Nat.le_of_ble_eq_true rfl⟩
theorem jgb (alpha : Byte) : Statement (.jgb alpha) := ⟨_, _, rfl, Nat.le_of_ble_eq_true rfl⟩
theorem jleb (alpha : Byte) : Statement (.jleb alpha) := ⟨_, _, rfl, Nat.le_of_ble_eq_true rfl⟩
theorem julb (alpha : Byte) : Statement (.julb alpha) := ⟨_, _, rfl, Nat.le_of_ble_eq_true rfl⟩
theorem jugeb (alpha : Byte) : Statement (.jugeb alpha) := ⟨_, _, rfl, Nat.le_of_ble_eq_true rfl⟩
theorem jugb (alpha : Byte) : Statement (.jugb alpha) := ⟨_, _, rfl, Nat.le_of_ble_eq_true rfl⟩
theorem juleb (alpha : Byte) : Statement (.juleb alpha) := ⟨_, _, rfl, Nat.le_of_ble_eq_true rfl⟩
theorem jzb (alpha : Byte) : Statement (.jzb alpha) := ⟨_, _, rfl, Nat.le_of_ble_eq_true rfl⟩
theorem jnzb (alpha : Byte) : Statement (.jnzb alpha) := ⟨_, _, rfl, Nat.le_of_ble_eq_true rfl⟩
theorem jdeb (alpha : Byte) : Statement (.jdeb alpha) := ⟨_, _, rfl, Nat.le_of_ble_eq_true rfl⟩
theorem jdneb (alpha : Byte) : Statement (.jdneb alpha) := ⟨_, _, rfl, Nat.le_of_ble_eq_true rfl⟩
theorem jib (word : Word) : Statement (.jib word) := ⟨_, _, rfl, Nat.le_of_ble_eq_true rfl⟩
theorem jiw (word : Word) : Statement (.jiw word) := ⟨_, _, rfl, Nat.le_of_ble_eq_true rfl⟩
theorem addsb (alpha : Byte) : Statement (.addsb alpha) := ⟨_, _, rfl, Nat.le_of_ble_eq_true rfl⟩
theorem al0ib (alpha : Byte) : Statement (.al0ib alpha) := ⟨_, _, rfl, Nat.le_of_ble_eq_true rfl⟩
theorem lib (alpha : Byte) : Statement (.lib alpha) := ⟨_, _, rfl, Nat.le_of_ble_eq_true rfl⟩
theorem liw (word : Word) : Statement (.liw word) := ⟨_, _, rfl, Nat.le_of_ble_eq_true rfl⟩
theorem linb (alpha : Byte) : Statement (.linb alpha) := ⟨_, _, rfl, Nat.le_of_ble_eq_true rfl⟩
theorem lihb (alpha : Byte) : Statement (.lihb alpha) := ⟨_, _, rfl, Nat.le_of_ble_eq_true rfl⟩
theorem lab (alpha : Byte) : Statement (.lab alpha) := ⟨_, _, rfl, Nat.le_of_ble_eq_true rfl⟩
theorem law (word : Word) : Statement (.law word) := ⟨_, _, rfl, Nat.le_of_ble_eq_true rfl⟩
theorem gab (alpha : Byte) : Statement (.gab alpha) := ⟨_, _, rfl, Nat.le_of_ble_eq_true rfl⟩
theorem gaw (word : Word) : Statement (.gaw word) := ⟨_, _, rfl, Nat.le_of_ble_eq_true rfl⟩
theorem efcb (alpha : Byte) : Statement (.efcb alpha) := ⟨_, _, rfl, Nat.le_of_ble_eq_true rfl⟩
theorem lfc (word : Word) : Statement (.lfc word) := ⟨_, _, rfl, Nat.le_of_ble_eq_true rfl⟩
theorem kfcb (alpha : Byte) : Statement (.kfcb alpha) := ⟨_, _, rfl, Nat.le_of_ble_eq_true rfl⟩
theorem esc (code : Byte) : Statement (.esc code) := ⟨_, _, rfl, Nat.le_of_ble_eq_true rfl⟩
theorem escl (code : Byte) : Statement (.escl code) := ⟨_, _, rfl, Nat.le_of_ble_eq_true rfl⟩
theorem rc (alpha : Byte) : Statement (.rc alpha) := ⟨_, _, rfl, Nat.le_of_ble_eq_true rfl⟩
theorem rob (alpha : Byte) : Statement (.rob alpha) := ⟨_, _, rfl, Nat.le_of_ble_eq_true rfl⟩
theorem wob (alpha : Byte) : Statement (.wob alpha) := ⟨_, _, rfl, Nat.le_of_ble_eq_true rfl⟩
theorem dsk (alpha : Byte) : Statement (.dsk alpha) := ⟨_, _, rfl, Nat.le_of_ble_eq_true rfl⟩
theorem xe (alpha : Byte) : Statement (.xe alpha) := ⟨_, _, rfl, Nat.le_of_ble_eq_true rfl⟩
theorem xf (alpha : Byte) : Statement (.xf alpha) := ⟨_, _, rfl, Nat.le_of_ble_eq_true rfl⟩
theorem lsk (alpha : Byte) : Statement (.lsk alpha) := ⟨_, _, rfl, Nat.le_of_ble_eq_true rfl⟩
theorem ll0 : Statement .ll0 := ⟨_, _, rfl, Nat.le_of_ble_eq_true rfl⟩
theorem ll1 : Statement .ll1 := ⟨_, _, rfl, Nat.le_of_ble_eq_true rfl⟩
theorem ll2 : Statement .ll2 := ⟨_, _, rfl, Nat.le_of_ble_eq_true rfl⟩
theorem ll3 : Statement .ll3 := ⟨_, _, rfl, Nat.le_of_ble_eq_true rfl⟩
theorem ll4 : Statement .ll4 := ⟨_, _, rfl, Nat.le_of_ble_eq_true rfl⟩
theorem ll5 : Statement .ll5 := ⟨_, _, rfl, Nat.le_of_ble_eq_true rfl⟩
theorem ll6 : Statement .ll6 := ⟨_, _, rfl, Nat.le_of_ble_eq_true rfl⟩
theorem ll7 : Statement .ll7 := ⟨_, _, rfl, Nat.le_of_ble_eq_true rfl⟩
theorem ll8 : Statement .ll8 := ⟨_, _, rfl, Nat.le_of_ble_eq_true rfl⟩
theorem ll9 : Statement .ll9 := ⟨_, _, rfl, Nat.le_of_ble_eq_true rfl⟩
theorem ll10 : Statement .ll10 := ⟨_, _, rfl, Nat.le_of_ble_eq_true rfl⟩
theorem ll11 : Statement .ll11 := ⟨_, _, rfl, Nat.le_of_ble_eq_true rfl⟩
theorem lld0 : Statement .lld0 := ⟨_, _, rfl, Nat.le_of_ble_eq_true rfl⟩
theorem lld1 : Statement .lld1 := ⟨_, _, rfl, Nat.le_of_ble_eq_true rfl⟩
theorem lld2 : Statement .lld2 := ⟨_, _, rfl, Nat.le_of_ble_eq_true rfl⟩
theorem lld3 : Statement .lld3 := ⟨_, _, rfl, Nat.le_of_ble_eq_true rfl⟩
theorem lld4 : Statement .lld4 := ⟨_, _, rfl, Nat.le_of_ble_eq_true rfl⟩
theorem lld5 : Statement .lld5 := ⟨_, _, rfl, Nat.le_of_ble_eq_true rfl⟩
theorem lld6 : Statement .lld6 := ⟨_, _, rfl, Nat.le_of_ble_eq_true rfl⟩
theorem lld7 : Statement .lld7 := ⟨_, _, rfl, Nat.le_of_ble_eq_true rfl⟩
theorem lld8 : Statement .lld8 := ⟨_, _, rfl, Nat.le_of_ble_eq_true rfl⟩
theorem lld10 : Statement .lld10 := ⟨_, _, rfl, Nat.le_of_ble_eq_true rfl⟩
theorem sl0 : Statement .sl0 := ⟨_, _, rfl, Nat.le_of_ble_eq_true rfl⟩
theorem sl1 : Statement .sl1 := ⟨_, _, rfl, Nat.le_of_ble_eq_true rfl⟩
theorem sl2 : Statement .sl2 := ⟨_, _, rfl, Nat.le_of_ble_eq_true rfl⟩
theorem sl3 : Statement .sl3 := ⟨_, _, rfl, Nat.le_of_ble_eq_true rfl⟩
theorem sl4 : Statement .sl4 := ⟨_, _, rfl, Nat.le_of_ble_eq_true rfl⟩
theorem sl5 : Statement .sl5 := ⟨_, _, rfl, Nat.le_of_ble_eq_true rfl⟩
theorem sl6 : Statement .sl6 := ⟨_, _, rfl, Nat.le_of_ble_eq_true rfl⟩
theorem sl7 : Statement .sl7 := ⟨_, _, rfl, Nat.le_of_ble_eq_true rfl⟩
theorem sl8 : Statement .sl8 := ⟨_, _, rfl, Nat.le_of_ble_eq_true rfl⟩
theorem sl9 : Statement .sl9 := ⟨_, _, rfl, Nat.le_of_ble_eq_true rfl⟩
theorem sl10 : Statement .sl10 := ⟨_, _, rfl, Nat.le_of_ble_eq_true rfl⟩
theorem sld0 : Statement .sld0 := ⟨_, _, rfl, Nat.le_of_ble_eq_true rfl⟩
theorem sld1 : Statement .sld1 := ⟨_, _, rfl, Nat.le_of_ble_eq_true rfl⟩
theorem sld2 : Statement .sld2 := ⟨_, _, rfl, Nat.le_of_ble_eq_true rfl⟩
theorem sld3 : Statement .sld3 := ⟨_, _, rfl, Nat.le_of_ble_eq_true rfl⟩
theorem sld4 : Statement .sld4 := ⟨_, _, rfl, Nat.le_of_ble_eq_true rfl⟩
theorem sld5 : Statement .sld5 := ⟨_, _, rfl, Nat.le_of_ble_eq_true rfl⟩
theorem sld6 : Statement .sld6 := ⟨_, _, rfl, Nat.le_of_ble_eq_true rfl⟩
theorem sld8 : Statement .sld8 := ⟨_, _, rfl, Nat.le_of_ble_eq_true rfl⟩
theorem pl0 : Statement .pl0 := ⟨_, _, rfl, Nat.le_of_ble_eq_true rfl⟩
theorem pl1 : Statement .pl1 := ⟨_, _, rfl, Nat.le_of_ble_eq_true rfl⟩
theorem pl2 : Statement .pl2 := ⟨_, _, rfl, Nat.le_of_ble_eq_true rfl⟩
theorem pl3 : Statement .pl3 := ⟨_, _, rfl, Nat.le_of_ble_eq_true rfl⟩
theorem pld0 : Statement .pld0 := ⟨_, _, rfl, Nat.le_of_ble_eq_true rfl⟩
theorem lg0 : Statement .lg0 := ⟨_, _, rfl, Nat.le_of_ble_eq_true rfl⟩
theorem lg1 : Statement .lg1 := ⟨_, _, rfl, Nat.le_of_ble_eq_true rfl⟩
theorem lg2 : Statement .lg2 := ⟨_, _, rfl, Nat.le_of_ble_eq_true rfl⟩
theorem lgd0 : Statement .lgd0 := ⟨_, _, rfl, Nat.le_of_ble_eq_true rfl⟩
theorem lgd2 : Statement .lgd2 := ⟨_, _, rfl, Nat.le_of_ble_eq_true rfl⟩
theorem bndck : Statement .bndck := ⟨_, _, rfl, Nat.le_of_ble_eq_true rfl⟩
theorem brk : Statement .brk := ⟨_, _, rfl, Nat.le_of_ble_eq_true rfl⟩
theorem r0 : Statement .r0 := ⟨_, _, rfl, Nat.le_of_ble_eq_true rfl⟩
theorem r1 : Statement .r1 := ⟨_, _, rfl, Nat.le_of_ble_eq_true rfl⟩
theorem rl0 : Statement .rl0 := ⟨_, _, rfl, Nat.le_of_ble_eq_true rfl⟩
theorem rd0 : Statement .rd0 := ⟨_, _, rfl, Nat.le_of_ble_eq_true rfl⟩
theorem rdl0 : Statement .rdl0 := ⟨_, _, rfl, Nat.le_of_ble_eq_true rfl⟩
theorem w0 : Statement .w0 := ⟨_, _, rfl, Nat.le_of_ble_eq_true rfl⟩
theorem psd0 : Statement .psd0 := ⟨_, _, rfl, Nat.le_of_ble_eq_true rfl⟩
theorem rli00 : Statement .rli00 := ⟨_, _, rfl, Nat.le_of_ble_eq_true rfl⟩
theorem rli01 : Statement .rli01 := ⟨_, _, rfl, Nat.le_of_ble_eq_true rfl⟩
theorem rli02 : Statement .rli02 := ⟨_, _, rfl, Nat.le_of_ble_eq_true rfl⟩
theorem rli03 : Statement .rli03 := ⟨_, _, rfl, Nat.le_of_ble_eq_true rfl⟩
theorem rldi00 : Statement .rldi00 := ⟨_, _, rfl, Nat.le_of_ble_eq_true rfl⟩
theorem rlfs : Statement .rlfs := ⟨_, _, rfl, Nat.le_of_ble_eq_true rfl⟩
theorem wlfs : Statement .wlfs := ⟨_, _, rfl, Nat.le_of_ble_eq_true rfl⟩
theorem shift : Statement .shift := ⟨_, _, rfl, Nat.le_of_ble_eq_true rfl⟩
theorem j2 : Statement .j2 := ⟨_, _, rfl, Nat.le_of_ble_eq_true rfl⟩
theorem j3 : Statement .j3 := ⟨_, _, rfl, Nat.le_of_ble_eq_true rfl⟩
theorem j4 : Statement .j4 := ⟨_, _, rfl, Nat.le_of_ble_eq_true rfl⟩
theorem j5 : Statement .j5 := ⟨_, _, rfl, Nat.le_of_ble_eq_true rfl⟩
theorem j6 : Statement .j6 := ⟨_, _, rfl, Nat.le_of_ble_eq_true rfl⟩
theorem j7 : Statement .j7 := ⟨_, _, rfl, Nat.le_of_ble_eq_true rfl⟩
theorem j8 : Statement .j8 := ⟨_, _, rfl, Nat.le_of_ble_eq_true rfl⟩
theorem jz3 : Statement .jz3 := ⟨_, _, rfl, Nat.le_of_ble_eq_true rfl⟩
theorem jz4 : Statement .jz4 := ⟨_, _, rfl, Nat.le_of_ble_eq_true rfl⟩
theorem jnz3 : Statement .jnz3 := ⟨_, _, rfl, Nat.le_of_ble_eq_true rfl⟩
theorem jnz4 : Statement .jnz4 := ⟨_, _, rfl, Nat.le_of_ble_eq_true rfl⟩
theorem recover : Statement .recover := ⟨_, _, rfl, Nat.le_of_ble_eq_true rfl⟩
theorem recover2 : Statement .recover2 := ⟨_, _, rfl, Nat.le_of_ble_eq_true rfl⟩
theorem dis : Statement .dis := ⟨_, _, rfl, Nat.le_of_ble_eq_true rfl⟩
theorem dis2 : Statement .dis2 := ⟨_, _, rfl, Nat.le_of_ble_eq_true rfl⟩
theorem exch : Statement .exch := ⟨_, _, rfl, Nat.le_of_ble_eq_true rfl⟩
theorem dexch : Statement .dexch := ⟨_, _, rfl, Nat.le_of_ble_eq_true rfl⟩
theorem dup : Statement .dup := ⟨_, _, rfl, Nat.le_of_ble_eq_true rfl⟩
theorem ddup : Statement .ddup := ⟨_, _, rfl, Nat.le_of_ble_eq_true rfl⟩
theorem exdis : Statement .exdis := ⟨_, _, rfl, Nat.le_of_ble_eq_true rfl⟩
theorem neg : Statement .neg := ⟨_, _, rfl, Nat.le_of_ble_eq_true rfl⟩
theorem inc : Statement .inc := ⟨_, _, rfl, Nat.le_of_ble_eq_true rfl⟩
theorem dec : Statement .dec := ⟨_, _, rfl, Nat.le_of_ble_eq_true rfl⟩
theorem dinc : Statement .dinc := ⟨_, _, rfl, Nat.le_of_ble_eq_true rfl⟩
theorem dbl : Statement .dbl := ⟨_, _, rfl, Nat.le_of_ble_eq_true rfl⟩
theorem ddbl : Statement .ddbl := ⟨_, _, rfl, Nat.le_of_ble_eq_true rfl⟩
theorem trpl : Statement .trpl := ⟨_, _, rfl, Nat.le_of_ble_eq_true rfl⟩
theorem and : Statement .and := ⟨_, _, rfl, Nat.le_of_ble_eq_true rfl⟩
theorem ior : Statement .ior := ⟨_, _, rfl, Nat.le_of_ble_eq_true rfl⟩
theorem add : Statement .add := ⟨_, _, rfl, Nat.le_of_ble_eq_true rfl⟩
theorem sub : Statement .sub := ⟨_, _, rfl, Nat.le_of_ble_eq_true rfl⟩
theorem dadd : Statement .dadd := ⟨_, _, rfl, Nat.le_of_ble_eq_true rfl⟩
theorem dsub : Statement .dsub := ⟨_, _, rfl, Nat.le_of_ble_eq_true rfl⟩
theorem adc : Statement .adc := ⟨_, _, rfl, Nat.le_of_ble_eq_true rfl⟩
theorem acd : Statement .acd := ⟨_, _, rfl, Nat.le_of_ble_eq_true rfl⟩
theorem mul : Statement .mul := ⟨_, _, rfl, Nat.le_of_ble_eq_true rfl⟩
theorem dcmp : Statement .dcmp := ⟨_, _, rfl, Nat.le_of_ble_eq_true rfl⟩
theorem udcmp : Statement .udcmp := ⟨_, _, rfl, Nat.le_of_ble_eq_true rfl⟩
theorem li0 : Statement .li0 := ⟨_, _, rfl, Nat.le_of_ble_eq_true rfl⟩
theorem li1 : Statement .li1 := ⟨_, _, rfl, Nat.le_of_ble_eq_true rfl⟩
theorem li2 : Statement .li2 := ⟨_, _, rfl, Nat.le_of_ble_eq_true rfl⟩
theorem li3 : Statement .li3 := ⟨_, _, rfl, Nat.le_of_ble_eq_true rfl⟩
theorem li4 : Statement .li4 := ⟨_, _, rfl, Nat.le_of_ble_eq_true rfl⟩
theorem li5 : Statement .li5 := ⟨_, _, rfl, Nat.le_of_ble_eq_true rfl⟩
theorem li6 : Statement .li6 := ⟨_, _, rfl, Nat.le_of_ble_eq_true rfl⟩
theorem li7 : Statement .li7 := ⟨_, _, rfl, Nat.le_of_ble_eq_true rfl⟩
theorem li8 : Statement .li8 := ⟨_, _, rfl, Nat.le_of_ble_eq_true rfl⟩
theorem li9 : Statement .li9 := ⟨_, _, rfl, Nat.le_of_ble_eq_true rfl⟩
theorem li10 : Statement .li10 := ⟨_, _, rfl, Nat.le_of_ble_eq_true rfl⟩
theorem lin1 : Statement .lin1 := ⟨_, _, rfl, Nat.le_of_ble_eq_true rfl⟩
theorem lini : Statement .lini := ⟨_, _, rfl, Nat.le_of_ble_eq_true rfl⟩
theorem lid0 : Statement .lid0 := ⟨_, _, rfl, Nat.le_of_ble_eq_true rfl⟩
theorem la0 : Statement .la0 := ⟨_, _, rfl, Nat.le_of_ble_eq_true rfl⟩
theorem la1 : Statement .la1 := ⟨_, _, rfl, Nat.le_of_ble_eq_true rfl⟩
theorem la2 : Statement .la2 := ⟨_, _, rfl, Nat.le_of_ble_eq_true rfl⟩
theorem la3 : Statement .la3 := ⟨_, _, rfl, Nat.le_of_ble_eq_true rfl⟩
theorem la6 : Statement .la6 := ⟨_, _, rfl, Nat.le_of_ble_eq_true rfl⟩
theorem la8 : Statement .la8 := ⟨_, _, rfl, Nat.le_of_ble_eq_true rfl⟩
theorem ga0 : Statement .ga0 := ⟨_, _, rfl, Nat.le_of_ble_eq_true rfl⟩
theorem ga1 : Statement .ga1 := ⟨_, _, rfl, Nat.le_of_ble_eq_true rfl⟩
theorem efc0 : Statement .efc0 := ⟨_, _, rfl, Nat.le_of_ble_eq_true rfl⟩
theorem efc1 : Statement .efc1 := ⟨_, _, rfl, Nat.le_of_ble_eq_true rfl⟩
theorem efc2 : Statement .efc2 := ⟨_, _, rfl, Nat.le_of_ble_eq_true rfl⟩
theorem efc3 : Statement .efc3 := ⟨_, _, rfl, Nat.le_of_ble_eq_true rfl⟩
theorem efc4 : Statement .efc4 := ⟨_, _, rfl, Nat.le_of_ble_eq_true rfl⟩
theorem efc5 : Statement .efc5 := ⟨_, _, rfl, Nat.le_of_ble_eq_true rfl⟩
theorem efc6 : Statement .efc6 := ⟨_, _, rfl, Nat.le_of_ble_eq_true rfl⟩
theorem efc7 : Statement .efc7 := ⟨_, _, rfl, Nat.le_of_ble_eq_true rfl⟩
theorem efc8 : Statement .efc8 := ⟨_, _, rfl, Nat.le_of_ble_eq_true rfl⟩
theorem efc9 : Statement .efc9 := ⟨_, _, rfl, Nat.le_of_ble_eq_true rfl⟩
theorem efc10 : Statement .efc10 := ⟨_, _, rfl, Nat.le_of_ble_eq_true rfl⟩
theorem efc11 : Statement .efc11 := ⟨_, _, rfl, Nat.le_of_ble_eq_true rfl⟩
theorem efc12 : Statement .efc12 := ⟨_, _, rfl, Nat.le_of_ble_eq_true rfl⟩
theorem sfc : Statement .sfc := ⟨_, _, rfl, Nat.le_of_ble_eq_true rfl⟩
theorem ret : Statement .ret := ⟨_, _, rfl, Nat.le_of_ble_eq_true rfl⟩
theorem me : Statement .me := ⟨_, _, rfl, Nat.le_of_ble_eq_true rfl⟩
theorem mx : Statement .mx := ⟨_, _, rfl, Nat.le_of_ble_eq_true rfl⟩
theorem blt : Statement .blt := ⟨_, _, rfl, Nat.le_of_ble_eq_true rfl⟩
theorem bltl : Statement .bltl := ⟨_, _, rfl, Nat.le_of_ble_eq_true rfl⟩
theorem bltc : Statement .bltc := ⟨_, _, rfl, Nat.le_of_ble_eq_true rfl⟩
theorem bltcl : Statement .bltcl := ⟨_, _, rfl, Nat.le_of_ble_eq_true rfl⟩
theorem lp : Statement .lp := ⟨_, _, rfl, Nat.le_of_ble_eq_true rfl⟩
theorem mw : Statement .mw := ⟨_, _, rfl, Nat.le_of_ble_eq_true rfl⟩
theorem mr : Statement .mr := ⟨_, _, rfl, Nat.le_of_ble_eq_true rfl⟩
theorem nc : Statement .nc := ⟨_, _, rfl, Nat.le_of_ble_eq_true rfl⟩
theorem bc : Statement .bc := ⟨_, _, rfl, Nat.le_of_ble_eq_true rfl⟩
theorem req : Statement .req := ⟨_, _, rfl, Nat.le_of_ble_eq_true rfl⟩
theorem sm : Statement .sm := ⟨_, _, rfl, Nat.le_of_ble_eq_true rfl⟩
theorem smf : Statement .smf := ⟨_, _, rfl, Nat.le_of_ble_eq_true rfl⟩
theorem gmf : Statement .gmf := ⟨_, _, rfl, Nat.le_of_ble_eq_true rfl⟩
theorem af : Statement .af := ⟨_, _, rfl, Nat.le_of_ble_eq_true rfl⟩
theorem ff : Statement .ff := ⟨_, _, rfl, Nat.le_of_ble_eq_true rfl⟩
theorem pi : Statement .pi := ⟨_, _, rfl, Nat.le_of_ble_eq_true rfl⟩
theorem po : Statement .po := ⟨_, _, rfl, Nat.le_of_ble_eq_true rfl⟩
theorem por : Statement .por := ⟨_, _, rfl, Nat.le_of_ble_eq_true rfl⟩
theorem spp : Statement .spp := ⟨_, _, rfl, Nat.le_of_ble_eq_true rfl⟩
theorem di : Statement .di := ⟨_, _, rfl, Nat.le_of_ble_eq_true rfl⟩
theorem ei : Statement .ei := ⟨_, _, rfl, Nat.le_of_ble_eq_true rfl⟩
theorem xor : Statement .xor := ⟨_, _, rfl, Nat.le_of_ble_eq_true rfl⟩
theorem dand : Statement .dand := ⟨_, _, rfl, Nat.le_of_ble_eq_true rfl⟩
theorem dior : Statement .dior := ⟨_, _, rfl, Nat.le_of_ble_eq_true rfl⟩
theorem dxor : Statement .dxor := ⟨_, _, rfl, Nat.le_of_ble_eq_true rfl⟩
theorem rotate : Statement .rotate := ⟨_, _, rfl, Nat.le_of_ble_eq_true rfl⟩
theorem dshift : Statement .dshift := ⟨_, _, rfl, Nat.le_of_ble_eq_true rfl⟩
theorem lint : Statement .lint := ⟨_, _, rfl, Nat.le_of_ble_eq_true rfl⟩
theorem js : Statement .js := ⟨_, _, rfl, Nat.le_of_ble_eq_true rfl⟩
theorem rcfs : Statement .rcfs := ⟨_, _, rfl, Nat.le_of_ble_eq_true rfl⟩
theorem udiv : Statement .udiv := ⟨_, _, rfl, Nat.le_of_ble_eq_true rfl⟩
theorem ludiv : Statement .ludiv := ⟨_, _, rfl, Nat.le_of_ble_eq_true rfl⟩
theorem bndckl : Statement .bndckl := ⟨_, _, rfl, Nat.le_of_ble_eq_true rfl⟩
theorem nilck : Statement .nilck := ⟨_, _, rfl, Nat.le_of_ble_eq_true rfl⟩
theorem nilckl : Statement .nilckl := ⟨_, _, rfl, Nat.le_of_ble_eq_true rfl⟩
theorem bltlr : Statement .bltlr := ⟨_, _, rfl, Nat.le_of_ble_eq_true rfl⟩
theorem blel : Statement .blel := ⟨_, _, rfl, Nat.le_of_ble_eq_true rfl⟩
theorem blecl : Statement .blecl := ⟨_, _, rfl, Nat.le_of_ble_eq_true rfl⟩
theorem cksum : Statement .cksum := ⟨_, _, rfl, Nat.le_of_ble_eq_true rfl⟩
theorem bitblt : Statement .bitblt := ⟨_, _, rfl, Nat.le_of_ble_eq_true rfl⟩
theorem txtblt : Statement .txtblt := ⟨_, _, rfl, Nat.le_of_ble_eq_true rfl⟩
theorem bytblt : Statement .bytblt := ⟨_, _, rfl, Nat.le_of_ble_eq_true rfl⟩
theorem bytbltr : Statement .bytbltr := ⟨_, _, rfl, Nat.le_of_ble_eq_true rfl⟩
theorem version : Statement .version := ⟨_, _, rfl, Nat.le_of_ble_eq_true rfl⟩
theorem dmul : Statement .dmul := ⟨_, _, rfl, Nat.le_of_ble_eq_true rfl⟩
theorem sdiv : Statement .sdiv := ⟨_, _, rfl, Nat.le_of_ble_eq_true rfl⟩
theorem sddiv : Statement .sddiv := ⟨_, _, rfl, Nat.le_of_ble_eq_true rfl⟩
theorem uddiv : Statement .uddiv := ⟨_, _, rfl, Nat.le_of_ble_eq_true rfl⟩
theorem fadd : Statement .fadd := ⟨_, _, rfl, Nat.le_of_ble_eq_true rfl⟩
theorem fsub : Statement .fsub := ⟨_, _, rfl, Nat.le_of_ble_eq_true rfl⟩
theorem fmul : Statement .fmul := ⟨_, _, rfl, Nat.le_of_ble_eq_true rfl⟩
theorem fdiv : Statement .fdiv := ⟨_, _, rfl, Nat.le_of_ble_eq_true rfl⟩
theorem fcomp : Statement .fcomp := ⟨_, _, rfl, Nat.le_of_ble_eq_true rfl⟩
theorem fix : Statement .fix := ⟨_, _, rfl, Nat.le_of_ble_eq_true rfl⟩
theorem float : Statement .float := ⟨_, _, rfl, Nat.le_of_ble_eq_true rfl⟩
theorem fixi : Statement .fixi := ⟨_, _, rfl, Nat.le_of_ble_eq_true rfl⟩
theorem fixc : Statement .fixc := ⟨_, _, rfl, Nat.le_of_ble_eq_true rfl⟩
theorem fsticky : Statement .fsticky := ⟨_, _, rfl, Nat.le_of_ble_eq_true rfl⟩
theorem frem : Statement .frem := ⟨_, _, rfl, Nat.le_of_ble_eq_true rfl⟩
theorem round : Statement .round := ⟨_, _, rfl, Nat.le_of_ble_eq_true rfl⟩
theorem roundi : Statement .roundi := ⟨_, _, rfl, Nat.le_of_ble_eq_true rfl⟩
theorem roundc : Statement .roundc := ⟨_, _, rfl, Nat.le_of_ble_eq_true rfl⟩
theorem fsqrt : Statement .fsqrt := ⟨_, _, rfl, Nat.le_of_ble_eq_true rfl⟩
theorem fsc : Statement .fsc := ⟨_, _, rfl, Nat.le_of_ble_eq_true rfl⟩
theorem reclaimref : Statement .reclaimref := ⟨_, _, rfl, Nat.le_of_ble_eq_true rfl⟩
theorem altercount : Statement .altercount := ⟨_, _, rfl, Nat.le_of_ble_eq_true rfl⟩
theorem resetstkbits : Statement .resetstkbits := ⟨_, _, rfl, Nat.le_of_ble_eq_true rfl⟩
theorem gcsetup : Statement .gcsetup := ⟨_, _, rfl, Nat.le_of_ble_eq_true rfl⟩
theorem a144 : Statement .a144 := ⟨_, _, rfl, Nat.le_of_ble_eq_true rfl⟩
theorem enumeratereclaimable : Statement .enumeratereclaimable := ⟨_, _, rfl, Nat.le_of_ble_eq_true rfl⟩
theorem a146 : Statement .a146 := ⟨_, _, rfl, Nat.le_of_ble_eq_true rfl⟩
theorem createref : Statement .createref := ⟨_, _, rfl, Nat.le_of_ble_eq_true rfl⟩
theorem a150 : Statement .a150 := ⟨_, _, rfl, Nat.le_of_ble_eq_true rfl⟩
theorem reftype : Statement .reftype := ⟨_, _, rfl, Nat.le_of_ble_eq_true rfl⟩
theorem canonicalreftype : Statement .canonicalreftype := ⟨_, _, rfl, Nat.le_of_ble_eq_true rfl⟩
theorem allocquantized : Statement .allocquantized := ⟨_, _, rfl, Nat.le_of_ble_eq_true rfl⟩
theorem allocheap : Statement .allocheap := ⟨_, _, rfl, Nat.le_of_ble_eq_true rfl⟩
theorem freeobject : Statement .freeobject := ⟨_, _, rfl, Nat.le_of_ble_eq_true rfl⟩
theorem freequantized : Statement .freequantized := ⟨_, _, rfl, Nat.le_of_ble_eq_true rfl⟩
theorem freeprefixed : Statement .freeprefixed := ⟨_, _, rfl, Nat.le_of_ble_eq_true rfl⟩
theorem wrpsb : Statement .wrpsb := ⟨_, _, rfl, Nat.le_of_ble_eq_true rfl⟩
theorem wrmds : Statement .wrmds := ⟨_, _, rfl, Nat.le_of_ble_eq_true rfl⟩
theorem wrwp : Statement .wrwp := ⟨_, _, rfl, Nat.le_of_ble_eq_true rfl⟩
theorem wrwdc : Statement .wrwdc := ⟨_, _, rfl, Nat.le_of_ble_eq_true rfl⟩
theorem wrptc : Statement .wrptc := ⟨_, _, rfl, Nat.le_of_ble_eq_true rfl⟩
theorem writ : Statement .writ := ⟨_, _, rfl, Nat.le_of_ble_eq_true rfl⟩
theorem wrxts : Statement .wrxts := ⟨_, _, rfl, Nat.le_of_ble_eq_true rfl⟩
theorem wrmp : Statement .wrmp := ⟨_, _, rfl, Nat.le_of_ble_eq_true rfl⟩
theorem rrpsb : Statement .rrpsb := ⟨_, _, rfl, Nat.le_of_ble_eq_true rfl⟩
theorem rrmds : Statement .rrmds := ⟨_, _, rfl, Nat.le_of_ble_eq_true rfl⟩
theorem rrwp : Statement .rrwp := ⟨_, _, rfl, Nat.le_of_ble_eq_true rfl⟩
theorem rrwdc : Statement .rrwdc := ⟨_, _, rfl, Nat.le_of_ble_eq_true rfl⟩
theorem rrptc : Statement .rrptc := ⟨_, _, rfl, Nat.le_of_ble_eq_true rfl⟩
theorem rrit : Statement .rrit := ⟨_, _, rfl, Nat.le_of_ble_eq_true rfl⟩
theorem rrxts : Statement .rrxts := ⟨_, _, rfl, Nat.le_of_ble_eq_true rfl⟩
theorem input : Statement .input := ⟨_, _, rfl, Nat.le_of_ble_eq_true rfl⟩
theorem output : Statement .output := ⟨_, _, rfl, Nat.le_of_ble_eq_true rfl⟩
theorem loadramj : Statement .loadramj := ⟨_, _, rfl, Nat.le_of_ble_eq_true rfl⟩
theorem bandblt : Statement .bandblt := ⟨_, _, rfl, Nat.le_of_ble_eq_true rfl⟩

end Sys2Proof.Laws.Encoded
end

