-- ==== Sys2Proof/Laws/Step.lean ====
section
/-!
SUPPORT. What a step can do, and what the parameter `P.implemented` decides.
-/
namespace Sys2Proof.Machine

/-- Where the devices have nothing to do, a step is the processor's. -/
theorem step_of_no_devices {s : State} (h : s.devices = []) : step s = processorStep s := by
  rw [step, afterDevices_idle h]

/-- Once booted, a step goes on in one of three ways after the checks of the main loop: it reschedules, executes an
instruction, or polls; an abort of the checks is delivered (30_encoding.md R170). -/
theorem step_next {s t : State} (hb : s.afterDevices.booted = true) (h : step s = .next t) :
    (∃ r, checkEvents s.afterDevices = .ok true r ∧ run (reschedule true) r = .next t)
      ∨ (∃ r, checkEvents s.afterDevices = .ok false r ∧ r.running = true ∧ execute r = .next t)
      ∨ (checkEvents s.afterDevices = .ok false t ∧ t.running = false)
      ∨ ∃ a r, checkEvents s.afterDevices = .error a r ∧ deliver a r = .next t := by
  simp only [step, processorStep, hb, if_true, iterate] at h
  split at h
  · exact .inr (.inr (.inr ⟨_, _, by assumption, h⟩))
  · rename_i event r hc
    cases event
    · by_cases hr : r.running = true
      · exact .inr (.inl ⟨r, hc, hr, by simpa [hr] using h⟩)
      · have : r = t := by simpa [hr] using h
        exact .inr (.inr (.inl (this ▸ ⟨hc, by simpa using hr⟩)))
    · exact .inl ⟨r, hc, by simpa using h⟩

/-- An instruction outside `P.implemented` raises `EscOpcodeTrap` with its second byte (decision D2, log entry 16). -/
theorem exec_not_implemented {i : Instr} (h : Config.implemented i = false) :
    exec i = run (unimplemented ((encode i).getD 1 0)) := by
  have hm : i ∈ Config.listedOnly := by simpa [Config.implemented] using h
  have all : ∀ j ∈ Config.listedOnly, exec j = run (unimplemented ((encode j).getD 1 0)) := by
    simp only [Config.listedOnly, List.forall_mem_cons, List.not_mem_nil, false_imp_iff, implies_true, and_true]
    and_intros <;> rfl
  exact all i hm

end Sys2Proof.Machine
end

