-- ==== Sys2Proof/Laws/Transfer.lean ====
section
/-!
SUPPORT. What the routines of a control transfer do when their accesses go through and no trap is due.
-/
namespace Sys2Proof.Machine

/-- `CheckForXferTraps` with the low bit of `XTS` clear only shifts `XTS` (60_exceptions.md R790). -/
theorem checkForXferTraps_off {dst : LongWord} {type : XferType} {s : State} (h : s.xts.getLsbD 0 = false) :
    checkForXferTraps dst type s = .ok () { s with xts := s.xts >>> 1 } := by
  unfold checkForXferTraps
  rw [getState_bind, if_neg (by rw [h]; decide)]
  rfl

/-- A link that is not indirect is its own resolution. -/
theorem resolveLink_direct {n : Nat} {type : XferType} {link : LongWord} {followed : Bool} {s : State}
    (h : controlLinkType link ≠ .indirect) : resolveLink (n + 1) type link followed s = .ok (link, followed) s := by
  unfold resolveLink
  rw [if_neg h]
  rfl

/-- `Alloc` with a frame in the free list (47_control_transfers.md R599). -/
theorem alloc_run {s : State} {fsi item : Word} (hd : s.devices = []) (hc : s.mapCanonical = true)
    (hw : s.canWrite (s.lengthen (avEntry fsi)) = true) (hi : s.wordAt (s.lengthen (avEntry fsi)) = item)
    (htag : item &&& 3 = 0) (hr : s.canRead (s.lengthen item) = true) :
    alloc fsi s = .ok item (((s.loaded (s.lengthen (avEntry fsi))).loaded (s.lengthen item)).stored
      (s.lengthen (avEntry fsi)) (s.wordAt (s.lengthen item))) := by
  have hread := canRead_of_canWrite hw
  have hfind : findFrame 257 fsi s = .ok (fsi, item) (s.loaded (s.lengthen (avEntry fsi))) := by
    unfold findFrame
    rw [bind_ok (memReadMds_run hd hread), hi, htag, if_neg (by decide)]
    rfl
  unfold alloc
  rw [bind_ok hfind]
  dsimp only
  rw [htag, if_neg (by decide), if_neg (by decide)]
  rw [bind_ok (memReadMds_run (s := s.loaded (s.lengthen (avEntry fsi))) (p := item) (by simpa using hd)
    (by rw [State.loaded_lengthen, canRead_loaded hc hread]; exact hr))]
  rw [State.loaded_lengthen, wordAt_loaded hc hread]
  rw [bind_ok (memWriteMds_run _ (by simpa using hd) (by
    rw [State.loaded_lengthen, State.loaded_lengthen,
      canWrite_loaded (loaded_canonical hc) (by rw [canRead_loaded hc hread]; exact hr), canWrite_loaded hc hread]
    exact hw))]
  rw [State.loaded_lengthen, State.loaded_lengthen]
  rfl

/-- `Free` (47_control_transfers.md R600). -/
theorem freeFrame_run {s : State} {frame slot item : Word} (hd : s.devices = []) (hc : s.mapCanonical = true)
    (h : s.canFree frame slot item) :
    freeFrame frame s = .ok () ((((s.loaded (s.lengthen (frame - 4))).loaded (s.lengthen slot)).stored
      (s.lengthen frame) item).stored (s.lengthen slot) frame) := by
  obtain ⟨h4, hs, hw, hitem⟩ := h
  simp only [State.canWriteAll, List.all_cons, List.all_nil, Bool.and_true, Bool.and_eq_true] at hw
  obtain ⟨hslot, hframe⟩ := hw
  have hc1 := loaded_canonical (va := s.lengthen (frame - 4)) hc
  have hr1 : (s.loaded (s.lengthen (frame - 4))).canRead (s.lengthen slot) = true := by
    rw [canRead_loaded hc h4]; exact canRead_of_canWrite hslot
  have hc2 := loaded_canonical (va := s.lengthen slot) hc1
  have hcw : ∀ va, ((s.loaded (s.lengthen (frame - 4))).loaded (s.lengthen slot)).canWrite va = s.canWrite va :=
    fun va => by rw [canWrite_loaded hc1 hr1, canWrite_loaded hc h4]
  have hread : memReadMds slot (s.loaded (s.lengthen (frame - 4))) =
      .ok item ((s.loaded (s.lengthen (frame - 4))).loaded (s.lengthen slot)) := by
    rw [memReadMds_run (by simpa using hd) (by rw [State.loaded_lengthen]; exact hr1), State.loaded_lengthen, wordAt_loaded hc h4, hitem]
  have hwrite : memWriteMds frame item ((s.loaded (s.lengthen (frame - 4))).loaded (s.lengthen slot)) =
      .ok () (((s.loaded (s.lengthen (frame - 4))).loaded (s.lengthen slot)).stored (s.lengthen frame) item) := by
    rw [memWriteMds_run _ (by simpa using hd) (by rw [hcw, State.loaded_lengthen, State.loaded_lengthen]; exact hframe),
      State.loaded_lengthen, State.loaded_lengthen]
  unfold freeFrame
  rw [bind_ok (memReadMds_run hd h4), ← hs, bind_ok hread, bind_ok hwrite,
    memWriteMds_run _ (by simpa using hd) (by
      rw [canWrite_stored hc2 (by rw [hcw]; exact hframe), hcw, State.stored_lengthen, State.loaded_lengthen,
        State.loaded_lengthen]
      exact hslot),
    State.stored_lengthen, State.loaded_lengthen, State.loaded_lengthen]

/-- `CB` is loaded from a global frame with an even code base (47_control_transfers.md R610, R611). -/
theorem loadCodeBase_run {s : State} {gf : Word} (hd : s.devices = []) (hc : s.mapCanonical = true)
    (hr : s.canReadLong (s.lengthen (gf - 2)) = true) (he : (s.longAt (s.lengthen (gf - 2))).getLsbD 0 = false) :
    loadCodeBase gf s = .ok () { s.loadedLong (s.lengthen (gf - 2)) with cb := s.longAt (s.lengthen (gf - 2)) } := by
  unfold loadCodeBase
  rw [bind_ok (readDblMds_run hd hc hr), update_bind, if_neg (by simpa using he)]
  rfl

/-- `FetchLink` (47_control_transfers.md R630). -/
theorem fetchLink_run {s : State} {k : Byte} (hd : s.devices = []) (hc : s.mapCanonical = true) (h : s.canReadLink k) :
    fetchLink k s = .ok (s.longAt (s.linkAddress k)) (s.loadedLink k) := by
  unfold State.canReadLink State.canReadAll at h
  simp only [List.all_cons, List.all_nil, Bool.and_true, Bool.and_eq_true] at h
  obtain ⟨hg, hl, hh⟩ := h
  have hc1 := loaded_canonical (va := s.lengthen (s.gf - 3)) hc
  have hlong : (s.loaded (s.lengthen (s.gf - 3))).canReadLong (s.linkAddress k) = true := by
    unfold State.canReadLong
    rw [canRead_loaded hc hg, canRead_loaded hc hg, hl, hh]
    rfl
  have hat : (s.loaded (s.lengthen (s.gf - 3))).longAt (s.linkAddress k) = s.longAt (s.linkAddress k) := by
    unfold State.longAt
    rw [wordAt_loaded hc hg, wordAt_loaded hc hg]
  unfold fetchLink
  rw [getState_bind, bind_ok (memReadMds_run hd hg)]
  unfold State.loadedLink State.linkAddress at *
  split
  · rename_i hb
    rw [if_pos hb] at hlong hat
    rw [readDbl_run (by simpa using hd) hc1 hlong, hat]
  · rename_i hb
    rw [if_neg hb] at hlong hat
    rw [readDblMds_run (by simpa using hd) hc1 (by rw [State.loaded_lengthen]; exact hlong), State.loaded_lengthen, hat]

end Sys2Proof.Machine
end

