-- ==== Sys2Proof/Tests/Slice0.lean ====
section
/-!
SUPPORT. The model's own tests: the well-formedness checks, every constructor's decoding, the spec's vectors
(95_test_vectors.md) one step each, and a witness for the hypotheses of each statement.
-/
namespace Sys2Proof.Tests

open Sys2Proof.Machine

-- One kernel check after another: many at once need more memory than a compile of the package may take.
set_option Elab.async false

/-! ### Helpers -/

/-- Words stored at virtual addresses, under the map of `State.reset`, where real and virtual address agree. -/
def withWords (s : State) (words : List (LongWord × Word)) : State :=
  words.foldl (fun s p => { s with mem := writeReal s.mem p.1.toNat p.2 }) s

/-- The evaluation stack holding the given words, bottom first. -/
def withStack (s : State) (words : List Word) : State :=
  { s with stack := Vector.ofFn (fun i => words.getD i.val 0), sp := ⟨min words.length 14, by omega⟩ }

/-- The same with words above the top of the stack. -/
def withStackAbove (s : State) (words above : List Word) : State :=
  { withStack s (words ++ above) with sp := ⟨min words.length 14, by omega⟩ }

/-- The state 95_test_vectors.md starts its vectors in, with interrupts disabled. -/
def base : State :=
  { State.reset with mds := 4, cb := 0x50000, gf := 0x1000, lf := 0x1800, pc := 0x100, booted := true }

/-- The state an answer goes on to. -/
def nextOf (a : Answer) : Option State :=
  match a with
  | .next t => some t
  | .fault _ | .refused _ => none

/-- The state one step after the given code bytes stand at `PC`. -/
def after (bytes : List Byte) (s : State) : Option State :=
  nextOf (step (s.placeBytes s.pc bytes))

/-- The stack after one step, and how far `PC` has moved. -/
def stackAfter (bytes : List Byte) (words : List Word) : Option (List Word × Word) :=
  (after bytes (withStack base words)).map (fun t => (t.stack.toList.take t.sp.val, t.pc - 0x100))

/-- The stack with the next slots above it. -/
def stackAbove (bytes : List Byte) (words : List Word) (above : Nat) : Option (Nat × List Word) :=
  (after bytes (withStack base words)).map (fun t => (t.sp.val, t.stack.toList.take (t.sp.val + above)))

/-- The abort of a routine. -/
def abortOf (m : M Unit) (s : State) : Option Abort :=
  match m s with
  | .ok _ _ => none
  | .error a _ => some a

/-- The refusal an answer ends in. -/
def refusalOf (a : Answer) : Option Refusal :=
  match a with
  | .refused r => some r
  | .next _ | .fault _ => none

/-- A word of memory as a program sees it, in the MDS of `base`. -/
def local4 (p : Word) : LongWord := mkLong p 4


/-! ### Well-formedness: for each check a term it refuses -/

theorem test_illformed_esc_assigned : Instr.wellFormed (.esc 0x02) = false := by decide

theorem test_illformed_escl_assigned : Instr.wellFormed (.escl 0x1E) = false := by decide

theorem test_illformed_shift_count : Instr.wellFormed (.shiftsb 0x10) = false := by decide

theorem test_illformed_rob_index : Instr.wellFormed (.rob 0) = false := by decide

theorem test_illformed_wob_index : Instr.wellFormed (.wob 5) = false := by decide

theorem test_illformed_field_rf : Instr.wellFormed (.rf 0 13 3) = false := by decide

theorem test_illformed_field_w0f : Instr.wellFormed (.w0f 8 8) = false := by decide

theorem test_illformed_field_pslf : Instr.wellFormed (.pslf 0 15 1) = false := by decide

theorem test_wellformed_samples : ([.esc 0x00, .escl 0x02, .shiftsb 0xF1, .rob 1, .wob 4, .rf 0 0 15, .ll0] : List Instr).all Instr.wellFormed = true := by decide

theorem test_encodable_esc : (Instr.esc 0x02).encodable = false ∧ (Instr.esc 0x1B).encodable = true := by decide

/-! ### Decoding: a word of every constructor, written out from 30_encoding.md R178 and R179 -/

theorem test_decode_00 :
    ([[0x01], [0x02], [0x03], [0x04], [0x05], [0x06], [0x07], [0x08], [0x09], [0x0A], [0x0B], [0x0C], [0x0D, 0xA5],
      [0x0E], [0x0F], [0x10]] : List (List Byte)).map decode =
    [.instr .ll0 [], .instr .ll1 [], .instr .ll2 [], .instr .ll3 [], .instr .ll4 [], .instr .ll5 [], .instr .ll6
      [], .instr .ll7 [], .instr .ll8 [], .instr .ll9 [], .instr .ll10 [], .instr .ll11 [], .instr (.llb 0xA5) [],
      .instr .lld0 [], .instr .lld1 [], .instr .lld2 []] := by decide

theorem test_decode_01 :
    ([[0x11], [0x12], [0x13], [0x14], [0x15], [0x16], [0x17], [0x18, 0xA5], [0x19], [0x1A], [0x1B], [0x1C], [0x1D],
      [0x1E], [0x1F], [0x20]] : List (List Byte)).map decode =
    [.instr .lld3 [], .instr .lld4 [], .instr .lld5 [], .instr .lld6 [], .instr .lld7 [], .instr .lld8 [], .instr
      .lld10 [], .instr (.lldb 0xA5) [], .instr .sl0 [], .instr .sl1 [], .instr .sl2 [], .instr .sl3 [], .instr .sl4
      [], .instr .sl5 [], .instr .sl6 [], .instr .sl7 []] := by decide

theorem test_decode_02 :
    ([[0x21], [0x22], [0x23], [0x24, 0xA5], [0x25], [0x26], [0x27], [0x28], [0x29], [0x2A], [0x2B], [0x2C], [0x2D],
      [0x2E], [0x2F], [0x30]] : List (List Byte)).map decode =
    [.instr .sl8 [], .instr .sl9 [], .instr .sl10 [], .instr (.slb 0xA5) [], .instr .sld0 [], .instr .sld1 [],
      .instr .sld2 [], .instr .sld3 [], .instr .sld4 [], .instr .sld5 [], .instr .sld6 [], .instr .sld8 [], .instr
      .pl0 [], .instr .pl1 [], .instr .pl2 [], .instr .pl3 []] := by decide

theorem test_decode_03 :
    ([[0x31, 0xA5], [0x32], [0x33, 0xA5], [0x34], [0x35], [0x36], [0x37, 0xA5], [0x38], [0x39], [0x3A, 0xA5], [0x3B,
      0xA5], [0x3C], [0x3D], [0x3E], [0x3F], [0x40, 0xA5]] : List (List Byte)).map decode =
    [.instr (.plb 0xA5) [], .instr .pld0 [], .instr (.pldb 0xA5) [], .instr .lg0 [], .instr .lg1 [], .instr .lg2
      [], .instr (.lgb 0xA5) [], .instr .lgd0 [], .instr .lgd2 [], .instr (.lgdb 0xA5) [], .instr (.sgb 0xA5) [],
      .instr .bndck [], .instr .brk [], .instr .r0 [], .instr .r1 [], .instr (.rb 0xA5) []] := by decide

theorem test_decode_04 :
    ([[0x41], [0x42, 0xA5], [0x43], [0x44, 0xA5], [0x45], [0x46, 0xA5], [0x47], [0x48, 0xA5], [0x49, 0xA5], [0x4A,
      0xA5], [0x4B, 0xA5], [0x4C, 0xA5], [0x4D], [0x4E, 0xA5], [0x4F, 0xA5], [0x50, 0xA5]] : List (List Byte)).map decode =
    [.instr .rl0 [], .instr (.rlb 0xA5) [], .instr .rd0 [], .instr (.rdb 0xA5) [], .instr .rdl0 [], .instr (.rdlb
      0xA5) [], .instr .w0 [], .instr (.wb 0xA5) [], .instr (.psb 0xA5) [], .instr (.wlb 0xA5) [], .instr (.pslb
      0xA5) [], .instr (.wdb 0xA5) [], .instr .psd0 [], .instr (.psdb 0xA5) [], .instr (.wdlb 0xA5) [], .instr
      (.psdlb 0xA5) []] := by decide

theorem test_decode_05 :
    ([[0x51], [0x52], [0x53], [0x54], [0x55, 0x3C], [0x56, 0x3C], [0x57], [0x58, 0x3C], [0x59, 0x3C], [0x5A, 0x3C],
      [0x5B, 0x3C], [0x5C, 0x3C], [0x5D, 0x3C], [0x5E, 0x3C], [0x5F, 0xA5], [0x60, 0xA5]] : List (List Byte)).map decode =
    [.instr .rli00 [], .instr .rli01 [], .instr .rli02 [], .instr .rli03 [], .instr (.rlip 3 12) [], .instr (.rlilp
      3 12) [], .instr .rldi00 [], .instr (.rldip 3 12) [], .instr (.rldilp 3 12) [], .instr (.rgip 3 12) [], .instr
      (.rgilp 3 12) [], .instr (.wlip 3 12) [], .instr (.wlilp 3 12) [], .instr (.wldilp 3 12) [], .instr (.rs 0xA5)
      [], .instr (.rls 0xA5) []] := by decide

theorem test_decode_06 :
    ([[0x61, 0xA5], [0x62, 0xA5], [0x63, 0x3C], [0x64, 0xA5, 0x3C], [0x65, 0x3C], [0x66, 0xA5, 0x3C], [0x67], [0x68,
      0x9A, 0x3C], [0x69, 0x9A, 0x3C], [0x6A, 0x3C], [0x6B, 0xA5, 0x3C], [0x6C, 0xA5, 0x3C], [0x6D, 0x3C], [0x6E,
      0x3C], [0x6F, 0x3C], [0x70, 0xA5, 0x3C]] : List (List Byte)).map decode =
    [.instr (.ws 0xA5) [], .instr (.wls 0xA5) [], .instr (.r0f 3 12) [], .instr (.rf 0xA5 3 12) [], .instr (.rl0f 3
      12) [], .instr (.rlf 0xA5 3 12) [], .instr .rlfs [], .instr (.rlipf 9 10 3 12) [], .instr (.rlilpf 9 10 3 12)
      [], .instr (.w0f 3 12) [], .instr (.wf 0xA5 3 12) [], .instr (.psf 0xA5 3 12) [], .instr (.ps0f 3 12) [],
      .instr (.ws0f 3 12) [], .instr (.wl0f 3 12) [], .instr (.wlf 0xA5 3 12) []] := by decide

theorem test_decode_07 :
    ([[0x71, 0xA5, 0x3C], [0x72], [0x73, 0xA5], [0x74, 0xA5], [0x75, 0xA5], [0x76, 0xA5], [0x77, 0xA5], [0x78,
      0xA5], [0x79], [0x7A, 0xA5], [0x80, 0xA5], [0x81], [0x82], [0x83], [0x84], [0x85]] : List (List Byte)).map decode =
    [.instr (.pslf 0xA5 3 12) [], .instr .wlfs [], .instr (.sldb 0xA5) [], .instr (.sgdb 0xA5) [], .instr (.llkb
      0xA5) [], .instr (.rkib 0xA5) [], .instr (.rkdib 0xA5) [], .instr (.lkb 0xA5) [], .instr .shift [], .instr
      (.shiftsb 0xA5) [], .instr (.catchByte 0xA5) [], .instr .j2 [], .instr .j3 [], .instr .j4 [], .instr .j5 [],
      .instr .j6 []] := by decide

theorem test_decode_08 :
    ([[0x86], [0x87], [0x88, 0xA5], [0x89, 0xA5, 0x5A], [0x8A, 0x3C], [0x8B, 0xA5], [0x8C, 0xA5, 0x5A], [0x8D,
      0x3C], [0x8E, 0xA5], [0x8F, 0xA5, 0x5A], [0x90, 0xA5], [0x91, 0xA5], [0x92, 0xA5], [0x93, 0xA5], [0x94, 0xA5],
      [0x95, 0xA5]] : List (List Byte)).map decode =
    [.instr .j7 [], .instr .j8 [], .instr (.jb 0xA5) [], .instr (.jw 0xA55A) [], .instr (.jep 3 12) [], .instr
      (.jeb 0xA5) [], .instr (.jebb 0xA5 0x5A) [], .instr (.jnep 3 12) [], .instr (.jneb 0xA5) [], .instr (.jnebb
      0xA5 0x5A) [], .instr (.jlb 0xA5) [], .instr (.jgeb 0xA5) [], .instr (.jgb 0xA5) [], .instr (.jleb 0xA5) [],
      .instr (.julb 0xA5) [], .instr (.jugeb 0xA5) []] := by decide

theorem test_decode_09 :
    ([[0x96, 0xA5], [0x97, 0xA5], [0x98], [0x99], [0x9A, 0xA5], [0x9B], [0x9C], [0x9D, 0xA5], [0x9E, 0xA5], [0x9F,
      0xA5], [0xA0, 0xA5, 0x5A], [0xA1, 0xA5, 0x5A], [0xA2], [0xA3], [0xA4], [0xA5]] : List (List Byte)).map decode =
    [.instr (.jugb 0xA5) [], .instr (.juleb 0xA5) [], .instr .jz3 [], .instr .jz4 [], .instr (.jzb 0xA5) [], .instr
      .jnz3 [], .instr .jnz4 [], .instr (.jnzb 0xA5) [], .instr (.jdeb 0xA5) [], .instr (.jdneb 0xA5) [], .instr
      (.jib 0xA55A) [], .instr (.jiw 0xA55A) [], .instr .recover [], .instr .recover2 [], .instr .dis [], .instr
      .dis2 []] := by decide

theorem test_decode_10 :
    ([[0xA6], [0xA7], [0xA8], [0xA9], [0xAA], [0xAB], [0xAC], [0xAD], [0xAE], [0xAF], [0xB0], [0xB1], [0xB2],
      [0xB3], [0xB4, 0xA5], [0xB5]] : List (List Byte)).map decode =
    [.instr .exch [], .instr .dexch [], .instr .dup [], .instr .ddup [], .instr .exdis [], .instr .neg [], .instr
      .inc [], .instr .dec [], .instr .dinc [], .instr .dbl [], .instr .ddbl [], .instr .trpl [], .instr .and [],
      .instr .ior [], .instr (.addsb 0xA5) [], .instr .add []] := by decide

theorem test_decode_11 :
    ([[0xB6], [0xB7], [0xB8], [0xB9], [0xBA], [0xBB, 0xA5], [0xBC], [0xBD], [0xBE], [0xC0], [0xC1], [0xC2], [0xC3],
      [0xC4], [0xC5], [0xC6]] : List (List Byte)).map decode =
    [.instr .sub [], .instr .dadd [], .instr .dsub [], .instr .adc [], .instr .acd [], .instr (.al0ib 0xA5) [],
      .instr .mul [], .instr .dcmp [], .instr .udcmp [], .instr .li0 [], .instr .li1 [], .instr .li2 [], .instr .li3
      [], .instr .li4 [], .instr .li5 [], .instr .li6 []] := by decide

theorem test_decode_12 :
    ([[0xC7], [0xC8], [0xC9], [0xCA], [0xCB], [0xCC], [0xCD, 0xA5], [0xCE, 0xA5, 0x5A], [0xCF, 0xA5], [0xD0, 0xA5],
      [0xD1], [0xD2], [0xD3], [0xD4], [0xD5], [0xD6]] : List (List Byte)).map decode =
    [.instr .li7 [], .instr .li8 [], .instr .li9 [], .instr .li10 [], .instr .lin1 [], .instr .lini [], .instr
      (.lib 0xA5) [], .instr (.liw 0xA55A) [], .instr (.linb 0xA5) [], .instr (.lihb 0xA5) [], .instr .lid0 [],
      .instr .la0 [], .instr .la1 [], .instr .la2 [], .instr .la3 [], .instr .la6 []] := by decide

theorem test_decode_13 :
    ([[0xD7], [0xD8, 0xA5], [0xD9, 0xA5, 0x5A], [0xDA], [0xDB], [0xDC, 0xA5], [0xDD, 0xA5, 0x5A], [0xDF], [0xE0],
      [0xE1], [0xE2], [0xE3], [0xE4], [0xE5], [0xE6], [0xE7]] : List (List Byte)).map decode =
    [.instr .la8 [], .instr (.lab 0xA5) [], .instr (.law 0xA55A) [], .instr .ga0 [], .instr .ga1 [], .instr (.gab
      0xA5) [], .instr (.gaw 0xA55A) [], .instr .efc0 [], .instr .efc1 [], .instr .efc2 [], .instr .efc3 [], .instr
      .efc4 [], .instr .efc5 [], .instr .efc6 [], .instr .efc7 [], .instr .efc8 []] := by decide

theorem test_decode_14 :
    ([[0xE8], [0xE9], [0xEA], [0xEB], [0xEC, 0xA5], [0xED, 0xA5, 0x5A], [0xEE], [0xEF], [0xF0, 0xA5], [0xF1],
      [0xF2], [0xF3], [0xF4], [0xF5], [0xF6], [0xF7]] : List (List Byte)).map decode =
    [.instr .efc9 [], .instr .efc10 [], .instr .efc11 [], .instr .efc12 [], .instr (.efcb 0xA5) [], .instr (.lfc
      0xA55A) [], .instr .sfc [], .instr .ret [], .instr (.kfcb 0xA5) [], .instr .me [], .instr .mx [], .instr .blt
      [], .instr .bltl [], .instr .bltc [], .instr .bltcl [], .instr .lp []] := by decide

theorem test_decode_15 :
    ([[0xF8, 0x00], [0xF9, 0x02], [0xF8, 0x02], [0xF8, 0x03], [0xF8, 0x04], [0xF8, 0x05], [0xF8, 0x06], [0xF8,
      0x07], [0xF8, 0x08], [0xF8, 0x09], [0xF8, 0x0A], [0xF8, 0x0B], [0xF8, 0x0C], [0xF8, 0x0D], [0xF8, 0x0E],
      [0xF8, 0x0F]] : List (List Byte)).map decode =
    [.instr (.esc 0x00) [], .instr (.escl 0x02) [], .instr .mw [], .instr .mr [], .instr .nc [], .instr .bc [],
      .instr .req [], .instr .sm [], .instr .smf [], .instr .gmf [], .instr .af [], .instr .ff [], .instr .pi [],
      .instr .po [], .instr .por [], .instr .spp []] := by decide

theorem test_decode_16 :
    ([[0xF8, 0x10], [0xF8, 0x11], [0xF8, 0x12], [0xF8, 0x13], [0xF8, 0x14], [0xF8, 0x15], [0xF8, 0x16], [0xF8,
      0x17], [0xF8, 0x18], [0xF8, 0x19], [0xF8, 0x1A], [0xF9, 0x1B, 0xA5], [0xF8, 0x1C], [0xF8, 0x1D], [0xF9, 0x1E,
      0xA5], [0xF9, 0x1F, 0xA5]] : List (List Byte)).map decode =
    [.instr .di [], .instr .ei [], .instr .xor [], .instr .dand [], .instr .dior [], .instr .dxor [], .instr
      .rotate [], .instr .dshift [], .instr .lint [], .instr .js [], .instr .rcfs [], .instr (.rc 0xA5) [], .instr
      .udiv [], .instr .ludiv [], .instr (.rob 0xA5) [], .instr (.wob 0xA5) []] := by decide

theorem test_decode_17 :
    ([[0xF9, 0x20, 0xA5], [0xF9, 0x21, 0xA5], [0xF9, 0x22, 0xA5], [0xF9, 0x23, 0xA5], [0xF8, 0x24], [0xF8, 0x25],
      [0xF8, 0x26], [0xF8, 0x27], [0xF8, 0x28], [0xF8, 0x29], [0xF8, 0x2A], [0xF8, 0x2B], [0xF8, 0x2C], [0xF8,
      0x2D], [0xF8, 0x2E], [0xF8, 0x2F]] : List (List Byte)).map decode =
    [.instr (.dsk 0xA5) [], .instr (.xe 0xA5) [], .instr (.xf 0xA5) [], .instr (.lsk 0xA5) [], .instr .bndckl [],
      .instr .nilck [], .instr .nilckl [], .instr .bltlr [], .instr .blel [], .instr .blecl [], .instr .cksum [],
      .instr .bitblt [], .instr .txtblt [], .instr .bytblt [], .instr .bytbltr [], .instr .version []] := by decide

theorem test_decode_18 :
    ([[0xF8, 0x30], [0xF8, 0x31], [0xF8, 0x32], [0xF8, 0x33], [0xF8, 0x40], [0xF8, 0x41], [0xF8, 0x42], [0xF8,
      0x43], [0xF8, 0x44], [0xF8, 0x45], [0xF8, 0x46], [0xF8, 0x47], [0xF8, 0x48], [0xF8, 0x49], [0xF8, 0x4A],
      [0xF8, 0x4B]] : List (List Byte)).map decode =
    [.instr .dmul [], .instr .sdiv [], .instr .sddiv [], .instr .uddiv [], .instr .fadd [], .instr .fsub [], .instr
      .fmul [], .instr .fdiv [], .instr .fcomp [], .instr .fix [], .instr .float [], .instr .fixi [], .instr .fixc
      [], .instr .fsticky [], .instr .frem [], .instr .round []] := by decide

theorem test_decode_19 :
    ([[0xF8, 0x4C], [0xF8, 0x4D], [0xF8, 0x4E], [0xF8, 0x4F], [0xF8, 0x60], [0xF8, 0x61], [0xF8, 0x62], [0xF8,
      0x63], [0xF8, 0x64], [0xF8, 0x65], [0xF8, 0x66], [0xF8, 0x67], [0xF8, 0x68], [0xF8, 0x69], [0xF8, 0x6A],
      [0xF8, 0x6B]] : List (List Byte)).map decode =
    [.instr .roundi [], .instr .roundc [], .instr .fsqrt [], .instr .fsc [], .instr .reclaimref [], .instr
      .altercount [], .instr .resetstkbits [], .instr .gcsetup [], .instr .a144 [], .instr .enumeratereclaimable [],
      .instr .a146 [], .instr .createref [], .instr .a150 [], .instr .reftype [], .instr .canonicalreftype [],
      .instr .allocquantized []] := by decide

theorem test_decode_20 :
    ([[0xF8, 0x6C], [0xF8, 0x6D], [0xF8, 0x6E], [0xF8, 0x6F], [0xF8, 0x70], [0xF8, 0x71], [0xF8, 0x72], [0xF8,
      0x73], [0xF8, 0x74], [0xF8, 0x75], [0xF8, 0x76], [0xF8, 0x77], [0xF8, 0x78], [0xF8, 0x79], [0xF8, 0x7A],
      [0xF8, 0x7B]] : List (List Byte)).map decode =
    [.instr .allocheap [], .instr .freeobject [], .instr .freequantized [], .instr .freeprefixed [], .instr .wrpsb
      [], .instr .wrmds [], .instr .wrwp [], .instr .wrwdc [], .instr .wrptc [], .instr .writ [], .instr .wrxts [],
      .instr .wrmp [], .instr .rrpsb [], .instr .rrmds [], .instr .rrwp [], .instr .rrwdc []] := by decide

theorem test_decode_21 :
    ([[0xF8, 0x7C], [0xF8, 0x7D], [0xF8, 0x7E], [0xF8, 0x80], [0xF8, 0x81], [0xF8, 0x82], [0xF8, 0xA0]] : List (List Byte)).map decode =
    [.instr .rrptc [], .instr .rrit [], .instr .rrxts [], .instr .input [], .instr .output [], .instr .loadramj [],
      .instr .bandblt []] := by decide

/-- 95_test_vectors.md E4, E5 -/
theorem test_decode_reserved : decode [0x00] = .reserved 0x00 ∧ decode [0xFF] = .reserved 0xFF := by decide

/-- 95_test_vectors.md E1 -/
theorem test_decode_unassigned : decode [0x7B] = .unassigned 0x7B := by decide

theorem test_decode_short : decode [0x64, 0x02] = .short ∧ decode [0xF9] = .short ∧ decode [] = .short := by decide

theorem test_table_words : decodeTableWord 24 0x640243 = some (.rf 2 4 3) ∧ decodeTableWord 16 0xF802 = some .mw ∧ decodeTableWord 8 0xF8 = some (.esc 0) := by decide

/-! ### The vectors of 95_test_vectors.md -/

/-- 95_test_vectors.md M5, with the MDS of `base` -/
theorem test_lp : stackAfter [0xF7] [0x1234] = some ([0x1234, 0x0004], 1) := by decide

/-- 95_test_vectors.md M6 -/
theorem test_lp_nil : stackAfter [0xF7] [0x0000] = some ([0x0000, 0x0000], 1) := by decide

/-- 95_test_vectors.md M10 -/
theorem test_rrmds : stackAfter [0xF8, 0x79] [] = some ([0x0004], 2) := by decide

/-- 95_test_vectors.md M14 -/
theorem test_wrpsb : (after [0xF8, 0x70] (withStack base [0x204B])).map (·.psb) = some 9 := by decide

/-- 95_test_vectors.md M12 -/
theorem test_wrmds : (after [0xF8, 0x71] (withStack base [0x0007])).map (·.mds) = some 7 := by decide

/-- 95_test_vectors.md M11 -/
theorem test_rrpsb : (after [0xF8, 0x78] { base with psb := 9 }).map (fun t => t.top 0) = some 0x48 := by decide

/-- 95_test_vectors.md M1; page 0x40 is first made vacant, so that no page is mapped twice -/
theorem test_sm : (after [0xF8, 0x07] (withStack { base with map := [(0x12, vacantEntry), (0x40, vacantEntry)] } [0x12, 0, 0x40, 0, 0])).map (fun t => (t.sp.val, t.readMap 0x12)) = some (0, { writeProtect := false, dirty := false, referenced := false, real := 0x40 }) := by decide

/-- 20_memory.md R107(a) -/
theorem test_sm_shared : refusalOf (step ((withStack base [0x12, 0, 0x40, 0, 0]).placeBytes 0x100 [0xF8, 0x07])) = some (.realPageShared 0x40) := by decide

/-- 95_test_vectors.md M2 -/
theorem test_gmf : (after [0xF8, 0x09] (withStack { base with map := [(0x12, { writeProtect := false, dirty := false, referenced := false, real := 0x40 }), (0x40, vacantEntry)] } [0x12, 0])).map (fun t => t.stack.toList.take t.sp.val) = some [0, 0x40, 0] := by decide

/-- 95_test_vectors.md M3 -/
theorem test_smf : (after [0xF8, 0x08] (withStack { base with map := [(0x12, { writeProtect := false, dirty := true, referenced := true, real := 0x40 }), (0x40, vacantEntry)] } [0x12, 0, 4])).map (fun t => (t.stack.toList.take t.sp.val, t.readMap 0x12)) = some ([3, 0x40, 0], { writeProtect := true, dirty := false, referenced := false, real := 0x40 }) := by decide

/-- 95_test_vectors.md M4 -/
theorem test_smf_vacant : (after [0xF8, 0x08] (withStack { base with map := [(0x13, vacantEntry)] } [0x13, 0, 0])).map (fun t => (t.sp.val, t.slot 0, t.readMap 0x13)) = some (3, 6, vacantEntry) := by decide

/-- 95_test_vectors.md M7 -/
theorem test_rob : (after [0xF9, 0x1E, 0x02] (withStack (withWords base [(local4 0x1FFE, 0x1800)]) [0x2000])).map (fun t => t.top 0) = some 0x1800 := by decide

/-- 95_test_vectors.md M8 -/
theorem test_wob : (after [0xF9, 0x1F, 0x04] (withStack base [0x0005, 0x2000])).map (fun t => (t.sp.val, t.wordAt (local4 0x1FFC))) = some (0, 5) := by decide

/-- 95_test_vectors.md M16 -/
theorem test_wrwdc : (after [0xF8, 0x73] (withStack { base with wdc := 3, wp := 1 } [0])).map (fun t => (t.wdc, t.wp)) = some (0, 1) := by decide

/-- 95_test_vectors.md S4 -/
theorem test_exch : stackAfter [0xA6] [0x0001, 0x0002] = some ([0x0002, 0x0001], 1) := by decide

/-- 95_test_vectors.md S7 -/
theorem test_bndck : stackAfter [0x3C] [0x0005, 0x000A] = some ([0x0005], 1) := by decide

/-- 95_test_vectors.md S11 -/
theorem test_nilckl : stackAfter [0xF8, 0x26] [0x0000, 0x0001] = some ([0x0000, 0x0001], 2) := by decide

/-- 95_test_vectors.md S12 -/
theorem test_neg : stackAfter [0xAB] [0x0001] = some ([0xFFFF], 1) := by decide

/-- 95_test_vectors.md S13 -/
theorem test_neg_min : stackAfter [0xAB] [0x8000] = some ([0x8000], 1) := by decide

/-- 95_test_vectors.md S14 -/
theorem test_inc : stackAfter [0xAC] [0xFFFF] = some ([0x0000], 1) := by decide

/-- 95_test_vectors.md S15 -/
theorem test_dec : stackAfter [0xAD] [0x0000] = some ([0xFFFF], 1) := by decide

/-- 95_test_vectors.md S16 -/
theorem test_dinc : stackAfter [0xAE] [0xFFFF, 0x0000] = some ([0x0000, 0x0001], 1) := by decide

/-- 95_test_vectors.md S17 -/
theorem test_addsb : stackAfter [0xB4, 0xFE] [0x0005] = some ([0x0003], 2) := by decide

/-- 95_test_vectors.md S18 -/
theorem test_dbl : stackAfter [0xAF] [0x8001] = some ([0x0002], 1) := by decide

/-- 95_test_vectors.md S19 -/
theorem test_trpl : stackAfter [0xB1] [0x5556] = some ([0x0002], 1) := by decide

/-- 95_test_vectors.md S20 -/
theorem test_lint : stackAfter [0xF8, 0x18] [0x8001] = some ([0x8001, 0xFFFF], 2) := by decide

/-- 95_test_vectors.md S21 -/
theorem test_shiftsb : stackAfter [0x7A, 0xFC] [0x1234] = some ([0x0123], 2) := by decide

/-- 95_test_vectors.md S22 -/
theorem test_shift : stackAfter [0x79] [0x00FF, 0x0004] = some ([0x0FF0], 1) := by decide

/-- 95_test_vectors.md S23 -/
theorem test_shift_right : stackAfter [0x79] [0x00FF, 0xFFFC] = some ([0x000F], 1) := by decide

/-- 95_test_vectors.md S25 -/
theorem test_dshift : stackAfter [0xF8, 0x17] [0x0001, 0x0000, 0x0010] = some ([0x0000, 0x0001], 2) := by decide

/-- 95_test_vectors.md S26 -/
theorem test_rotate : stackAfter [0xF8, 0x16] [0x8001, 0x0001] = some ([0x0003], 2) := by decide

/-- 95_test_vectors.md S27 -/
theorem test_rotate_right : stackAfter [0xF8, 0x16] [0x8001, 0xFFFF] = some ([0xC000], 2) := by decide

/-- 95_test_vectors.md S28 -/
theorem test_and : stackAfter [0xB2] [0x0FF0, 0x00FF] = some ([0x00F0], 1) := by decide

/-- 95_test_vectors.md S29 -/
theorem test_xor : stackAfter [0xF8, 0x12] [0x1234, 0xFFFF] = some ([0xEDCB], 2) := by decide

/-- 95_test_vectors.md S30 -/
theorem test_add : stackAfter [0xB5] [0xFFFF, 0x0002] = some ([0x0001], 1) := by decide

/-- 95_test_vectors.md S31 -/
theorem test_sub : stackAfter [0xB6] [0x0003, 0x0005] = some ([0xFFFE], 1) := by decide

/-- 95_test_vectors.md S32 -/
theorem test_dadd : stackAfter [0xB7] [0xFFFF, 0x0000, 0x0001, 0x0000] = some ([0x0000, 0x0001], 1) := by decide

/-- 95_test_vectors.md S33 -/
theorem test_acd : stackAfter [0xBA] [0xFFFF, 0x0000, 0x0001] = some ([0x0000, 0x0001], 1) := by decide

/-- 95_test_vectors.md S34 -/
theorem test_adc : stackAfter [0xB9] [0x0001, 0xFFFF, 0x0000] = some ([0x0000, 0x0001], 1) := by decide

/-- 95_test_vectors.md S37 -/
theorem test_dmul : stackAfter [0xF8, 0x30] [0x0000, 0x0001, 0x0000, 0x0001] = some ([0x0000, 0x0000], 2) := by decide

/-- 95_test_vectors.md S47 -/
theorem test_dcmp : stackAfter [0xBD] [0xFFFF, 0xFFFF, 0x0001, 0x0000] = some ([0xFFFF], 1) := by decide

/-- 95_test_vectors.md S48 -/
theorem test_udcmp : stackAfter [0xBE] [0xFFFF, 0xFFFF, 0x0001, 0x0000] = some ([0x0001], 1) := by decide

/-- 95_test_vectors.md A1 -/
theorem test_li7 : stackAfter [0xC7] [] = some ([0x0007], 1) := by decide

/-- 95_test_vectors.md A2 -/
theorem test_lin1 : stackAfter [0xCB] [] = some ([0xFFFF], 1) := by decide

/-- 95_test_vectors.md A3 -/
theorem test_lini : stackAfter [0xCC] [] = some ([0x8000], 1) := by decide

/-- 95_test_vectors.md A4 -/
theorem test_lib : stackAfter [0xCD, 0xC8] [] = some ([0x00C8], 2) := by decide

/-- 95_test_vectors.md A5 -/
theorem test_linb : stackAfter [0xCF, 0x7F] [] = some ([0xFF7F], 2) := by decide

/-- 95_test_vectors.md A6 -/
theorem test_lihb : stackAfter [0xD0, 0x12] [] = some ([0x1200], 2) := by decide

/-- 95_test_vectors.md A7 -/
theorem test_liw : stackAfter [0xCE, 0x12, 0x34] [] = some ([0x1234], 3) := by decide

/-- 95_test_vectors.md A8 -/
theorem test_lid0 : stackAfter [0xD1] [] = some ([0x0000, 0x0000], 1) := by decide

/-- 95_test_vectors.md S6 -/
theorem test_exdis : stackAbove [0xAA] [0x0007, 0x0009] 1 = some (1, [0x0009, 0x0009]) := by decide

/-- 95_test_vectors.md S35 -/
theorem test_mul : stackAbove [0xBC] [0x1234, 0x0100] 1 = some (1, [0x3400, 0x0012]) := by decide

/-- 95_test_vectors.md S36 -/
theorem test_mul_max : stackAbove [0xBC] [0xFFFF, 0xFFFF] 1 = some (1, [0x0001, 0xFFFE]) := by decide

/-- 95_test_vectors.md S38 -/
theorem test_sdiv : stackAbove [0xF8, 0x31] [0xFFF9, 0x0002] 1 = some (1, [0xFFFD, 0xFFFF]) := by decide

/-- 95_test_vectors.md S39 -/
theorem test_sdiv_negative : stackAbove [0xF8, 0x31] [0x0007, 0xFFFE] 1 = some (1, [0xFFFD, 0x0001]) := by decide

/-- 95_test_vectors.md S42 -/
theorem test_udiv : stackAbove [0xF8, 0x1C] [0xFFFF, 0x0010] 1 = some (1, [0x0FFF, 0x000F]) := by decide

/-- 95_test_vectors.md S43 -/
theorem test_ludiv : stackAbove [0xF8, 0x1D] [0x0000, 0x0001, 0x0002] 1 = some (1, [0x8000, 0x0000]) := by decide

/-- 95_test_vectors.md S46 -/
theorem test_uddiv : stackAbove [0xF8, 0x33] [0x0007, 0x0000, 0x0002, 0x0000] 2 = some (2, [0x0003, 0x0000, 0x0001, 0x0000]) := by decide

/-- 95_test_vectors.md S1 -/
theorem test_rec : (after [0xA2] (withStackAbove base [0x3400] [0x0012])).map (fun t => t.stack.toList.take t.sp.val) = some [0x3400, 0x0012] := by decide

/-- 95_test_vectors.md S3 -/
theorem test_dis_empty : abortOf doDis (withStack base []) = some stackError := by decide

/-- 95_test_vectors.md S5 -/
theorem test_dup_full : abortOf doDup (withStack base [0x0001, 0x0001, 0x0001, 0x0001, 0x0001, 0x0001, 0x0001, 0x0001, 0x0001, 0x0001, 0x0001, 0x0001, 0x0001, 0x0001]) = some stackError := by decide

/-- 95_test_vectors.md S9 -/
theorem test_bndck_trap : abortOf doBndck (withStack base [0xFFFF, 0x8000]) = some boundsTrap := by decide

/-- 95_test_vectors.md S10 -/
theorem test_nilckl_trap : abortOf doNilckl (withStack base [0x0000, 0x0000]) = some pointerTrap := by decide

/-- 95_test_vectors.md S41 -/
theorem test_sdiv_zero : abortOf doSdiv (withStack base [0x0001, 0x0000]) = some divZeroTrap := by decide

/-- 95_test_vectors.md S44 -/
theorem test_ludiv_check : abortOf doLudiv (withStack base [0x0000, 0x0002, 0x0002]) = some divCheckTrap := by decide

/-- 95_test_vectors.md S45 -/
theorem test_ludiv_zero : abortOf doLudiv (withStack base [0x0005, 0x0000, 0x0000]) = some divZeroTrap := by decide

/-- 95_test_vectors.md J1 -/
theorem test_j3 : (after [0x82] (withStack { base with pc := 0x0100 } [])).map (·.pc) = some 0x0103 := by decide

/-- 95_test_vectors.md J2 -/
theorem test_jb : (after [0x88, 0xFD] (withStack { base with pc := 0x0100 } [])).map (·.pc) = some 0x00FD := by decide

/-- 95_test_vectors.md J4 -/
theorem test_jw : (after [0x89, 0xFF, 0x00] (withStack { base with pc := 0x0200 } [])).map (·.pc) = some 0x0100 := by decide

/-- 95_test_vectors.md J5 -/
theorem test_jw_wrap : (after [0x89, 0x10, 0x00] (withStack { base with pc := 0xF800 } [])).map (·.pc) = some 0x0800 := by decide

/-- 95_test_vectors.md J6 -/
theorem test_js : (after [0xF8, 0x19] (withStack { base with pc := 0x0100 } [0x0040])).map (·.pc) = some 0x0040 := by decide

/-- 95_test_vectors.md J7 -/
theorem test_jlb : (after [0x90, 0x10] (withStack { base with pc := 0x0050 } [0xFFFF, 0x0001])).map (·.pc) = some 0x0060 := by decide

/-- 95_test_vectors.md J8 -/
theorem test_jlb_not : (after [0x90, 0x10] (withStack { base with pc := 0x0050 } [0x0001, 0xFFFF])).map (·.pc) = some 0x0052 := by decide

/-- 95_test_vectors.md J9 -/
theorem test_julb : (after [0x94, 0x10] (withStack { base with pc := 0x0050 } [0xFFFF, 0x0001])).map (·.pc) = some 0x0052 := by decide

/-- 95_test_vectors.md J10 -/
theorem test_jeb : (after [0x8B, 0x10] (withStack { base with pc := 0x0050 } [0x0003, 0x0003])).map (·.pc) = some 0x0060 := by decide

/-- 95_test_vectors.md J11 -/
theorem test_jeb_not : (after [0x8B, 0x10] (withStack { base with pc := 0x0050 } [0x0003, 0x0004])).map (·.pc) = some 0x0052 := by decide

/-- 95_test_vectors.md J12 -/
theorem test_jep : (after [0x8A, 0x35] (withStack { base with pc := 0x0100 } [0x0003])).map (·.pc) = some 0x0109 := by decide

/-- 95_test_vectors.md J13 -/
theorem test_jep_not : (after [0x8A, 0x35] (withStack { base with pc := 0x0100 } [0x0013])).map (·.pc) = some 0x0102 := by decide

/-- 95_test_vectors.md J14 -/
theorem test_jebb : (after [0x8C, 0x41, 0xF0] (withStack { base with pc := 0x0200 } [0x0041])).map (·.pc) = some 0x01F0 := by decide

/-- 95_test_vectors.md J15 -/
theorem test_jzb : (after [0x9A, 0x05] (withStack { base with pc := 0x0100 } [0x0000])).map (·.pc) = some 0x0105 := by decide

/-- 95_test_vectors.md J16 -/
theorem test_jzb_not : (after [0x9A, 0x05] (withStack { base with pc := 0x0100 } [0x0001])).map (·.pc) = some 0x0102 := by decide

/-- 95_test_vectors.md J17 -/
theorem test_jz3 : (after [0x98] (withStack { base with pc := 0x0100 } [0x0000])).map (·.pc) = some 0x0103 := by decide

/-- 95_test_vectors.md J19 -/
theorem test_jib_limit : (after [0xA0, 0x00, 0x20] (withStack { base with pc := 0x0010 } [0x0004, 0x0004])).map (·.pc) = some 0x0013 := by decide

/-- 95_test_vectors.md J18 -/
theorem test_jib : (after [0xA0, 0x00, 0x20] (withStack (withWords { base with pc := 0x0010 } [(0x50021, 0x0A14)]) [0x0003, 0x0004])).map (·.pc) = some 0x0024 := by decide

/-- 95_test_vectors.md J20 -/
theorem test_jiw : (after [0xA1, 0x00, 0x30] (withStack (withWords { base with pc := 0x0010 } [(0x50032, 0xFFF0)]) [0x0002, 0x0005])).map (·.pc) = some 0x0000 := by decide

/-- 95_test_vectors.md A9 -/
theorem test_ll3 : (after [0x04] (withStack (withWords { base with lf := 0x2000 } [(local4 0x2003, 0xBEEF)]) [])).map (fun t => t.stack.toList.take t.sp.val) = some [0xBEEF] := by decide

/-- 95_test_vectors.md A10 -/
theorem test_sl2 : (after [0x1B] (withStack base [0x0007])).map (fun t => (t.sp.val, t.wordAt (local4 0x1802), (t.readMap 0x418).dirty)) = some (0, 7, true) := by decide

/-- 95_test_vectors.md A11 -/
theorem test_sl2_protected : abortOf doSl2 (withStack { base with map := [(0x418, { writeProtect := true, dirty := false, referenced := false, real := 0x418 })] } [7]) = some (.faultTwo .writeProtectFault (local4 0x1802)) := by decide

/-- 95_test_vectors.md A12 -/
theorem test_al0ib : (after [0xBB, 0x05] (withStack (withWords base [(local4 0x1800, 0x1000)]) [])).map (fun t => t.top 0) = some 0x1005 := by decide

/-- 95_test_vectors.md A13 -/
theorem test_rb : (after [0x40, 0x02] (withStack (withWords { base with mds := 3 } [(0x34002, 0x1357)]) [0x4000])).map (fun t => t.stack.toList.take t.sp.val) = some [0x1357] := by decide

/-- 95_test_vectors.md A14 -/
theorem test_rlb : (after [0x42, 0x01] (withStack (withWords base [(0x20000, 0x2468)]) [0xFFFF, 0x0001])).map (fun t => t.stack.toList.take t.sp.val) = some [0x2468] := by decide

/-- 95_test_vectors.md A15 -/
theorem test_wb : (after [0x48, 0x03] (withStack base [0x00AA, 0x4000])).map (fun t => (t.sp.val, t.wordAt (local4 0x4003))) = some (0, 0xAA) := by decide

/-- 95_test_vectors.md A16 -/
theorem test_psb : (after [0x49, 0x01] (withStack base [0x4000, 0x0011])).map (fun t => (t.stack.toList.take t.sp.val, t.wordAt (local4 0x4001))) = some ([0x4000], 0x11) := by decide

/-- 95_test_vectors.md A17 -/
theorem test_rb_vacant : abortOf (doRb 0) (withStack { base with map := [(0x440, vacantEntry)] } [0x4000]) = some (.faultTwo .pageFault 0x44000) := by decide

/-- 95_test_vectors.md A18 -/
theorem test_rlip : (after [0x55, 0x23] (withStack (withWords base [(local4 0x1802, 0x3000), (local4 0x3003, 0x42)]) [])).map (fun t => t.stack.toList.take t.sp.val) = some [0x42] := by decide

/-- 95_test_vectors.md F1 -/
theorem test_rs : (after [0x5F, 0x00] (withStack (withWords base [(local4 0x4001, 0x4142)]) [0x4000, 0x0003])).map (fun t => t.stack.toList.take t.sp.val) = some [0x42] := by decide

/-- 95_test_vectors.md F2 -/
theorem test_rs_even : (after [0x5F, 0x00] (withStack (withWords base [(local4 0x4001, 0x4142)]) [0x4000, 0x0002])).map (fun t => t.stack.toList.take t.sp.val) = some [0x41] := by decide

/-- 95_test_vectors.md F3 -/
theorem test_rls : (after [0x60, 0x00] (withStack (withWords base [(0x20000, 0x4142)]) [0xFFFF, 0x0001, 0x0002])).map (fun t => t.stack.toList.take t.sp.val) = some [0x41] := by decide

/-- 95_test_vectors.md F4 -/
theorem test_ws : (after [0x61, 0x00] (withStack (withWords base [(local4 0x4001, 0x4142)]) [0x1263, 0x4000, 0x0002])).map (fun t => t.wordAt (local4 0x4001)) = some 0x6342 := by decide

/-- 95_test_vectors.md F9 -/
theorem test_rf : (after [0x64, 0x02, 0x43] (withStack (withWords base [(local4 0x4002, 0xABCD)]) [0x4000])).map (fun t => t.stack.toList.take t.sp.val) = some [0x0B] := by decide

/-- 95_test_vectors.md F10 -/
theorem test_wf : (after [0x6B, 0x00, 0x43] (withStack (withWords base [(local4 0x4000, 0xABCD)]) [0x0005, 0x4000])).map (fun t => (t.sp.val, t.wordAt (local4 0x4000))) = some (0, 0xA5CD) := by decide

/-- 95_test_vectors.md F5 to F8 -/
theorem test_fields : readField 0xABCD 4 3 = 0x000B ∧ readField 0xABCD 15 0 = 1 ∧ writeField 0xABCD 4 3 0xFFF5 = 0xA5CD ∧ writeField 0 0 15 0x1234 = 0x1234 := by decide

/-- 95_test_vectors.md F11 -/
theorem test_field_refused : refusalOf (exec (.rf 0 13 3) (withStack base [0x4000])) = some (.fieldSpecifier 0xD3) := by decide

/-- 95_test_vectors.md B1 -/
theorem test_blt : (after [0xF3] (withStack (withWords base [(local4 0x100, 7)]) [0x0100, 0x0003, 0x0101])).map (fun t => (t.sp.val, t.wordAt (local4 0x101), t.wordAt (local4 0x103), t.pc)) = some (0, 7, 7, 0x101) := by decide +kernel

/-- 95_test_vectors.md B2; the one listed byte is the opcode -/
theorem test_blt_zero : (after [0xF3] (withStack base [0x0100, 0x0000, 0x0200])).map (fun t => (t.sp.val, t.mem.length)) = some (0, 1) := by decide

/-- 95_test_vectors.md B4 -/
theorem test_cksum : (after [0xF8, 0x2A] (withStack (withWords base [(0x60000, 0x8001)]) [0x0000, 0x0001, 0x0000, 0x0006])).map (fun t => t.stack.toList.take t.sp.val) = some [3] := by decide

/-- 95_test_vectors.md B5 -/
theorem test_cksum_carry : (after [0xF8, 0x2A] (withStack (withWords base [(0x60000, 0x0001)]) [0xFFFF, 0x0001, 0x0000, 0x0006])).map (fun t => t.stack.toList.take t.sp.val) = some [2] := by decide

/-- 95_test_vectors.md B7 -/
theorem test_bltlr : (after [0xF8, 0x27] (withStack (withWords base [(0x60000, 10), (0x60001, 11), (0x60002, 12)]) [0x0000, 0x0006, 0x0003, 0x0001, 0x0006])).map (fun t => [t.wordAt 0x60001, t.wordAt 0x60002, t.wordAt 0x60003]) = some [10, 11, 12] := by decide +kernel

/-- 95_test_vectors.md and 45_block_transfers.md R534 -/
theorem test_bytblt : (after [0xF8, 0x2D] (withStack (withWords base [(0x60000, 0x4142)]) [0x0000, 0x0007, 0x0000, 0x0001, 0x0000, 0x0006, 0x0001])).map (fun t => (t.sp.val, t.wordAt 0x70000)) = some (0, 0x4200) := by decide

/-- 46_bitblt_txtblt.md R553 -/
theorem test_bump : ({ word := 0x1000, bit := 3 } : BitAddress).bump (-4) = { word := 0x0FFF, bit := 15 } := by decide

/-- The argument record and the memory of 46_bitblt_txtblt.md R567. -/
def bitBltBase (flags : Word) : State :=
  withWords base [(local4 0x100, 0), (local4 0x101, 2), (local4 0x102, 4), (local4 0x103, 0x10), (local4 0x104, 0),
    (local4 0x105, 3), (local4 0x107, 0x10), (local4 0x108, 4), (local4 0x109, 2), (local4 0x10A, flags),
    (0x30000, 0xA000), (0x30001, 0x5000), (0x20000, 0xFFFF)]

/-- 95_test_vectors.md and 46_bitblt_txtblt.md R567 -/
theorem test_bitblt : (after [0xF8, 0x2B] (withStack (bitBltBase 0x4000) [0x0100])).map (fun t => (t.sp.val, t.wordAt 0x20000, t.wordAt 0x20001)) = some (0, 0xFAFF, 0x0500) := by decide +kernel

/-- 95_test_vectors.md and 46_bitblt_txtblt.md R567 -/
theorem test_bitblt_xor : (after [0xF8, 0x2B] (withStack (bitBltBase 0x4600) [0x0100])).map (fun t => (t.sp.val, t.wordAt 0x20000, t.wordAt 0x20001)) = some (0, 0xF5FF, 0x0500) := by decide +kernel

/-- 95_test_vectors.md 2.7 -/
theorem test_bitblt_misaligned : refusalOf (exec .bitblt (withStack base [0x0104])) = some .bitBltArgument := by decide

/-- 95_test_vectors.md X5 -/
theorem test_af : (after [0xF8, 0x0A] (withStack (withWords base [(local4 0x0102, 0x2000), (local4 0x2000, 0x2010), (local4 0x1FFC, 2)]) [0x0002])).map (fun t => (t.stack.toList.take t.sp.val, t.wordAt (local4 0x102))) = some ([0x2000], 0x2010) := by decide

/-- 95_test_vectors.md X2 -/
theorem test_af_indirect : (after [0xF8, 0x0A] (withStack (withWords base [(local4 0x101, 0x000A), (local4 0x0102, 0x2000), (local4 0x2000, 0x2010), (local4 0x1FFC, 2)]) [0x0001])).map (fun t => (t.stack.toList.take t.sp.val, t.wordAt (local4 0x102), t.wordAt (local4 0x101))) = some ([0x2000], 0x2010, 0x000A) := by decide

/-- 95_test_vectors.md X3 -/
theorem test_af_empty : abortOf doAf (withStack (withWords base [(local4 0x103, 1)]) [3]) = some (frameFault 3) := by decide

/-- 95_test_vectors.md X4 -/
theorem test_ff : (after [0xF8, 0x0B] (withStack (withWords base [(local4 0x1FFC, 2), (local4 0x0102, 0x2010)]) [0x2000])).map (fun t => (t.wordAt (local4 0x2000), t.wordAt (local4 0x102))) = some (0x2010, 0x2000) := by decide

/-- 95_test_vectors.md X6 -/
theorem test_lfc : (after [0xED, 0x00, 0x40] (withStack (withWords { base with pc := 0x30 } [(local4 0x0FFD, 0), (local4 0x0FFE, 0), (local4 0x0FFF, 5), (local4 0x17FE, 0x1000), (local4 0x0102, 0x2000), (local4 0x2000, 0x2010), (local4 0x1FFC, 2), (0x50020, 0x0219)]) [0x0007])).map (fun t => (t.lf, t.pc, t.wordAt (local4 0x17FF), t.wordAt (local4 0x0102), t.wordAt (local4 0x1FFE), t.wordAt (local4 0x1FFD))) = some (0x2000, 0x41, 0x33, 0x2010, 0x1000, 0x1800) := by decide

/-- 95_test_vectors.md P3 step 6 -/
theorem test_ret : (after [0xEF] (withStack (withWords { base with lf := 0x2000, pc := 0x44 } [(local4 0x0FFD, 0), (local4 0x0FFE, 0), (local4 0x0FFF, 5), (local4 0x17FE, 0x1000), (local4 0x1FFC, 2), (local4 0x1FFD, 0x1800), (local4 0x17FF, 0x34), (local4 0x0102, 0x2010)]) [0x000E])).map (fun t => (t.lf, t.gf, t.cb, t.pc, t.wordAt (local4 0x2000), t.wordAt (local4 0x0102))) = some (0x1800, 0x1000, 0x50000, 0x34, 0x2010, 0x2000) := by decide

/-- 95_test_vectors.md P4 -/
theorem test_efc0 : (after [0xDF] (withStack (withWords { base with pc := 0x30 } [(local4 0x0FFD, 0), (local4 0x0FFF, 5), (local4 0x0FFA, 0x1101), (local4 0x0FFB, 0x20), (local4 0x17FE, 0x1000), (local4 0x10FF, 6), (local4 0x0102, 0x2000), (local4 0x2000, 0x2010), (local4 0x1FFC, 2), (0x60010, 0x02EF)]) [])).map (fun t => (t.lf, t.gf, t.cb, t.pc, t.wordAt (local4 0x17FF), t.wordAt (local4 0x1FFD))) = some (0x2000, 0x1100, 0x60000, 0x21, 0x31, 0x1800) := by decide

/-- 95_test_vectors.md X7 -/
theorem test_llkb : (after [0x75, 0x00] (withStack (withWords base [(local4 0x0FFD, 0), (local4 0x0FFF, 5), (local4 0x0FFA, 0x1101), (local4 0x0FFB, 0x20), (local4 0x17FE, 0x1000), (local4 0x10FF, 6), (local4 0x0102, 0x2000), (local4 0x2000, 0x2010), (local4 0x1FFC, 2), (0x60010, 0x02EF)]) [])).map (fun t => t.stack.toList.take t.sp.val) = some [0x1101, 0x0020] := by decide

/-- 95_test_vectors.md X10 -/
theorem test_ret_null : abortOf doRet base = some (controlTrap 0) := by decide

/-- 95_test_vectors.md X11 -/
theorem test_sfc_unbound : abortOf doSfc (withStack base [0x0001, 0x0020]) = some (unboundTrap 0x00200001) := by decide

/-- 95_test_vectors.md X8 -/
theorem test_dsk : (after [0xF9, 0x20, 0x04] (withStackAbove { base with lf := 0x2000 } [0x1111, 0x2222] [0x3333, 0x4444])).map (fun t => (t.sp.val, t.wordAt (local4 0x2004), t.wordAt (local4 0x2007), t.wordAt (local4 0x2012))) = some (0, 0x1111, 0x4444, 2) := by decide

/-- 95_test_vectors.md X9 -/
theorem test_lsk : (after [0xF9, 0x23, 0x04] (withStack (withWords { base with lf := 0x2000 } [(local4 0x2004, 0x1111), (local4 0x2005, 0x2222), (local4 0x2006, 0x3333), (local4 0x2007, 0x4444), (local4 0x2012, 2)]) [])).map (fun t => t.stack.toList.take 4) = some [0x1111, 0x2222, 0x3333, 0x4444] := by decide

/-- 95_test_vectors.md X12 -/
theorem test_brk_trap : abortOf doBrk base = some breakTrap := by decide

/-- 95_test_vectors.md X13 -/
theorem test_brk_resume : (after [0x3D, 0x05] (withStack (withWords { base with brk := 0x0D } [(local4 0x1805, 9)]) [])).map (fun t => (t.stack.toList.take t.sp.val, t.pc, t.brk)) = some ([9], 0x102, 0) := by decide

/-- 95_test_vectors.md P-1 -/
theorem test_me : (after [0xF1] (withStack base [0x2340, 0x0003])).map (fun t => (t.wordAt 0x32340, t.stack.toList.take t.sp.val)) = some (1, [1]) := by decide

/-- 95_test_vectors.md P-2 -/
theorem test_mx : (after [0xF2] (withStack (withWords base [(0x32340, 1)]) [0x2340, 0x0003])).map (fun t => (t.wordAt 0x32340, t.sp.val)) = some (0, 0) := by decide

/-- 95_test_vectors.md P-3, from 1 -/
theorem test_di : (after [0xF8, 0x10] base).map (·.wdc) = some 2 := by decide

/-- 95_test_vectors.md P-4 -/
theorem test_di_full : abortOf doDi { base with wdc := 7 } = some interruptError := by decide

/-- 95_test_vectors.md P-5 -/
theorem test_ei : (after [0xF8, 0x11] base).map (·.wdc) = some 0 := by decide

/-- 95_test_vectors.md P-6 -/
theorem test_ei_zero : abortOf doEi { base with wdc := 0 } = some interruptError := by decide

/-- 95_test_vectors.md P6, step 1 -/
theorem test_me_locked : (after [0xF1] (withStack (withWords { base with psb := 8, pc := 0x40 } [(0x10000, 0x48), (0x10040, 0x4048), (0x10048, 0x4040), (0x10044, 4), (0x1004C, 4), (0x1000A, 0x0100), (0x32340, 1), (0x1004A, 0x2000), (local4 0x1FFF, 0x90), (local4 0x1FFE, 0x1000), (local4 0x0FFF, 5)]) [0x2340, 0x0003])).map (fun t => (t.psb, [t.lf, t.pc, t.wordAt 0x32340, t.wordAt 0x10040, t.wordAt 0x10048, t.wordAt (local4 0x17FF)])) = some (9, [0x2000, 0x90, 0x41, 0x4044, 0x4048, 0x41]) := by decide +kernel

/-- 95_test_vectors.md E2, E3 -/
theorem test_esc_trap : abortOf (dispatch (.esc 0)) base = some (escOpcodeTrap 0) ∧ ettEntry 0 = 0x0400 ∧ ettEntry 0x40 = 0x0480 := by decide

/-- 95_test_vectors.md P5 -/
theorem test_div_zero_trap : (after [0xF8, 0x1C] (withStack (withWords { base with pc := 0x30 } [(local4 0x0214, 0x1101), (local4 0x0215, 0x40), (local4 0x10FF, 6), (0x60020, 0x0300), (local4 0x103, 0x2400), (local4 0x2400, 0x2440), (local4 0x23FC, 3)]) [0x0007, 0x0000])).map (fun t => (t.cb, t.sp.val, [t.lf, t.gf, t.pc, t.wordAt (local4 0x17FF), t.wordAt (local4 0x23FD)])) = some (0x60000, 2, [0x2400, 0x1100, 0x41, 0x30, 0x1800]) := by decide +kernel

/-- 95_test_vectors.md E5 -/
theorem test_reserved_refused : refusalOf (step (base.placeBytes 0x100 [0xFF])) = some (.reservedOpcode 0xFF) := by decide

/-- 95_test_vectors.md P7 -/
theorem test_boot : (match step (withWords State.reset [(0x202, 0x1101), (0x203, 0x20), (0x10FF, 6), (0x60010, 0x0200), (0x102, 0x2000), (0x2000, 0x2010)]) with | .next t => some (t.booted, t.lf, t.gf, t.cb, t.pc) | .fault _ | .refused _ => none) = some (true, 0x2000, 0x1100, 0x60000, 0x21) := by decide

/-- A device writes a word before the step that loads it (20_memory.md R140, decision D9) -/
theorem test_device_write : (after [0x04] { base with devices := [[.write (local4 0x1803) 0xBEEF true, .wakeup 2], [], [], []], lf := 0x1800 }).map (fun t => (t.top 0, t.wp, t.devices)) = some (0xBEEF, 2, [[]]) := by decide

/-- A device writes the second word of a double load between its two reads (20_memory.md R140, decision D9) -/
theorem test_device_torn : (after [0x0E] (withWords { base with devices := [[], [], [], [.write (local4 0x1801) 7 true]], lf := 0x1800 } [(local4 0x1800, 5), (local4 0x1801, 9)])).map (fun t => (t.stack.toList.take 2, t.devices)) = some ([5, 7], []) := by decide

/-- A device makes no access to a vacant page (20_memory.md R113) -/
theorem test_device_vacant : ({ base with map := [(0x418, vacantEntry)], devices := [[.write (local4 0x1803) 7 true]] }).afterDevices.mem = [] := by decide

/-- 47_control_transfers.md R657 -/
theorem test_xe_third_byte : refusalOf (step ({ base with pc := 0x1FE, map := [(0x501, vacantEntry)] }.placeBytes 0x1FE [0xF9, 0x21])) = some .abortInXE := by decide

/-- 48_process_instructions.md R701, U21 -/
theorem test_not_on_queue : abortOf (requeue readyQueue 0x32360 9) (withWords base [(0x10000, 0x40), (0x10040, 0x4040), (0x10048, 0x6048)]) = some (.refuse .notOnQueue) := by decide

/-- A cleanup link from the tail of the ready queue leads to no process of it (60_exceptions.md R798, 48_process_instructions.md R701) -/
theorem test_not_on_ready_queue : abortOf (requeue readyQueue (faultQueue .pageFault) 9) (withWords base [(0x10000, 0x40), (0x10041, 0x48), (0x10048, 0x6048)]) = some (.refuse .notOnQueue) := by decide

/-- The waiter that remains on a condition whose tail has timed out (48_process_instructions.md R703, R704) -/
theorem test_on_stale_condition : abortOf (requeue 0x32360 readyQueue 9) (withWords base [(0x32360, 0x40), (0x10041, 0x48), (0x10048, 0x6048)]) = none := by decide

/-- 46_bitblt_txtblt.md R577 -/
theorem test_txtblt_position : abortOf (paintPixels 0x30100 0x41 { word := 0x20000, bit := 0 } 1 0x8000 0) base = some (.refuse (.txtBltPosition 0x8000)) := by decide

/-- 20_memory.md R101, U8 -/
theorem test_real_page_absent : refusalOf (exec .ll0 (base.writeMap 0x418 (entryOfFlags 0 0xFFFFFF))) = some (.realPageAbsent 0xFFFFFF) := by decide

/-- 92_eei_decisions.md, the constraints on the named parameters -/
theorem test_parameters : Config.vmPages ≤ 2 ^ 24 ∧ Config.realPages ≤ 2 ^ 24 ∧ 7 ≤ Config.wdcMax.toNat ∧ 1 ≤ Config.pulseMicros ∧ Config.pulseMicros ≤ 100 ∧ 15000 ≤ Config.timeOutInterval * Config.pulseMicros ∧ Config.timeOutInterval * Config.pulseMicros ≤ 60000 ∧ 18 ≤ Config.svSize ∧ Config.pid[0] = 0 := by decide

/-! ### Witnesses: for each statement with hypotheses, a state and operands that meet them -/

/-- The answer is a next state. -/
def isNext (a : Answer) : Bool :=
  match a with
  | .next _ => true
  | .fault _ | .refused _ => false

/-- `base` with `n` words on the stack, each a pointer to mapped memory. -/
def stackOf (n : Nat) : State := withStack base (List.replicate n 0x21)

/-- `base` with the encoding of `LIW` at `PC`. -/
def liwBase : State := withWords base [(0x50080, 0xCE12), (0x50081, 0x3400)]

/-- `base` with page 0x400 (its frames' page 0x418 is another) write-protected and page 0x401 vacant. -/
def mapped : State :=
  ((withStack base [0, 0x401, 0x40, 0, 4]).writeMap 0x400 (entryOfFlags 4 0x400)).writeMap 0x401 (entryOfFlags 6 0)

theorem witness_EncodeThenDecode : (Instr.jw 0xA55A).encodable = true := by decide

theorem witness_DecodeThenEncode : decode [0xCE, 0x12, 0x34, 0x05] = .instr (.liw 0x1234) [0x05] := by decide

theorem witness_StepRunsDecodedInstruction :
    liwBase.afterDevices = liwBase ∧ liwBase.booted = true ∧ liwBase.running = true ∧ liwBase.wdc ≠ 0
      ∧ liwBase.mapCanonical = true ∧ (Instr.liw 0x1234).encodable = true
      ∧ (List.range 3).map (fun k => liwBase.codeByte (liwBase.pc + BitVec.ofNat 16 k)) = encode (.liw 0x1234)
      ∧ (∀ turn ∈ liwBase.devices.take 3, turn = [])
      ∧ ∀ k, k < 3 → liwBase.canRead (liwBase.codeWord ((liwBase.pc + BitVec.ofNat 16 k) >>> 1)) = true := by decide

/-- The same with a device that acts after the fetch. -/
theorem witness_StepRunsDecodedInstruction_devices :
    ∃ r s : State, r.afterDevices = s ∧ s.booted = true ∧ s.running = true ∧ s.wdc ≠ 0 ∧ s.mapCanonical = true
      ∧ (List.range 3).map (fun k => s.codeByte (s.pc + BitVec.ofNat 16 k)) = encode (.liw 0x1234)
      ∧ (∀ turn ∈ s.devices.take 3, turn = []) ∧ s.devices.drop 3 ≠ []
      ∧ ∀ k, k < 3 → s.canRead (s.codeWord ((s.pc + BitVec.ofNat 16 k) >>> 1)) = true :=
  ⟨{ liwBase with devices := [[.wakeup 1], [], [], [], [.wakeup 2]] },
    { liwBase with wp := 1, devices := [[], [], [], [.wakeup 2]] }, by decide⟩

theorem witness_StepTrapsUnassignedOpcode :
    base.afterDevices = base ∧ base.booted = true ∧ base.running = true ∧ base.wdc ≠ 0
      ∧ base.canRead (base.codeWord (base.pc >>> 1)) = true ∧ (∀ turn ∈ base.devices.take 1, turn = [])
      ∧ base.codeByte base.pc = 0 ∧ (base.placeBytes 0x100 [0xFF]).codeByte 0x100 = 0xFF
      ∧ decode [(base.placeBytes 0x100 [0x7B]).codeByte 0x100] = .unassigned 0x7B := by decide

/-- The words of one process, PSB 8 of priority 2, alone in the ready queue; a locked monitor at 0x32340; an unlocked one and
an empty condition at 0x32350 and 0x32360; a free state vector of priority 2 and one of priority 3. -/
def soleWords : List (LongWord × Word) :=
  [(0x10000, 0x40), (0x10040, 0x4040), (0x10044, 4), (0x1000A, 0x2000), (0x1000B, 0x2100), (0x12000, 0x2200),
    (0x32340, 1), (local4 0x0FFF, 5), (local4 0x17FE, 0x1000), (local4 0x17FF, 0x40)]

/-- The machine running that process, with interrupts enabled. -/
def sole (words : List Word) : State :=
  withStack (withWords { base with psb := 8, pc := 0x40, savedPC := 0x3E, savedSP := 3, wdc := 0 } soleWords) words

theorem sole_inv (words : List Word) : (sole words).Inv :=
  inv_of_unlisted_map rfl (by decide : Memory.wf (sole []).mem = true) rfl rfl

/-- A device that changes `PSB.context` as the first fault parameter is stored redirects neither parameter: `FaultTwo` fetches
`state` once (60_exceptions.md R794). -/
theorem test_fault_state_fetched_once :
    (match takeFault (.faultTwo .pageFault 0xBEEF1234)
        { sole [] with devices := List.replicate 26 [] ++ [[.write (psbContext 8) 0x3000 true], []] } with
      | .ok _ t => some (t.peek (pdaAddress 0x2010), t.peek (pdaAddress 0x2011), t.peek (psbContext 8), t.devices)
      | .error _ _ => none) = some (0x1234, 0xBEEF, 0x3000, []) := by decide +kernel

/-- The words of a second process, PSB 9 of priority 3 in frame 0x1C00, alone on a ring. -/
def secondWords : List (LongWord × Word) :=
  [(0x10048, 0x6048), (0x1004A, 0x1C00), (0x1004C, 4), (local4 0x1BFE, 0x1000), (local4 0x1BFF, 0x90)]

/-- The machine of `sole` with the second process and more words. -/
def two (words : List Word) (extra : List (LongWord × Word)) : State := withWords (sole words) (secondWords ++ extra)

/-- The same machine with no process ready or running. -/
def idleTwo : State := { two [] [(0x10000, 0)] with running := false }

/-- The state with `late` pulses between `time` and the second sample of `IT` from now. -/
def timed (s : State) (late : LongWord) : State := { s with it := 0, draw := 0, time := Config.pulses 1 - late }

theorem timed_now (s : State) (late : LongWord) :
    (timed s late).it + Config.pulses ((timed s late).draw + 1) - (timed s late).time = late := by
  simp only [timed, Nat.zero_add]
  bv_omega

/-- A routine that does not abort. -/
theorem ok_of_isOk {m : M Unit} {s : State} (h : (match m s with | .ok _ _ => true | .error _ _ => false) = true) :
    ∃ t, m s = .ok () t := by
  split at h
  · exact ⟨_, by assumption⟩
  · cases h

theorem witness_DisabledEventsAndIdleLoop :
    base.wdc ≠ 0 ∧ (∃ t, reschedule false (sole []) = .ok () t) ∧ idleTwo.wdc = 0 ∧ idleTwo.running = false :=
  ⟨by decide, ok_of_isOk (by decide +kernel), by decide⟩

/-- A machine that polls: idle, or running the process of `sole`. -/
theorem witness_DisabledEventsAndIdleLoop_polls :
    ∀ s ∈ [timed idleTwo 0, timed (sole []) 39999], s.afterDevices = s ∧ s.devices = [] ∧ s.Inv ∧ s.booted = true ∧ s.wdc = 0
      ∧ s.noWaiter 16 ∧ (s.it + Config.pulses (s.draw + 1) - s.time).toNat < Config.timeOutInterval := by
  simp only [List.forall_mem_cons, timed_now]
  exact ⟨⟨rfl, rfl, inv_of_unlisted_map rfl (by decide +kernel) rfl rfl, rfl, rfl, by decide +kernel, by decide⟩,
    ⟨rfl, rfl, inv_of_unlisted_map rfl (by decide +kernel) rfl rfl, rfl, rfl, by decide +kernel, by decide⟩, by simp⟩

/-- An interrupt of level 7 while the second process waits for it. -/
theorem witness_DisabledEventsAndIdleLoop_interrupt :
    ∃ s : State, s.afterDevices = s ∧ s.devices = [] ∧ s.Inv ∧ s.booted = true ∧ s.wdc = 0 ∧ s.xts.getLsbD 0 = false
      ∧ s.wp.getLsbD (15 - 7) = true ∧ s.noWaiter 7 ∧ s.aloneIn (interruptCondition 7) 9
      ∧ (s.it + Config.pulses (s.draw + 1) - s.time).toNat < Config.timeOutInterval
      ∧ s.running = false ∧ s.canWrite readyQueue = true ∧ indexField (s.wordAt readyQueue) = 0
      ∧ s.startable 9 false 4 0x1C00 0x1000 0x50000 0x90 := by
  refine ⟨timed (withWords { idleTwo with wp := 0x100 } [(0x1001E, 0x48)]) 0, ?_⟩
  rw [timed_now]
  exact ⟨rfl, rfl, inv_of_unlisted_map rfl (by decide +kernel) rfl rfl, rfl, rfl, by decide +kernel⟩

/-- The same while the first process runs. -/
theorem witness_DisabledEventsAndIdleLoop_preemption :
    ∃ s : State, s.afterDevices = s ∧ s.devices = [] ∧ s.Inv ∧ s.booted = true ∧ s.wdc = 0 ∧ s.xts.getLsbD 0 = false
      ∧ s.wp.getLsbD (15 - 7) = true ∧ s.noWaiter 7 ∧ s.aloneIn (interruptCondition 7) 9
      ∧ (s.it + Config.pulses (s.draw + 1) - s.time).toNat < Config.timeOutInterval
      ∧ s.soleProcess ∧ 9 ≠ s.psb ∧ s.priorityOf s.psb < s.priorityOf 9 ∧ s.hasStateVector 0x2000 0x2200 16
      ∧ (s.stored (s.lengthen (s.lf - 1)) s.pc).startable 9 false 4 0x1C00 0x1000 0x50000 0x90 := by
  refine ⟨timed { two [] [(0x1001E, 0x48)] with wp := 0x100 } 0, ?_⟩
  rw [timed_now]
  exact ⟨rfl, rfl, inv_of_unlisted_map rfl (by decide +kernel) rfl rfl, rfl, rfl, by decide +kernel⟩

/-- The first tick, which is the second process's timeout. -/
theorem witness_DisabledEventsAndIdleLoop_timeout :
    ∃ s : State, s.afterDevices = s ∧ s.devices = [] ∧ s.Inv ∧ s.booted = true ∧ s.wdc = 0 ∧ s.xts.getLsbD 0 = false ∧ s.noWaiter 16
      ∧ Config.timeOutInterval ≤ (s.it + Config.pulses (s.draw + 1) - s.time).toNat
      ∧ 1 = (if s.ptc + 1 = 0 then 1 else s.ptc + 1) ∧ s.canRead pdaCount = true ∧ s.wordAt pdaCount = 2
      ∧ s.wordAt (psbTimeout 9) = 1 ∧ s.canRead (psbTimeout 8) = true ∧ s.wordAt (psbTimeout 8) = 0
      ∧ s.running = false ∧ s.canWriteAll [readyQueue, psbLink 9, psbFlags 9, psbTimeout 9]
      ∧ indexField (s.wordAt readyQueue) = 0 ∧ indexField (s.wordAt (psbLink 9)) = 9
      ∧ s.startable 9 false 4 0x1C00 0x1000 0x50000 0x90 := by
  refine ⟨timed (withWords idleTwo [(0x10001, 2), (0x1004B, 1)]) 40000, ?_⟩
  rw [timed_now]
  exact ⟨rfl, rfl, inv_of_unlisted_map rfl (by decide +kernel) rfl rfl, rfl, rfl, by decide +kernel⟩

theorem witness_StepKeepsInvariant : liwBase.Inv ∧ isNext (step liwBase) = true :=
  ⟨inv_of_unlisted_map rfl (by decide) rfl rfl, by decide⟩

theorem witness_StoreChangesOneVirtualWord :
    base.afterDevices = base ∧ base.Inv ∧ base.canWrite 0x00FFFFFF = true ∧ base.canRead 0 = true :=
  ⟨rfl, inv_of_unlisted_map rfl rfl rfl rfl, by decide⟩

/-- A device about to write the word at 0x20001, as the processor is about to make two accesses. -/
theorem witness_StoreChangesOneVirtualWord_devices :
    ∃ r s : State, r.afterDevices = s ∧ s.Inv ∧ s.devices = [.write 0x20001 7 true] :: []
      ∧ s.canWrite 0x20001 = true ∧ s.canRead 0x20000 = true ∧ (0x20001 : LongWord) = 0x20000 + 1
      ∧ (0x20001 : LongWord) = 0x20000 + 3 >>> 1 :=
  ⟨{ base with devices := [[], [.write 0x20001 7 true]] }, { base with devices := [[.write 0x20001 7 true]] }, rfl,
    inv_of_unlisted_map rfl rfl rfl rfl, by decide⟩

/-- `base` with page 0x400 mapped to a real page that does not exist. -/
def unbacked : State := base.writeMap 0x400 (entryOfFlags 0 0xFFFFFF)

theorem witness_AccessFaults :
    mapped.afterDevices = mapped ∧ unbacked.afterDevices = unbacked
      ∧ (mapped.readMap (pageOf 0x40100)).vacant = true ∧ (mapped.readMap (pageOf 0x400FF)).vacant = false
      ∧ (mapped.readMap (pageOf 0x400FF)).writeProtect = true ∧ (mapped.readMap (pageOf 0x40200)).vacant = false
      ∧ (mapped.readMap (pageOf 0x40200)).writeProtect = false
      ∧ realPageExists (mapped.readMap (pageOf 0x40200)).real = true ∧ mapped.mapCanonical = true
      ∧ (unbacked.readMap (pageOf 0x40000)).vacant = false
      ∧ realPageExists (unbacked.readMap (pageOf 0x40000)).real = false := by decide

theorem witness_ImmediatesAndAddressesPush :
    (stackOf 13).sp.val < 14 ∧ (stackOf 14).sp.val = 14 ∧ (stackOf 12).sp.val < 13 ∧ (stackOf 13).sp.val = 13 := by
  decide

theorem witness_FrameLoads :
    (stackOf 13).afterDevices = stackOf 13 ∧ (stackOf 14).afterDevices = stackOf 14
      ∧ ({ mapped with lf := 0x100 } : State).afterDevices = { mapped with lf := 0x100 }
      ∧ (stackOf 13).canRead ((stackOf 13).lengthen ((stackOf 13).lf + 255)) = true ∧ (stackOf 13).sp.val < 14
      ∧ (stackOf 14).canRead ((stackOf 14).lengthen ((stackOf 14).gf + 2)) = true ∧ (stackOf 14).sp.val = 14
      ∧ ({ mapped with lf := 0x100 } : State).canRead 0x40100 = false := by decide

theorem witness_FrameDoubleLoads :
    (stackOf 12).devices = [] ∧ (stackOf 12).mapCanonical = true ∧ (stackOf 12).sp.val < 13
      ∧ (stackOf 12).canRead ((stackOf 12).lengthen ((stackOf 12).lf + 255)) = true
      ∧ (stackOf 12).canRead ((stackOf 12).lengthen ((stackOf 12).lf + 255 + 1)) = true := by decide

theorem witness_FrameStores :
    (stackOf 1).afterDevices = stackOf 1 ∧ (stackOf 0).afterDevices = stackOf 0
      ∧ (stackOf 1).canWrite ((stackOf 1).lengthen ((stackOf 1).lf + 255)) = true ∧ 0 < (stackOf 1).sp.val
      ∧ (stackOf 0).canWrite ((stackOf 0).lengthen (stackOf 0).lf) = true ∧ (stackOf 0).sp.val = 0 := by decide

theorem witness_FrameDoubleStores :
    (stackOf 2).devices = [] ∧ (stackOf 2).mapCanonical = true ∧ 2 ≤ (stackOf 2).sp.val
      ∧ (stackOf 2).canWrite ((stackOf 2).lengthen (stackOf 2).lf) = true
      ∧ (stackOf 2).canWrite ((stackOf 2).lengthen ((stackOf 2).lf + 1)) = true := by decide

theorem witness_PointerLoads :
    ∃ s : State, s.devices = [] ∧ s.canRead (s.lengthen (s.top 0 + zextByte 255)) = true ∧ s.canRead (s.codeWord (s.top 0)) = true
      ∧ s.canRead (s.topLong 0 + zextByteLong 255) = true ∧ 2 ≤ s.sp.val ∧ s.sp.val < 14
      ∧ s.canRead (s.lengthen s.lf) = true := ⟨stackOf 2, by decide⟩

theorem witness_PointerDoubleLoads :
    ∃ s : State, s.devices = [] ∧ s.mapCanonical = true ∧ s.canRead (s.lengthen (s.top 0 + zextByte 255)) = true
      ∧ s.canRead (s.lengthen (s.top 0 + zextByte 255 + 1)) = true ∧ s.canRead (s.topLong 0 + zextByteLong 255) = true
      ∧ s.canRead (s.topLong 0 + zextByteLong 255 + 1) = true ∧ 2 ≤ s.sp.val ∧ s.sp.val < 14 :=
  ⟨stackOf 2, by decide⟩

theorem witness_PointerStores :
    ∃ s : State, s.devices = [] ∧ s.canWrite (s.lengthen (s.top 0 + zextByte 255)) = true
      ∧ s.canWrite (s.topLong 0 + zextByteLong 255) = true ∧ s.canWrite (s.lengthen (s.top 1 + zextByte 255)) = true
      ∧ s.canWrite (s.topLong 1 + zextByteLong 255) = true ∧ s.sp.val = 3 := ⟨stackOf 3, by decide⟩

theorem witness_PointerDoubleStores :
    ∃ s : State, s.devices = [] ∧ s.mapCanonical = true
      ∧ s.canWriteAll [s.lengthen (s.top 0 + 255), s.lengthen (s.top 0 + 255 + 1), s.topLong 0 + 255,
        s.topLong 0 + 255 + 1, s.lengthen (s.top 2 + 255), s.lengthen (s.top 2 + 255 + 1), s.topLong 2 + 255,
        s.topLong 2 + 255 + 1] = true ∧ s.sp.val = 4 := ⟨stackOf 4, by decide⟩

theorem witness_IndirectLoads :
    ∃ s : State, s.devices = [] ∧ s.mapCanonical = true ∧ s.sp.val < 14
      ∧ s.canReadAll [s.lengthen s.lf, s.lengthen (s.wordAt (s.lengthen s.lf) + 3), s.lengthen (s.lf + 15),
        s.lengthen (s.wordAt (s.lengthen (s.lf + 15)) + 15), s.lengthen (s.lf + 15) + 1,
        s.longAt (s.lengthen (s.lf + 15)) + 15] = true := ⟨stackOf 13, by decide⟩

theorem witness_IndirectDoubleLoads :
    ∃ s : State, s.devices = [] ∧ s.mapCanonical = true ∧ s.sp.val < 13
      ∧ s.canReadAll [s.lengthen s.lf, s.lengthen (s.wordAt (s.lengthen s.lf)),
        s.lengthen (s.wordAt (s.lengthen s.lf) + 1), s.lengthen (s.lf + 15), s.lengthen (s.lf + 15) + 1,
        s.longAt (s.lengthen (s.lf + 15)) + 15, s.longAt (s.lengthen (s.lf + 15)) + 15 + 1] = true :=
  ⟨stackOf 12, by decide⟩

theorem witness_IndirectStores :
    ∃ s : State, s.devices = [] ∧ s.mapCanonical = true ∧ s.canReadAll [s.lengthen (s.lf + 15), s.lengthen (s.lf + 15) + 1] = true
      ∧ s.canWrite (s.lengthen (s.wordAt (s.lengthen (s.lf + 15)) + 15)) = true
      ∧ s.canWriteAll [s.longAt (s.lengthen (s.lf + 15)) + 15, s.longAt (s.lengthen (s.lf + 15)) + 15 + 1] = true
      ∧ s.sp.val = 2 := ⟨stackOf 2, by decide⟩

theorem witness_StringInstructions :
    ∃ s : State, s.devices = [] ∧ s.mapCanonical = true ∧ s.canWrite (s.lengthen (s.top 1 + (zextByte 255 + s.top 0) >>> 1)) = true
      ∧ s.canWrite (s.topLong 1 + (zextByteLong 255 + zextLong (s.top 0)) >>> 1) = true ∧ s.sp.val = 4 :=
  ⟨stackOf 4, by decide⟩

theorem witness_FieldReads :
    ∃ s : State, s.devices = [] ∧ s.mapCanonical = true ∧ s.sp.val = 3 ∧ fieldSpecLegal 0 15 = true ∧ fieldSpecLegal 1 15 = false
      ∧ fieldSpecLegal (descPos (s.top 0)) (descSize (s.top 0)) = true
      ∧ s.canReadAll [s.lengthen (s.top 0), s.lengthen (s.top 0 + 255), s.topLong 0, s.topLong 0 + 255,
        s.topLong 1 + zextByteLong (descOffset (s.top 0)), s.codeWord (s.top 1 + zextByte (descOffset (s.top 0))),
        s.lengthen (s.lf + 15), s.lengthen (s.lf + 15) + 1,
        s.lengthen (s.wordAt (s.lengthen (s.lf + 15)) + 15), s.longAt (s.lengthen (s.lf + 15)) + 15] = true :=
  ⟨stackOf 3, by decide⟩

theorem witness_FieldStores :
    ∃ s : State, s.devices = [] ∧ s.mapCanonical = true ∧ s.sp.val = 4 ∧ fieldSpecLegal 0 15 = true ∧ fieldSpecLegal 15 1 = false
      ∧ fieldSpecLegal (descPos (s.top 0)) (descSize (s.top 0)) = true
      ∧ s.canWriteAll [s.lengthen (s.top 0 + 255), s.topLong 0 + 255, s.lengthen (s.top 1 + 255), s.topLong 1 + 255,
        s.topLong 1 + zextByteLong (descOffset (s.top 0))] = true := ⟨stackOf 4, by decide⟩

theorem witness_StackPrimitives :
    (stackOf 13).sp.val < 14 ∧ (stackOf 12).sp.val < 13 ∧ 1 ≤ (stackOf 1).sp.val ∧ 2 ≤ (stackOf 2).sp.val
      ∧ 4 ≤ (stackOf 4).sp.val ∧ (stackOf 0).sp.val = 0 ∧ (stackOf 1).sp.val < 2 ∧ (stackOf 3).sp.val < 4
      ∧ (stackOf 14).sp.val = 14 ∧ (stackOf 13).sp.val = 13 := by decide

theorem witness_StackErrors : (stackOf 0).sp.val < 1 ∧ (stackOf 3).sp.val < 4 ∧ (stackOf 14).sp.val = 14 := by decide

theorem witness_Checks : ∃ s : State, s.sp.val = 4 := ⟨stackOf 4, by decide⟩

theorem witness_WordOperations : ∃ s : State, 2 ≤ s.sp.val ∧ s.sp.val < 14 := ⟨stackOf 2, by decide⟩

theorem witness_LongOperations : ∃ s : State, s.sp.val = 4 := ⟨stackOf 4, by decide⟩

theorem witness_Divisions : ∃ s : State, s.sp.val = 4 := ⟨stackOf 4, by decide⟩

theorem witness_UnconditionalJumps : (stackOf 1).sp.val = 1 ∧ (stackOf 0).sp.val = 0 := by decide

theorem witness_ConditionalJumps : ∃ s : State, s.sp.val = 4 := ⟨stackOf 4, by decide⟩

theorem witness_IndexedJumps :
    (2 ≤ (stackOf 2).sp.val ∧ ((stackOf 2).top 0).toNat ≤ ((stackOf 2).top 1).toNat)
      ∧ ∃ s : State, s.devices = [] ∧ 2 ≤ s.sp.val ∧ (s.top 1).toNat < (s.top 0).toNat
        ∧ s.canRead (s.codeWord (0x60 + s.top 1 >>> 1)) = true ∧ s.canRead (s.codeWord (0x60 + s.top 1)) = true :=
  ⟨by decide, withStack base [4, 5], by decide⟩

theorem witness_WordBlockTransfers :
    ∃ s t : State, s.devices = [] ∧ t.devices = [] ∧ s.wdc ≠ 0 ∧ s.mapCanonical = true ∧ s.sp.val = 5 ∧ s.top 1 ≠ 0 ∧ s.top 2 ≠ 0
      ∧ s.canWriteAll [s.lengthen (s.top 0), s.topLong 0, s.topLong 0 + zextLong (s.top 2 - 1)] = true
      ∧ s.canReadAll [s.lengthen (s.top 2), s.codeWord (s.top 2), s.codeWord (s.top 3), s.topLong 3,
        s.topLong 3 + zextLong (s.top 2 - 1)] = true
      ∧ t.wdc ≠ 0 ∧ t.mapCanonical = true ∧ t.sp.val = 5 ∧ t.top 1 = 0 ∧ t.top 2 = 0 :=
  ⟨stackOf 5, withStack base [0, 0, 0, 0, 0], by decide⟩

theorem witness_ChecksumAndComparisons :
    ∃ s t : State, s.devices = [] ∧ t.devices = [] ∧ s.wdc ≠ 0 ∧ s.mapCanonical = true ∧ s.sp.val = 5 ∧ s.top 2 ≠ 0
      ∧ s.canReadAll [s.topLong 0, s.codeWord (s.top 3), s.topLong 3] = true
      ∧ t.wdc ≠ 0 ∧ t.mapCanonical = true ∧ t.sp.val = 5 ∧ t.top 2 = 0 :=
  ⟨stackOf 5, withStack base [0, 0, 0, 0, 0], by decide⟩

theorem witness_ByteBlockTransfers :
    ∃ s t : State, s.devices = [] ∧ t.devices = [] ∧ s.wdc ≠ 0 ∧ s.mapCanonical = true ∧ s.sp.val = 7 ∧ s.top 3 ≠ 0
      ∧ s.canRead (s.topLong 1 + zextLong (s.top 0 >>> 1)) = true
      ∧ s.canWrite (s.topLong 5 + zextLong (s.top 4 >>> 1)) = true
      ∧ t.wdc ≠ 0 ∧ t.mapCanonical = true ∧ t.sp.val = 7 ∧ t.top 3 = 0 :=
  ⟨stackOf 7, withStack base [0, 0, 0, 0, 0, 0, 0], by decide⟩

/-- Operands of every block transfer, with a count of two. -/
def blocks : State := withStack base [2, 2, 2, 2, 2]

theorem witness_BlockTransfersComplete :
    blocks.devices = [] ∧ blocks.wdc ≠ 0 ∧ blocks.mapCanonical = true ∧ blocks.sp.val = 5
      ∧ (∀ k, k < (blocks.top 1).toNat → blocks.canWrite (blocks.lengthen (blocks.top 0 + BitVec.ofNat 16 k)) = true
        ∧ blocks.canRead (blocks.lengthen (blocks.top 2 + BitVec.ofNat 16 k)) = true
        ∧ blocks.canRead (blocks.codeWord (blocks.top 2 + BitVec.ofNat 16 k)) = true)
      ∧ ∀ k, k < (blocks.top 2).toNat → blocks.canWrite (blocks.topLong 0 + BitVec.ofNat 32 k) = true
        ∧ blocks.canRead (blocks.topLong 3 + BitVec.ofNat 32 k) = true
        ∧ blocks.canRead (blocks.codeWord (blocks.top 3 + BitVec.ofNat 16 k)) = true := by decide

/-- A module at 0x1100 with code base 0x60000, a body at byte 0x20 with frame size index 2, a free frame 0x2400, a frame of
the module `base` runs in at 0x2000, links of that module, and its code links. -/
def linkedWords : List (LongWord × Word) :=
  [(local4 0x10FF, 6), (0x60010, 0x0200), (0x50010, 0x0200), (local4 0x102, 0x2400), (local4 0x2400, 0x2440),
    (local4 0x0FFF, 5), (local4 0x1FFE, 0x1000), (local4 0x1FFF, 0x44), (local4 0x17FC, 2), (local4 0x17FD, 0x2000),
    (local4 0x1804, 0x1400), (local4 0x1806, 0x2000), (local4 0x0402, 0x2000), (local4 0x3FE, 0x1101),
    (local4 0x3FF, 0x20), (0x4FFFE, 0x1101), (0x4FFFF, 0x20), (local4 0x0FFA, 0x1101), (local4 0x0FFB, 0x20),
    (local4 0x0FE2, 0x1101), (local4 0x0FE3, 0x20), (local4 0x0DFC, 0x1101), (local4 0x0DFD, 0x20)]

/-- `base` with all of that, and a link and a port pointer on the stack. -/
def linked : State := withStackAbove (withWords base linkedWords) [0x1101, 0x20] [0x0400, 0x2000]

/-- The same with the module's links in its code segment. -/
def codeLinked : State := withWords linked [(local4 0x0FFD, 1)]

/-- The same with a port and a parameter on the stack. -/
def ported : State := withStackAbove (withWords base linkedWords) [0x0400, 7] [0x0400, 0x2000]

theorem witness_ProcedureCalls :
    linked.devices = [] ∧ codeLinked.devices = [] ∧ linked.mapCanonical = true ∧ linked.xts.getLsbD 0 = false
      ∧ linked.canWrite (linked.lengthen (linked.lf - 1)) = true
      ∧ (0x00201101 : LongWord).getLsbD 0 = true ∧ (0x1100 : Word) = lowHalf 0x00201101 &&& 0xFFFE
      ∧ (linked.stored (linked.lengthen (linked.lf - 1)) linked.pc).hasModule 0x1100 0x60000
      ∧ (linked.stored (linked.lengthen (linked.lf - 1)) linked.pc).hasBody 0x60000 0x20 0x102 0x2400 0x2440
      ∧ (linked.canReadLink 0 ∧ linked.longAt (linked.linkAddress 0) = 0x00201101)
      ∧ (linked.canReadLink 12 ∧ linked.longAt (linked.linkAddress 12) = 0x00201101)
      ∧ (linked.canReadLink 255 ∧ linked.longAt (linked.linkAddress 255) = 0x00201101)
      ∧ (codeLinked.canReadLink 0 ∧ codeLinked.longAt (codeLinked.linkAddress 0) = 0x00201101)
      ∧ linked.canReadAll [linked.lengthen (sdEntry 255), linked.lengthen (sdEntry 255) + 1] = true
      ∧ linked.longAt (linked.lengthen (sdEntry 255)) = 0x00201101 ∧ 2 ≤ linked.sp.val
      ∧ linked.topLong 0 = 0x00201101
      ∧ (linked.stored (linked.lengthen (linked.lf - 1)) linked.pc).hasBody linked.cb 0x20 0x102 0x2400 0x2440 := by
  decide +kernel

/-- `SFC` of an indirect link at 0x3FE. -/
theorem witness_ProcedureCalls_indirect :
    ∃ s : State, s.devices = [] ∧ s.mapCanonical = true ∧ s.xts.getLsbD 0 = false ∧ s.canWrite (s.lengthen (s.lf - 1)) = true
      ∧ 2 ≤ s.sp.val ∧ (s.topLong 0).extractLsb' 0 2 = 2#2
      ∧ s.canReadAll [s.lengthen (lowHalf (s.topLong 0)), s.lengthen (lowHalf (s.topLong 0)) + 1] = true
      ∧ (s.stored (s.lengthen (s.lf - 1)) s.pc).longAt (s.lengthen (lowHalf (s.topLong 0))) = 0x00201101
      ∧ (s.stored (s.lengthen (s.lf - 1)) s.pc).hasModule 0x1100 0x60000
      ∧ (s.stored (s.lengthen (s.lf - 1)) s.pc).hasBody 0x60000 0x20 0x102 0x2400 0x2440 :=
  ⟨withStack linked [0x3FE, 0], by decide +kernel⟩

theorem witness_FrameTransfers :
    linked.devices = [] ∧ linked.mapCanonical = true ∧ linked.xts.getLsbD 0 = false ∧ linked.hasFrame 0x2000 0x1000 0x50000 0x44
      ∧ linked.canFree linked.lf 0x102 0x2400 ∧ linked.canRead (linked.lengthen (linked.lf - 3)) = true
      ∧ linked.wordAt (linked.lengthen (linked.lf - 3)) = 0x2000
      ∧ linked.canReadAll [linked.lengthen (linked.lf + 4), linked.lengthen (linked.lf + 4 + 2),
        linked.lengthen (linked.lf + 4 + 2) + 1] = true
      ∧ lowHalf (linked.longAt (linked.lengthen (linked.lf + 4 + 2))) = 0x2000
      ∧ linked.canWrite (linked.lengthen (linked.lf - 1)) = true
      ∧ (linked.stored (linked.lengthen (linked.lf - 1)) linked.pc).hasFrame 0x2000 0x1000 0x50000 0x44
      ∧ lowHalf ((linked.stored (linked.lengthen (linked.lf - 1)) linked.pc).longAt
        (linked.lengthen (linked.lf + 4 + 2))) = 0x2000 := by decide +kernel

/-- The module of frame 0x2000 with its `trapxfers` flag clear, and set, as `RET` finds it with the low bit of `XTS` set. -/
theorem witness_FrameTransfers_armed :
    ∀ flag ∈ ([0, 2] : List Word), ∃ s : State, s.devices = [] ∧ s.mapCanonical = true ∧ s.xts.getLsbD 0 = true
      ∧ s.hasFrame 0x2000 0x1000 0x50000 0x44 ∧ s.canFree s.lf 0x102 0x2400 ∧ s.canRead (s.lengthen (s.lf - 3)) = true
      ∧ s.wordAt (s.lengthen (s.lf - 3)) = 0x2000 ∧ s.canRead (s.lengthen (0x1000 - 3)) = true
      ∧ s.wordAt (s.lengthen (0x1000 - 3)) = flag := by
  simp only [List.forall_mem_cons]
  exact ⟨⟨{ linked with xts := 1 }, by decide +kernel⟩,
    ⟨{ withWords linked [(local4 0x0FFD, 2)] with xts := 1 }, by decide +kernel⟩, by simp⟩

theorem witness_PortTransfers :
    ported.devices = [] ∧ (stackOf 12).devices = [] ∧ ported.mapCanonical = true ∧ ported.xts.getLsbD 0 = false ∧ 2 ≤ ported.sp.val ∧ ported.top 1 = 0x400
      ∧ ported.canWriteAll [ported.lengthen (ported.lf - 1), ported.lengthen 0x400] = true
      ∧ ((ported.stored (ported.lengthen (ported.lf - 1)) ported.pc).stored (ported.lengthen 0x400)
        ported.lf).hasFrame 0x2000 0x1000 0x50000 0x44
      ∧ ported.canReadAll [ported.lengthen 0x402, ported.lengthen 0x402 + 1] = true
      ∧ lowHalf (((ported.stored (ported.lengthen (ported.lf - 1)) ported.pc).stored (ported.lengthen 0x400)
        ported.lf).longAt (ported.lengthen 0x402)) = 0x2000
      ∧ ported.sp.val < 13 ∧ ported.slot ported.sp.val = 0x400 ∧ ported.slot (ported.sp.val + 1) ≠ 0
      ∧ ported.canWrite (ported.lengthen 0x402) = true ∧ (stackOf 12).sp.val < 13 ∧ (stackOf 12).slot 13 = 0
      ∧ (stackOf 12).canWrite ((stackOf 12).lengthen ((stackOf 12).slot 12)) = true := by decide +kernel

theorem witness_LinkInstructions :
    codeLinked.devices = [] ∧ linked.devices = [] ∧ codeLinked.mapCanonical = true ∧ linked.mapCanonical = true ∧ linked.sp.val < 13
      ∧ linked.canWrite (linked.lengthen linked.lf) = true ∧ linked.canReadLink 255 ∧ codeLinked.canReadLink 0
      ∧ linked.canReadAll [linked.longAt (linked.linkAddress 255), linked.longAt (linked.linkAddress 255) + 1]
        = true := by decide +kernel

theorem witness_FrameAllocation :
    (∃ s : State, s.devices = [] ∧ s.mapCanonical = true ∧ 1 ≤ s.sp.val ∧ s.canWrite (s.lengthen (avEntry (s.top 0))) = true
        ∧ s.wordAt (s.lengthen (avEntry (s.top 0))) &&& 3 = 0
        ∧ s.canRead (s.lengthen (s.wordAt (s.lengthen (avEntry (s.top 0))))) = true)
      ∧ (∃ s : State, s.devices = [] ∧ s.mapCanonical = true ∧ 1 ≤ s.sp.val ∧ s.canWrite (s.lengthen (avEntry (s.top 0))) = true
        ∧ s.wordAt (s.lengthen (avEntry (s.top 0))) &&& 3 = 1)
      ∧ ∃ s : State, s.devices = [] ∧ s.mapCanonical = true ∧ 1 ≤ s.sp.val ∧ s.canFree (s.top 0) 0x102 0x2400 :=
  ⟨⟨withStack linked [2], by decide +kernel⟩, ⟨withStack (withWords base [(local4 0x103, 1)]) [3], by decide⟩,
    ⟨withStack linked [0x1800], by decide +kernel⟩⟩

/-- A state vector at local 4 of the current frame, with the deepest stack. -/
def vectored : State := withWords (stackOf 14) [(local4 0x1812, 0x050E)]

theorem witness_StateVectors :
    vectored.devices = [] ∧ vectored.mapCanonical = true
      ∧ (∀ k, k < 15 → vectored.canWrite (vectored.lengthen (vectored.lf + zextByte 4) + BitVec.ofNat 32 k) = true)
      ∧ (rightByte (vectored.wordAt (vectored.lengthen (vectored.lf + zextByte 4) + 14))).toNat = 14
      ∧ min (vectored.sp.val + 2) 14 = 14 := by decide

theorem witness_SavedStackIsRestored :
    vectored.devices = [] ∧ vectored.Inv ∧ isNext (exec (.dsk 4) vectored) = true
      ∧ ∀ k, k < 15 → vectored.canWrite (vectored.lengthen (vectored.lf + zextByte 4) + BitVec.ofNat 32 k) = true :=
  ⟨rfl, inv_of_unlisted_map rfl (by decide) rfl rfl, by decide +kernel, by decide⟩

/-- `base` with a handler's frame 0x2000 in the table entries of the breakpoint, of stack errors, of xfer traps, of opcode
traps, of an unbound procedure and of the escape code 0x40. -/
def handled : State :=
  withWords { linked with savedPC := 0xFE, savedSP := 2 } [(local4 0x200, 0x2000), (local4 0x204, 0x2000),
    (local4 0x208, 0x2000), (local4 0x20A, 0x2000), (local4 0x212, 0x2000), (local4 0x480, 0x2000)]

/-- `base` with a break byte and the code bytes 0x12 and 0x34 after `BRK`. -/
def broken (brk : Byte) : State := { base.placeBytes base.pc [0x12, 0x34] with brk := brk }

theorem witness_Breakpoint :
    handled.devices = [] ∧ handled.mapCanonical = true ∧ handled.brk = 0 ∧ handled.trapReady (sdEntry 0) 0x2000 0x1000 0x50000 0x44
      ∧ ({ base with brk := 0xC5 } : State).brk ≠ 0 ∧ decode [0xC5] = .instr .li5 []
      ∧ (match dispatch .li5 { base with brk := 0xC5 } with | .ok _ t => t.sp.val | .error _ _ => 0) = 1
      ∧ Instr.li5 ≠ Instr.brk := by decide +kernel

/-- A break byte of an instruction of three bytes, and one whose instruction aborts. -/
theorem witness_Breakpoint_bytes :
    (broken 0xCE).devices = [] ∧ (broken 0xB5).devices = [] ∧ (broken 0xCE).mapCanonical = true ∧ decode ((broken 0xCE).brk :: [0x12, 0x34]) = .instr (.liw 0x1234) []
      ∧ (List.range 2).map (fun k => (broken 0xCE).codeByte ((broken 0xCE).pc + BitVec.ofNat 16 k)) = [0x12, 0x34]
      ∧ (∀ k, k < 2 →
        (broken 0xCE).canRead ((broken 0xCE).codeWord (((broken 0xCE).pc + BitVec.ofNat 16 k) >>> 1)) = true)
      ∧ (∃ t, dispatch (.liw 0x1234) ((broken 0xCE).fetched 2) = .ok () t)
      ∧ decode [(broken 0xB5).brk] = .instr .add []
      ∧ abortOf (dispatch .add) ((broken 0xB5).fetched 0) = some stackError :=
  ⟨rfl, rfl, by decide, by decide, by decide, by decide, ok_of_isOk (by decide), by decide, by decide⟩

theorem witness_TrapEntersItsHandler :
    handled.devices = [] ∧ handled.mapCanonical = true ∧ handled.trapReady (sdEntry 2) 0x2000 0x1000 0x50000 0x44
      ∧ handled.trapReady (sdEntry 5) 0x2000 0x1000 0x50000 0x44
      ∧ handled.trapReady (sdEntry 9) 0x2000 0x1000 0x50000 0x44 ∧ handled.takesParameters 0x2000 []
      ∧ handled.takesParameters 0x2000 [0x7B] ∧ handled.takesParameters 0x2000 [0x1101, 0x20] := by decide +kernel

/-- The xfer trap of a `RET` to frame 0x2000. -/
theorem witness_TrapEntersItsHandler_xferTrap :
    handled.devices = [] ∧ handled.mapCanonical = true ∧ handled.trapReady xferTrapEntry 0x2000 0x1000 0x50000 0x44
      ∧ handled.takesParameters 0x2000 [0x2000, 0, XferType.ret.code] := by decide +kernel

/-- A handler of `DivZeroTrap` whose table entry is a procedure descriptor. -/
theorem witness_TrapEntersItsHandler_descriptor :
    ∃ s : State, s.devices = [] ∧ s.mapCanonical = true ∧ divZeroTrap = .trapZero (sdEntry 10) ∧ 8 ≤ s.savedPC.toNat
      ∧ s.xts.getLsbD 0 = false
      ∧ s.canReadAll [s.lengthen (sdEntry 10), s.lengthen (sdEntry 10) + 1] = true
      ∧ s.canWrite (s.lengthen (s.lf - 1)) = true ∧ s.longAt (s.lengthen (sdEntry 10)) = 0x00201101
      ∧ (s.stored (s.lengthen (s.lf - 1)) s.savedPC).hasModule 0x1100 0x60000
      ∧ (s.stored (s.lengthen (s.lf - 1)) s.savedPC).hasBody 0x60000 0x20 0x102 0x2400 0x2440 :=
  ⟨withWords handled [(local4 0x214, 0x1101), (local4 0x215, 0x20)], by decide +kernel⟩

theorem witness_UnimplementedEscapesTrap :
    handled.devices = [] ∧ handled.mapCanonical = true ∧ handled.canWrite (handled.lengthen 0x2000) = true
      ∧ handled.trapReady (ettEntry 0x40) 0x2000 0x1000 0x50000 0x44 := by decide +kernel

theorem witness_FaultSuspendsTheProcess :
    (sole []).devices = [] ∧ (sole []).Inv ∧ (sole []).wdc = 0 ∧ (sole []).soleProcess ∧ (sole []).savable ∧ 8 ≤ (sole []).savedPC.toNat
      ∧ (sole []).hasStateVector 0x2000 0x2200 18
      ∧ ∀ fi ∈ [FaultIndex.frameFault, .pageFault, .writeProtectFault],
        (sole []).canWriteAll [faultQueue fi, faultCondition fi] = true
          ∧ indexField ((sole []).wordAt (faultQueue fi)) = 0 ∧ indexField ((sole []).wordAt (faultCondition fi)) = 0 :=
  ⟨rfl, sole_inv [], by decide +kernel⟩

/-- A fault while the second process is ready too, before or after the first in the queue. -/
theorem witness_FaultSuspendsTheProcess_ready :
    (∃ s : State, s.devices = [] ∧ s.Inv ∧ s.savable ∧ 8 ≤ s.savedPC.toNat ∧ s.hasStateVector 0x2000 0x2200 18
        ∧ s.canWriteAll [faultQueue .pageFault, faultCondition .pageFault] = true
        ∧ indexField (s.wordAt (faultQueue .pageFault)) = 0 ∧ indexField (s.wordAt (faultCondition .pageFault)) = 0
        ∧ s.xts.getLsbD 0 = false ∧ s.holdsQueue readyQueue [s.psb, 9]
        ∧ (s.stored (s.lengthen (s.lf - 1)) s.savedPC).startable 9 false 4 0x1C00 0x1000 0x50000 0x90)
      ∧ ∃ s : State, s.devices = [] ∧ s.Inv ∧ s.holdsQueue readyQueue [9, s.psb] ∧ s.savable
        ∧ (s.stored (s.lengthen (s.lf - 1)) s.savedPC).startable 9 false 4 0x1C00 0x1000 0x50000 0x90 :=
  ⟨⟨two [] [(0x10000, 0x48), (0x10040, 0x4048), (0x10048, 0x4040)], rfl, inv_of_unlisted_map rfl (by decide +kernel) rfl rfl,
      by decide +kernel⟩,
    ⟨two [] [(0x10040, 0x4048), (0x10048, 0x6040)], rfl, inv_of_unlisted_map rfl (by decide +kernel) rfl rfl,
      by decide +kernel⟩⟩

/-- A locked monitor at 0x32340 and a condition at 0x32360 on the stack, as `MW` takes them. -/
def waiting (condition flags : Word) : State :=
  withWords (sole [0x2340, 3, 0x2360, 3, 0x0010]) [(0x32360, condition), (0x10041, flags)]

theorem waiting_inv : (waiting 1 0).Inv ∧ (waiting 2 1).Inv ∧ (waiting 0 0).Inv :=
  ⟨inv_of_unlisted_map rfl (by decide +kernel) rfl rfl, inv_of_unlisted_map rfl (by decide +kernel) rfl rfl,
    inv_of_unlisted_map rfl (by decide +kernel) rfl rfl⟩

theorem witness_MonitorsAndConditions :
    (sole [0x2350, 3]).devices = [] ∧ (sole [0x2340, 3]).devices = [] ∧ (sole [0x2350, 3, 0x2360, 3]).devices = [] ∧ (waiting 1 0).devices = [] ∧ (waiting 2 1).devices = [] ∧ (sole [0x2350, 3]).Inv ∧ (sole [0x2340, 3]).Inv ∧ (sole [0x2350, 3, 0x2360, 3]).Inv ∧ (waiting 1 0).Inv
      ∧ (waiting 2 1).Inv ∧ (waiting 1 0).canWriteAll [0x32340, 0x32350, 0x32360, psbFlags 8] = true
      ∧ psbFlags 8 ≠ 0x32340 ∧ psbFlags 8 ≠ 0x32350 ∧ psbFlags 8 ≠ 0x32360
      ∧ ((sole [0x2350, 3]).sp.val = 2 ∧ (sole [0x2350, 3]).topLong 0 = 0x32350
        ∧ ((sole [0x2350, 3]).wordAt 0x32350).getLsbD lockedBit = false)
      ∧ ((sole [0x2340, 3]).topLong 0 = 0x32340 ∧ ((sole [0x2340, 3]).wordAt 0x32340).getLsbD lockedBit = true
        ∧ indexField ((sole [0x2340, 3]).wordAt 0x32340) = 0)
      ∧ ((waiting 1 0).sp.val = 5 ∧ (waiting 1 0).topLong 1 = 0x32360 ∧ (waiting 1 0).topLong 3 = 0x32340
        ∧ indexField ((waiting 1 0).wordAt 0x32360) = 0 ∧ ((waiting 1 0).wordAt (psbFlags 8)).getLsbD abortBit = false
        ∧ ((waiting 1 0).wordAt 0x32360).getLsbD wakeupBit = true)
      ∧ (((waiting 2 1).wordAt (psbFlags 8)).getLsbD abortBit = true
        ∧ ((waiting 2 1).wordAt 0x32360).getLsbD abortableBit = true)
      ∧ ((sole [0x2350, 3, 0x2360, 3]).sp.val = 4 ∧ (sole [0x2350, 3, 0x2360, 3]).topLong 0 = 0x32360
        ∧ (sole [0x2350, 3, 0x2360, 3]).topLong 2 = 0x32350) :=
  ⟨rfl, rfl, rfl, rfl, rfl, sole_inv _, sole_inv _, sole_inv _, waiting_inv.1, waiting_inv.2.1, by decide +kernel⟩

/-- `MR` where the process is to be aborted, and `NC` of a condition whose one waiter has timed out. -/
theorem witness_MonitorsAndConditions_aborted :
    (∃ s : State, s.devices = [] ∧ s.Inv ∧ s.canWriteAll [0x32350, 0x32360, psbFlags s.psb] = true ∧ s.sp.val = 4 ∧ s.topLong 0 = 0x32360
        ∧ s.topLong 2 = 0x32350 ∧ (s.wordAt 0x32350).getLsbD lockedBit = false ∧ indexField (s.wordAt 0x32360) = 0
        ∧ (s.wordAt (psbFlags s.psb)).getLsbD abortBit = true ∧ (s.wordAt 0x32360).getLsbD abortableBit = true)
      ∧ ∃ s : State, s.devices = [] ∧ s.Inv ∧ s.canWriteAll [0x32340, 0x32360] = true ∧ s.sp.val = 2 ∧ s.topLong 0 = 0x32360
        ∧ indexField (s.wordAt 0x32360) = 9 ∧ s.canRead (psbFlags 9) = true
        ∧ indexField (s.wordAt (psbFlags 9)) = 9 :=
  ⟨⟨withWords (sole [0x2350, 3, 0x2360, 3]) [(0x32360, 2), (0x10041, 1)],
      rfl, inv_of_unlisted_map rfl (by decide +kernel) rfl rfl, by decide +kernel⟩,
    ⟨withWords (sole [0x2360, 3]) [(0x32360, 0x4B), (0x10049, 0x48)],
      rfl, inv_of_unlisted_map rfl (by decide +kernel) rfl rfl, by decide +kernel⟩⟩

/-- A condition on which PSB 10, of priority 4, and PSB 11 wait, with the first process ready: `WakeHead`; and the same
condition after PSB 9, its tail, has timed out: `CleanupCondition`. -/
def crowded (condition : Word) : State :=
  two [] [(0x10050, 0x8058), (0x10058, 0x6050), (0x10049, 0x50), (0x32360, condition)]

theorem crowded_inv (condition : Word) (h : Memory.wf (crowded condition).mem = true) : (crowded condition).Inv :=
  inv_of_unlisted_map rfl h rfl rfl

theorem witness_MonitorsAndConditions_queues :
    (∃ s : State, s.devices = [] ∧ s.Inv ∧ s.canWriteAll [0x32340, 0x32360] = true ∧ indexField (s.wordAt 0x32360) = 9
        ∧ s.canReadAll [psbFlags 9, psbFlags 10] = true ∧ indexField (s.wordAt (psbFlags 9)) = 10
        ∧ indexField (s.wordAt (psbFlags 10)) = 0 ∧ s.ring [10, 11])
      ∧ ∃ s : State, s.devices = [] ∧ s.Inv ∧ s.canWriteAll [0x32340, 0x32360] = true ∧ s.outside 0x32360 ∧ s.holdsQueue 0x32360 [10, 11] ∧ s.holdsQueue readyQueue [8]
        ∧ (∀ q ∈ ([10, 11] : List (BitVec 10)), q ∉ ([8] : List (BitVec 10)))
        ∧ ([8] : List (BitVec 10)).Pairwise (fun p q => s.priorityOf q ≤ s.priorityOf p)
        ∧ s.canWriteAll [psbFlags 10, psbTimeout 10] = true :=
  ⟨⟨crowded 0x4A, rfl, crowded_inv _ (by decide +kernel), by decide +kernel⟩,
    ⟨crowded 0x5A, rfl, crowded_inv _ (by decide +kernel), by decide +kernel⟩⟩

/-- `NC` of a condition, and `MX` of a locked monitor, on which the second process waits. -/
theorem witness_MonitorsAndConditions_wakes :
    (∃ s : State, s.devices = [] ∧ s.Inv ∧ s.canWriteAll [0x32340, 0x32360] = true ∧ s.soleProcess ∧ s.xts.getLsbD 0 = false
        ∧ s.sp.val = 2 ∧ 9 ≠ s.psb
        ∧ s.priorityOf s.psb < s.priorityOf 9 ∧ s.topLong 0 = 0x32360 ∧ s.outside 0x32360
        ∧ highHalf 0x32360 ≠ (4 : Word) ∧ s.aloneIn 0x32360 9
        ∧ (s.stored (s.lengthen (s.lf - 1)) s.pc).startable 9 false 4 0x1C00 0x1000 0x50000 0x90)
      ∧ ∃ s : State, s.devices = [] ∧ s.Inv ∧ s.canWriteAll [0x32340, 0x32360] = true ∧ s.soleProcess ∧ s.xts.getLsbD 0 = false
        ∧ s.sp.val = 2 ∧ 9 ≠ s.psb
        ∧ s.priorityOf s.psb < s.priorityOf 9 ∧ s.topLong 0 = 0x32340 ∧ s.outside 0x32340
        ∧ highHalf 0x32340 ≠ (4 : Word) ∧ s.aloneIn 0x32340 9 ∧ (s.wordAt 0x32340).getLsbD lockedBit = true
        ∧ (s.stored (s.lengthen (s.lf - 1)) s.pc).startable 9 true 4 0x1C00 0x1000 0x50000 0x90 :=
  ⟨⟨two [0x2360, 3] [(0x32360, 0x4A)], rfl, inv_of_unlisted_map rfl (by decide +kernel) rfl rfl, by decide +kernel⟩,
    ⟨two [0x2340, 3] [(0x32340, 0x49), (0x10048, 0x604C)], rfl, inv_of_unlisted_map rfl (by decide +kernel) rfl rfl,
      by decide +kernel⟩⟩

/-- `REQ` of the current process from the ready queue to the condition's queue. -/
def requeued : State := sole [0, 1, 0x2360, 3, 0x40]

theorem witness_BlockedProcessStopsProcessor :
    requeued.devices = [] ∧ (waiting 0 0).devices = [] ∧ (sole [0x2340, 3]).devices = [] ∧ (sole [0x2340, 3, 0x2360, 3]).devices = [] ∧ requeued.Inv ∧ (waiting 0 0).Inv ∧ (sole [0x2340, 3]).Inv ∧ (sole [0x2340, 3, 0x2360, 3]).Inv
      ∧ requeued.wdc = 0 ∧ requeued.soleProcess ∧ requeued.outside 0x32340 ∧ requeued.outside 0x32360
      ∧ (requeued.sp.val = 5 ∧ psbIndex (requeued.top 0) = requeued.psb ∧ requeued.topLong 1 = 0x32360
        ∧ requeued.topLong 3 = readyQueue ∧ indexField (requeued.wordAt 0x32360) = 0)
      ∧ ((waiting 0 0).soleProcess ∧ (waiting 0 0).topLong 1 = 0x32360 ∧ (waiting 0 0).topLong 3 = 0x32340
        ∧ ((waiting 0 0).wordAt 0x32340).getLsbD lockedBit = true ∧ indexField ((waiting 0 0).wordAt 0x32340) = 0
        ∧ indexField ((waiting 0 0).wordAt 0x32360) = 0 ∧ ((waiting 0 0).wordAt 0x32360).getLsbD wakeupBit = false
        ∧ ((waiting 0 0).wordAt (psbFlags 8)).getLsbD abortBit = false)
      ∧ ((sole [0x2340, 3]).sp.val = 2 ∧ (sole [0x2340, 3]).topLong 0 = 0x32340
        ∧ (sole [0x2340, 3, 0x2360, 3]).sp.val = 4 ∧ (sole [0x2340, 3, 0x2360, 3]).topLong 2 = 0x32340) :=
  ⟨rfl, rfl, rfl, rfl, sole_inv _, waiting_inv.2.2, sole_inv _, sole_inv _, by decide +kernel⟩

theorem witness_SetPriorityGoesOn :
    (sole [3]).devices = [] ∧ (sole [3]).Inv ∧ (sole [3]).soleProcess ∧ (sole [3]).sp.val = 1 ∧ (sole [3]).xts.getLsbD 0 = false
      ∧ 3 = ((sole [3]).top 0).extractLsb' 0 3 ∧ (sole [3]).canReadAll [stateList 3, psbMds 8] = true
      ∧ (sole [3]).wordAt (stateList 3) ≠ 0 ∧ (sole [3]).wordAt (psbMds 8) = (sole [3]).mds
      ∧ ((sole [3]).wordAt (psbLink 8)).getLsbD failedBit = false
      ∧ ((sole [3]).stored ((sole [3]).lengthen ((sole [3]).lf - 1)) (sole [3]).pc).hasFrame (sole [3]).lf 0x1000 0x50000
        (sole [3]).pc := ⟨rfl, sole_inv _, by decide +kernel⟩

/-- `Requeue` of PSB 11 from the condition's queue to the ready queue, and of PSB 10 within its own queue. -/
theorem witness_SetPriorityGoesOn_requeue :
    (crowded 0x5A).devices = [] ∧ (crowded 0x5A).Inv ∧ (∀ q : BitVec 10, 8 ≤ q.toNat → psbLink q ≠ 0x32360 ∧ psbLink q ≠ readyQueue)
      ∧ (crowded 0x5A).holdsQueue 0x32360 [10, 11] ∧ (11 : BitVec 10) ∈ ([10, 11] : List (BitVec 10))
      ∧ (crowded 0x5A).holdsQueue readyQueue [8]
      ∧ ([8] : List (BitVec 10)).Pairwise (fun p q => (crowded 0x5A).priorityOf q ≤ (crowded 0x5A).priorityOf p)
      ∧ [11] = ([10, 11] : List (BitVec 10)).erase 10 :=
  ⟨rfl, crowded_inv _ (by decide +kernel), by decide +kernel, by decide +kernel⟩

theorem witness_InterruptDisabling :
    base.wdc ≠ Config.wdcMax ∧ ({ base with wdc := 7 } : State).wdc = Config.wdcMax ∧ base.wdc ≠ 0
      ∧ ({ base with wdc := 0 } : State).wdc = 0 := by decide

theorem witness_MapInstructions :
    (∃ s : State, s.afterDevices = s ∧ 5 ≤ s.sp.val ∧ (s.topLong 3).toNat < Config.vmPages ∧ (s.topLong 1).toNat < Config.realPages
        ∧ (entryOfFlags (s.top 0) ((s.topLong 1).setWidth 24)).vacant = false
        ∧ s.realPageTaken (s.topLong 3).toNat ((s.topLong 1).setWidth 24) = false)
      ∧ (∃ s : State, s.afterDevices = s ∧ 5 ≤ s.sp.val ∧ (s.topLong 3).toNat < Config.vmPages
        ∧ (entryOfFlags (s.top 0) ((s.topLong 1).setWidth 24)).vacant = true)
      ∧ (∃ s : State, s.afterDevices = s ∧ 5 ≤ s.sp.val ∧ Config.vmPages ≤ (s.topLong 3).toNat)
      ∧ (∃ s : State, s.afterDevices = s ∧ 2 ≤ s.sp.val ∧ s.sp.val < 14 ∧ (s.readMap (s.topLong 0).toNat).vacant = false)
      ∧ (∃ s : State, s.afterDevices = s ∧ 2 ≤ s.sp.val ∧ s.sp.val < 14 ∧ (s.readMap (s.topLong 0).toNat).vacant = true)
      ∧ (∃ s : State, s.afterDevices = s ∧ 3 ≤ s.sp.val ∧ (s.readMap (s.topLong 1).toNat).vacant = false)
      ∧ ∃ s : State, s.afterDevices = s ∧ 3 ≤ s.sp.val ∧ (s.readMap (s.topLong 1).toNat).vacant = true :=
  ⟨⟨withStack base [0x12, 0, 0x12, 0, 0], by decide⟩, ⟨withStack base [0x12, 0, 0, 0, 6], by decide⟩,
    ⟨withStack base [0, 0x100, 0, 0, 0], by decide⟩, ⟨withStack base [0x12, 0], by decide⟩,
    ⟨withStack base [0, 1], by decide⟩, ⟨withStack base [0xFFFF, 0, 4], by decide⟩,
    ⟨withStack base [0, 0x100, 4], by decide⟩⟩

theorem witness_RegisterInstructions : ∃ s : State, s.sp.val = 12 ∧ 2 ≤ s.sp.val := ⟨stackOf 12, by decide⟩

theorem witness_LengthenAndOverhead :
    ∃ s : State, s.devices = [] ∧ s.sp.val = 2 ∧ s.canWrite (s.lengthen (s.top 0 - zextByte 1)) = true
      ∧ s.canRead (s.lengthen (s.top 0 - zextByte 4)) = true := ⟨stackOf 2, by decide⟩

/-- A transfer of one bit, with the record at 0x100 of the MDS. -/
def oneBit : State :=
  withStack (withWords (bitBltBase 0x4000) [(local4 0x108, 1), (local4 0x109, 1)]) [0x0100]

/-- The hypotheses of the statement on `BITBLT` but its two addressing functions, which its equations define. -/
def bitBltReady (s : State) : Bool :=
  let a := bitBltArgOfWords ((List.range 12).map fun k => s.wordAt (s.lengthen (s.top 0 + BitVec.ofNat 16 k)))
  s.mapCanonical && s.wdc != 0 && s.sp.val == 1 && s.top 0 &&& 15 == 0
    && (List.range 12).all (fun k => s.canRead (s.lengthen (s.top 0 + BitVec.ofNat 16 k))) && a.legal
    && (!a.gray || decide (a.grayOffset.toNat ≤ a.grayHeight.toNat))
    && (List.range a.height.toNat).all fun n => (List.range a.width.toNat).all fun k =>
      let j := (bitBltStart a).advanceBy n
      s.canWrite (j.arg.dst.bump (BitVec.ofNat 32 k)).word
        && s.canRead (j.arg.src.bump (BitVec.signExtend 32
          (if a.gray then ((BitVec.ofNat 16 k + zextNibble j.arg.src.bit) &&& 15) - zextNibble j.arg.src.bit
            else BitVec.ofNat 16 k))).word

theorem witness_BitBlockTransfer :
    oneBit.devices = [] ∧ (withStack (bitBltBase 0x4000) [0x0100]).devices = [] ∧ bitBltReady (withStack (bitBltBase 0x4000) [0x0100]) = true ∧ bitBltReady oneBit = true
      ∧ oneBit.wordAt (local4 0x108) = 1 ∧ oneBit.wordAt (local4 0x109) = 1 := by decide +kernel

/-- A `TXTBLT` record at 0x100 of the MDS, formatting from the word at 0x30000 with the font at 0x30100, whose character 0x41
is six wide and whose character 0x42 stops. -/
def textWords : List (LongWord × Word) :=
  [(local4 0x100, 1), (local4 0x101, 4), (local4 0x102, 0), (local4 0x103, 3), (local4 0x104, 0x100), (local4 0x105, 3),
    (local4 0x106, 0), (local4 0x107, 2), (local4 0x108, 0x400), (local4 0x109, 1000), (0x30002, 0x4142), (0x30102, 0x200),
    (0x30103, 3), (0x30104, 0x300), (0x30105, 3), (0x30106, 0x400), (0x30107, 3), (0x30220, 0x0006), (0x30341, 60),
    (0x30420, 0x0080), (0x30421, 0x4000)]

/-- `TXTBLT` about to take the character at an index. -/
def texted (index last : Word) : State :=
  withStack (withWords base (textWords ++ [(local4 0x101, last)])) [index, 5, 10, 0xFFFE, 0x100]

/-- The hypotheses of the statement on `TXTBLT` that its clauses share, and those of its later clauses. -/
def textReady (s : State) : Bool × Bool × Word :=
  let a := txtBltArgOfWords ((List.range 13).map fun k => s.wordAt (s.lengthen (0x100 + BitVec.ofNat 16 k)))
  let c := s.byteOf a.text (zextLong (s.slot 0))
  let flags := s.byteOf (s.longAt (a.font + 6)) (zextByteLong c)
  (s.mapCanonical && s.wdc != 0 && s.sp.val == 5 && s.top 0 == 0x100 && a.legal && a.function == 1
    && (List.range 13).all (fun k => s.canRead (s.lengthen (0x100 + BitVec.ofNat 16 k)))
    && s.canReadAll [a.font + 2, a.font + 2 + 1, a.font + 4, a.font + 4 + 1, a.font + 6, a.font + 6 + 1,
        a.text + zextLong (s.slot 0) >>> 1, s.longAt (a.font + 6) + zextByteLong c >>> 1,
        s.longAt (a.font + 4) + zextByteLong c, s.longAt (a.font + 2) + zextByteLong c >>> 1],
    flags.getLsbD 6, s.slot 2 + s.wordAt (s.longAt (a.font + 4) + zextByteLong c))

theorem witness_TextBlockTransfer :
    (texted 4 4).devices = [] ∧ (texted 5 5).devices = [] ∧ (texted 5 4).devices = [] ∧ textReady (texted 4 4) = (true, false, 70) ∧ textReady (texted 5 5) = (true, true, 10)
      ∧ textReady (texted 5 4) = (true, true, 10) ∧ (4 : Word) ≠ 0xFFFF := by decide +kernel

theorem witness_BootTransferCallsProcedure :
    ∃ s : State, s.afterDevices = s ∧ s.devices = [] ∧ s.mapCanonical = true ∧ s.booted = false ∧ s.xts.getLsbD 0 = false ∧ s.sp.val < 13
      ∧ s.canReadAll [s.lengthen 0x202, s.lengthen 0x202 + 1] = true ∧ s.longAt (s.lengthen 0x202) = 0x00201101
      ∧ (0x00201101 : LongWord).getLsbD 0 = true ∧ (0x1100 : Word) = lowHalf 0x00201101 &&& 0xFFFE
      ∧ s.hasModule 0x1100 0x60000 ∧ s.hasBody 0x60000 (highHalf 0x00201101) 0x102 0x2000 0x2010 :=
  ⟨withWords State.reset [(0x202, 0x1101), (0x203, 0x20), (0x10FF, 6), (0x60010, 0x0200), (0x102, 0x2000),
    (0x2000, 0x2010)], by decide +kernel⟩


/-- The boot link a frame link. -/
theorem witness_BootTransferCallsProcedure_frame :
    ∃ s : State, s.afterDevices = s ∧ s.devices = [] ∧ s.mapCanonical = true ∧ s.booted = false ∧ s.xts.getLsbD 0 = false
      ∧ s.sp.val < 13 ∧ s.canReadAll [s.lengthen 0x202, s.lengthen 0x202 + 1] = true
      ∧ lowHalf (s.longAt (s.lengthen 0x202)) = 0x2000 ∧ s.hasFrame 0x2000 0x1000 0x50000 0x44 :=
  ⟨withWords State.reset [(0x202, 0x2000), (0x1FFE, 0x1000), (0x1FFF, 0x44), (0xFFF, 5)], by decide +kernel⟩
end Sys2Proof.Tests
end

namespace Sys2Proof.Machine

-- As in the tests: many kernel checks at once need more threads than a compile of the whole text may have.
set_option Elab.async false

/-! ### Every step keeps the invariant: a routine of each shape does -/

/-- A change of registers that leaves memory, the map, `PID` and `WM` as they were. -/
theorem keeps_set {f : State → State} (hmem : ∀ s, (f s).mem = s.mem := by exact fun _ => rfl)
    (hmap : ∀ s, (f s).map = s.map := by exact fun _ => rfl) (hpid : ∀ s, (f s).pid = s.pid := by exact fun _ => rfl)
    (hwm : ∀ s, (f s).wm = s.wm := by exact fun _ => rfl) : Keeps State.Inv (update f) :=
  keeps_registers hmem hmap hpid hwm

theorem keeps_afterDevices : Keeps State.Inv (update State.afterDevices) := keeps_update fun _ => inv_afterDevices

/-- A choice between two routines keeps a property that both keep. -/
theorem keeps_ite {α : Type} {P : State → Prop} {p : Prop} [Decidable p] {m n : M α} (hm : Keeps P m) (hn : Keeps P n) :
    Keeps P (if p then m else n) := by
  split
  · exact hm
  · exact hn

theorem keeps_refuse {α : Type} (P : State → Prop) (r : Refusal) : Keeps P (refuse r : M α) := keeps_raise _ _

/-- A routine that is preceded by another where a condition holds. -/
theorem keeps_when {α : Type} {P : State → Prop} {p : Prop} [Decidable p] {m : M Unit} {f : Unit → M α}
    (hm : Keeps P m) (hf : Keeps P (f ())) : Keeps P (if p then m >>= f else f ()) :=
  keeps_ite (keeps_bind hm fun _ => hf) hf

/-! ### Pointers, frames and fields -/

theorem keeps_localAddress (n : Word) : Keeps State.Inv (localAddress n) :=
  keeps_bind (keeps_getState _) fun _ => keeps_pure _ _

theorem keeps_globalAddress (n : Word) : Keeps State.Inv (globalAddress n) :=
  keeps_bind (keeps_getState _) fun _ => keeps_pure _ _

theorem keeps_loadShort (p : Word) : Keeps State.Inv (loadShort p) :=
  keeps_bind (keeps_memReadMds _) fun _ => keeps_push _

theorem keeps_loadShortDouble (p : Word) : Keeps State.Inv (loadShortDouble p) :=
  keeps_bind (keeps_loadShort _) fun _ => keeps_loadShort _

theorem keeps_fetchShortDouble (p : Word) : Keeps State.Inv (fetchShortDouble p) :=
  keeps_bind (keeps_memReadMds _) fun _ => keeps_bind (keeps_memReadMds _) fun _ =>
    keeps_bind (keeps_push _) fun _ => keeps_push _

theorem keeps_loadLong (p : LongWord) : Keeps State.Inv (loadLong p) :=
  keeps_bind (keeps_memRead _) fun _ => keeps_push _

theorem keeps_fetchLongDouble (p : LongWord) : Keeps State.Inv (fetchLongDouble p) :=
  keeps_bind (keeps_memRead _) fun _ => keeps_bind (keeps_memRead _) fun _ =>
    keeps_bind (keeps_push _) fun _ => keeps_push _

theorem keeps_storeShortDouble (p : Word) : Keeps State.Inv (storeShortDouble p) :=
  keeps_bind (keeps_memWritePopMds _) fun _ => keeps_memWritePopMds _

theorem keeps_storeLongDouble (p : LongWord) : Keeps State.Inv (storeLongDouble p) :=
  keeps_bind (keeps_memWritePop _) fun _ => keeps_memWritePop _

theorem keeps_pushLocalAddress (n : Word) : Keeps State.Inv (pushLocalAddress n) :=
  keeps_bind (keeps_localAddress _) fun _ => keeps_push _

theorem keeps_pushGlobalAddress (n : Word) : Keeps State.Inv (pushGlobalAddress n) :=
  keeps_bind (keeps_globalAddress _) fun _ => keeps_push _

theorem keeps_loadLocal (n : Word) : Keeps State.Inv (loadLocal n) :=
  keeps_bind (keeps_localAddress _) fun _ => keeps_loadShort _

theorem keeps_loadLocalDouble (n : Word) : Keeps State.Inv (loadLocalDouble n) :=
  keeps_bind (keeps_localAddress _) fun _ => keeps_loadShortDouble _

theorem keeps_storeLocal (n : Word) : Keeps State.Inv (storeLocal n) :=
  keeps_bind (keeps_localAddress _) fun _ => keeps_memWritePopMds _

theorem keeps_storeLocalDouble (n : Word) : Keeps State.Inv (storeLocalDouble n) :=
  keeps_bind (keeps_localAddress _) fun _ => keeps_storeShortDouble _

theorem keeps_putLocal (n : Word) : Keeps State.Inv (putLocal n) :=
  keeps_bind (keeps_storeLocal _) fun _ => keeps_recoverTop

theorem keeps_putLocalDouble (n : Word) : Keeps State.Inv (putLocalDouble n) :=
  keeps_bind (keeps_storeLocalDouble _) fun _ => keeps_bind keeps_recoverTop fun _ => keeps_recoverTop

theorem keeps_loadGlobal (n : Word) : Keeps State.Inv (loadGlobal n) :=
  keeps_bind (keeps_globalAddress _) fun _ => keeps_loadShort _

theorem keeps_loadGlobalDouble (n : Word) : Keeps State.Inv (loadGlobalDouble n) :=
  keeps_bind (keeps_globalAddress _) fun _ => keeps_loadShortDouble _

theorem keeps_readShort (n : Word) : Keeps State.Inv (readShort n) :=
  keeps_bind keeps_pop fun _ => keeps_loadShort _

theorem keeps_readLong (n : LongWord) : Keeps State.Inv (readLong n) :=
  keeps_bind keeps_popLong fun _ => keeps_loadLong _

theorem keeps_readShortDouble (n : Word) : Keeps State.Inv (readShortDouble n) :=
  keeps_bind keeps_pop fun _ => keeps_fetchShortDouble _

theorem keeps_readLongDouble (n : LongWord) : Keeps State.Inv (readLongDouble n) :=
  keeps_bind keeps_popLong fun _ => keeps_fetchLongDouble _

theorem keeps_writeShort (n : Word) : Keeps State.Inv (writeShort n) :=
  keeps_bind keeps_pop fun _ => keeps_memWritePopMds _

theorem keeps_putSwappedDouble (n : Word) : Keeps State.Inv (putSwappedDouble n) :=
  keeps_bind keeps_pop fun _ => keeps_bind keeps_pop fun _ => keeps_bind keeps_pop fun _ =>
    keeps_bind (keeps_memWriteMds _ _) fun _ => keeps_bind (keeps_memWriteMds _ _) fun _ => keeps_recoverTop

theorem keeps_localPointer (n : Word) : Keeps State.Inv (localPointer n) :=
  keeps_bind (keeps_localAddress _) fun _ => keeps_memReadMds _

theorem keeps_localLongPointer (n : Word) : Keeps State.Inv (localLongPointer n) :=
  keeps_bind (keeps_localAddress _) fun _ => keeps_readDblMds _

theorem keeps_readLocalIndirect (left right : Word) : Keeps State.Inv (readLocalIndirect left right) :=
  keeps_bind (keeps_localPointer _) fun _ => keeps_loadShort _

theorem keeps_readLocalDoubleIndirect (left right : Word) : Keeps State.Inv (readLocalDoubleIndirect left right) :=
  keeps_bind (keeps_localPointer _) fun _ => keeps_fetchShortDouble _

theorem keeps_shortStringWord (ptr offset : Word) : Keeps State.Inv (shortStringWord ptr offset) :=
  keeps_bind (keeps_getState _) fun _ => keeps_pure _ _

theorem keeps_pushField (w : Word) (pos size : Nibble) : Keeps State.Inv (pushField w pos size) :=
  keeps_ite (keeps_push _) (keeps_refuse _ _)

theorem keeps_loadField (va : LongWord) (pos size : Nibble) : Keeps State.Inv (loadField va pos size) :=
  keeps_bind (keeps_memRead _) fun _ => keeps_pushField _ _ _

theorem keeps_loadFieldMds (p : Word) (pos size : Nibble) : Keeps State.Inv (loadFieldMds p pos size) :=
  keeps_bind (keeps_memReadMds _) fun _ => keeps_pushField _ _ _

theorem keeps_mergeField (va : LongWord) (pos size : Nibble) (data : Word) :
    Keeps State.Inv (mergeField va pos size data) :=
  keeps_bind (keeps_memRead _) fun _ => keeps_ite (keeps_memWrite _ _) (keeps_refuse _ _)

theorem keeps_mergeFieldMds (p : Word) (pos size : Nibble) (data : Word) :
    Keeps State.Inv (mergeFieldMds p pos size data) :=
  keeps_bind (keeps_getState _) fun _ => keeps_mergeField _ _ _ _

theorem keeps_writeSwappedField (offset : Word) (pos size : Nibble) :
    Keeps State.Inv (writeSwappedField offset pos size) :=
  keeps_bind keeps_pop fun _ => keeps_bind keeps_pop fun _ => keeps_mergeFieldMds _ _ _ _

/-! ### The stack's operations and the jumps -/

theorem keeps_unary (f : Word → Word) : Keeps State.Inv (unary f) := keeps_bind keeps_pop fun _ => keeps_push _

theorem keeps_unaryLong (f : LongWord → LongWord) : Keeps State.Inv (unaryLong f) :=
  keeps_bind keeps_popLong fun _ => keeps_pushLong _

theorem keeps_binary (f : Word → Word → Word) : Keeps State.Inv (binary f) :=
  keeps_bind keeps_pop fun _ => keeps_bind keeps_pop fun _ => keeps_push _

theorem keeps_binaryLong (f : LongWord → LongWord → LongWord) : Keeps State.Inv (binaryLong f) :=
  keeps_bind keeps_popLong fun _ => keeps_bind keeps_popLong fun _ => keeps_pushLong _

theorem keeps_compareLong (f : LongWord → LongWord → Word) : Keeps State.Inv (compareLong f) :=
  keeps_bind keeps_popLong fun _ => keeps_bind keeps_popLong fun _ => keeps_push _

theorem keeps_pushDivision (quotient remainder : Word) : Keeps State.Inv (pushDivision quotient remainder) :=
  keeps_bind (keeps_push _) fun _ => keeps_bind (keeps_push _) fun _ => keeps_discard

theorem keeps_pushLongDivision (quotient remainder : LongWord) : Keeps State.Inv (pushLongDivision quotient remainder) :=
  keeps_bind (keeps_pushLong _) fun _ => keeps_bind (keeps_pushLong _) fun _ =>
    keeps_bind keeps_discard fun _ => keeps_discard

theorem keeps_jumpBy (displacement : Word) : Keeps State.Inv (jumpBy displacement) := keeps_set

theorem keeps_jumpIf (taken : Bool) (displacement : Word) : Keeps State.Inv (jumpIf taken displacement) :=
  keeps_ite (keeps_jumpBy _) (keeps_pure _ _)

theorem keeps_jumpOnTop (r : Relation) (constant displacement : Word) :
    Keeps State.Inv (jumpOnTop r constant displacement) :=
  keeps_bind keeps_pop fun _ => keeps_jumpIf _ _

theorem keeps_jumpOnPair (r : Relation) (displacement : Word) : Keeps State.Inv (jumpOnPair r displacement) :=
  keeps_bind keeps_pop fun _ => keeps_bind keeps_pop fun _ => keeps_jumpIf _ _

theorem keeps_jumpOnLongPair (r : Relation) (displacement : Word) : Keeps State.Inv (jumpOnLongPair r displacement) :=
  keeps_bind keeps_popLong fun _ => keeps_bind keeps_popLong fun _ => keeps_jumpIf _ _

/-! ### Block transfers -/

theorem keeps_suspend : Keeps State.Inv suspend := keeps_set

theorem keeps_blockLoop (n : Nat) {body : M Bool} (h : Keeps State.Inv body) : Keeps State.Inv (blockLoop n body) := by
  induction n with
  | zero => exact keeps_suspend
  | succ n ih =>
    exact keeps_bind h fun _ => keeps_ite
      (keeps_bind keeps_interruptPending fun _ => keeps_ite keeps_suspend ih) (keeps_pure _ _)

theorem keeps_stepBlt : Keeps State.Inv stepBlt :=
  keeps_bind keeps_pop fun _ => keeps_bind keeps_pop fun _ => keeps_bind keeps_pop fun _ =>
    keeps_ite (keeps_pure _ _) <| keeps_bind (keeps_memReadMds _) fun _ => keeps_bind (keeps_memWriteMds _ _) fun _ =>
    keeps_bind (keeps_push _) fun _ => keeps_bind (keeps_push _) fun _ => keeps_bind (keeps_push _) fun _ =>
    keeps_pure _ _

theorem keeps_stepBltc : Keeps State.Inv stepBltc :=
  keeps_bind keeps_pop fun _ => keeps_bind keeps_pop fun _ => keeps_bind keeps_pop fun _ =>
    keeps_ite (keeps_pure _ _) <| keeps_bind (keeps_readCode _) fun _ => keeps_bind (keeps_memWriteMds _ _) fun _ =>
    keeps_bind (keeps_push _) fun _ => keeps_bind (keeps_push _) fun _ => keeps_bind (keeps_push _) fun _ =>
    keeps_pure _ _

theorem keeps_stepBltl : Keeps State.Inv stepBltl :=
  keeps_bind keeps_popLong fun _ => keeps_bind keeps_pop fun _ => keeps_bind keeps_popLong fun _ =>
    keeps_ite (keeps_pure _ _) <| keeps_bind (keeps_memRead _) fun _ => keeps_bind (keeps_memWrite _ _) fun _ =>
    keeps_bind (keeps_pushLong _) fun _ => keeps_bind (keeps_push _) fun _ => keeps_bind (keeps_pushLong _) fun _ =>
    keeps_pure _ _

theorem keeps_stepBltlr : Keeps State.Inv stepBltlr :=
  keeps_bind keeps_popLong fun _ => keeps_bind keeps_pop fun _ => keeps_bind keeps_popLong fun _ =>
    keeps_ite (keeps_pure _ _) <| keeps_bind (keeps_memRead _) fun _ => keeps_bind (keeps_memWrite _ _) fun _ =>
    keeps_bind (keeps_pushLong _) fun _ => keeps_bind (keeps_push _) fun _ => keeps_bind (keeps_pushLong _) fun _ =>
    keeps_pure _ _

theorem keeps_stepBltcl : Keeps State.Inv stepBltcl :=
  keeps_bind keeps_popLong fun _ => keeps_bind keeps_pop fun _ => keeps_bind keeps_pop fun _ =>
    keeps_ite (keeps_pure _ _) <| keeps_bind (keeps_readCode _) fun _ => keeps_bind (keeps_memWrite _ _) fun _ =>
    keeps_bind (keeps_push _) fun _ => keeps_bind (keeps_push _) fun _ => keeps_bind (keeps_pushLong _) fun _ =>
    keeps_pure _ _

/-- A result pushed, and the end of the loop. -/
theorem keeps_pushThen {α : Type} (v : Word) (a : α) : Keeps State.Inv (push v >>= fun _ => pure a) :=
  keeps_bind (keeps_push _) fun _ => keeps_pure _ _

theorem keeps_stepCksum : Keeps State.Inv stepCksum :=
  keeps_bind keeps_popLong fun _ => keeps_bind keeps_pop fun _ => keeps_bind keeps_pop fun _ =>
    keeps_ite (keeps_pushThen _ _) <| keeps_bind (keeps_memRead _) fun _ =>
    keeps_bind (keeps_push _) fun _ => keeps_bind (keeps_push _) fun _ => keeps_bind (keeps_pushLong _) fun _ =>
    keeps_pure _ _

theorem keeps_stepBlel : Keeps State.Inv stepBlel :=
  keeps_bind keeps_popLong fun _ => keeps_bind keeps_pop fun _ => keeps_bind keeps_popLong fun _ =>
    keeps_ite (keeps_pushThen _ _) <| keeps_bind (keeps_memRead _) fun _ => keeps_bind (keeps_memRead _) fun _ =>
    keeps_ite (keeps_pushThen _ _) <|
    keeps_bind (keeps_pushLong _) fun _ => keeps_bind (keeps_push _) fun _ => keeps_bind (keeps_pushLong _) fun _ =>
    keeps_pure _ _

theorem keeps_stepBlecl : Keeps State.Inv stepBlecl :=
  keeps_bind keeps_popLong fun _ => keeps_bind keeps_pop fun _ => keeps_bind keeps_pop fun _ =>
    keeps_ite (keeps_pushThen _ _) <| keeps_bind (keeps_memRead _) fun _ => keeps_bind (keeps_readCode _) fun _ =>
    keeps_ite (keeps_pushThen _ _) <|
    keeps_bind (keeps_push _) fun _ => keeps_bind (keeps_push _) fun _ => keeps_bind (keeps_pushLong _) fun _ =>
    keeps_pure _ _

theorem keeps_stepBytes (move : LongWord → Word → LongWord × Word) : Keeps State.Inv (stepBytes move) :=
  keeps_bind keeps_pop fun _ => keeps_bind keeps_popLong fun _ => keeps_bind keeps_pop fun _ =>
    keeps_bind keeps_pop fun _ => keeps_bind keeps_popLong fun _ => keeps_ite (keeps_pure _ _) <|
    keeps_bind (keeps_fetchByte _ _) fun _ => keeps_bind (keeps_storeByte _ _ _) fun _ =>
    keeps_bind (keeps_pushLong _) fun _ => keeps_bind (keeps_push _) fun _ => keeps_bind (keeps_push _) fun _ =>
    keeps_bind (keeps_pushLong _) fun _ => keeps_bind (keeps_push _) fun _ => keeps_pure _ _

/-! ### Bit and text block transfers -/

theorem keeps_readBit (a : BitAddress) (offset : Word) : Keeps State.Inv (readBit a offset) :=
  keeps_bind (keeps_memRead _) fun _ => keeps_pure _ _

theorem keeps_writeBit (a : BitAddress) (offset : Word) (bit : Bool) : Keeps State.Inv (writeBit a offset bit) :=
  keeps_bind (keeps_memRead _) fun _ => keeps_memWrite _ _

theorem keeps_readRecord (ptr : Word) (n i : Nat) : Keeps State.Inv (readRecord ptr n i) := by
  induction n generalizing i with
  | zero => exact keeps_pure _ _
  | succ n ih => exact keeps_bind (keeps_memReadMds _) fun _ => keeps_bind (ih _) fun _ => keeps_pure _ _

theorem keeps_bitBltBits (j : BitBltJob) (n : Nat) (offset : Word) : Keeps State.Inv (bitBltBits j n offset) := by
  induction n generalizing offset with
  | zero => exact keeps_pure _ _
  | succ n ih =>
    exact keeps_bind (keeps_readBit _ _) fun _ => keeps_bind (keeps_readBit _ _) fun _ =>
      keeps_bind (keeps_writeBit _ _ _) fun _ => ih _

theorem keeps_bitBltItems (ptr : Word) (n : Nat) (j : BitBltJob) (done : Word) :
    Keeps State.Inv (bitBltItems ptr n j done) := by
  induction n generalizing j done with
  | zero => exact keeps_pure _ _
  | succ n ih =>
    exact keeps_ite (keeps_bind (keeps_bitBltBits _ _ _) fun _ => keeps_bind keeps_interruptPending fun _ =>
      keeps_ite (keeps_bind (keeps_push _) fun _ => keeps_bind (keeps_push _) fun _ => keeps_suspend) (ih _ _))
      (keeps_pure _ _)

theorem keeps_bitBltSetup (ptr : Word) : Keeps State.Inv (bitBltSetup ptr) := by
  unfold bitBltSetup
  exact keeps_guard _ <| keeps_bind (keeps_readRecord _ _ _) fun _ =>
    keeps_ite (keeps_ite (keeps_refuse _ _) (keeps_pure _ _)) (keeps_refuse _ _)

theorem keeps_bitBltOperands : Keeps State.Inv bitBltOperands :=
  keeps_bind (keeps_getState _) fun _ => keeps_ite (keeps_bind keeps_pop fun _ => keeps_pure _ _) <|
    keeps_ite (keeps_bind keeps_pop fun _ => keeps_bind keeps_pop fun _ => keeps_pure _ _) (keeps_refuse _ _)

theorem keeps_doBitblt : Keeps State.Inv doBitblt :=
  keeps_bind keeps_bitBltOperands fun _ => keeps_bind (keeps_bitBltSetup _) fun _ =>
    keeps_bind keeps_minimalStack fun _ => keeps_bitBltItems _ _ _ _

theorem keeps_spacingWidth (font : LongWord) (c : Byte) : Keeps State.Inv (spacingWidth font c) :=
  keeps_bind (keeps_readDbl _) fun _ => keeps_bind (keeps_fetchByte _ _) fun _ => keeps_pure _ _

theorem keeps_printerWidth (font : LongWord) (c : Byte) : Keeps State.Inv (printerWidth font c) :=
  keeps_bind (keeps_readDbl _) fun _ => keeps_memRead _

theorem keeps_fontFlags (font : LongWord) (c : Byte) : Keeps State.Inv (fontFlags font c) :=
  keeps_bind (keeps_readDbl _) fun _ => keeps_fetchByte _ _

theorem keeps_padCharacter (font : LongWord) (c : Byte) : Keeps State.Inv (padCharacter font c) :=
  keeps_bind (keeps_fontFlags _ _) fun _ => keeps_pure _ _

theorem keeps_stopCharacter (font : LongWord) (c : Byte) : Keeps State.Inv (stopCharacter font c) :=
  keeps_bind (keeps_fontFlags _ _) fun _ => keeps_pure _ _

theorem keeps_rasterInfo (font : LongWord) (c : Byte) : Keeps State.Inv (rasterInfo font c) :=
  keeps_bind (keeps_readDbl _) fun _ => keeps_memRead _

theorem keeps_leftKern (font : LongWord) (c : Byte) : Keeps State.Inv (leftKern font c) :=
  keeps_bind (keeps_rasterInfo _ _) fun _ => keeps_pure _ _

theorem keeps_rightKern (font : LongWord) (c : Byte) : Keeps State.Inv (rightKern font c) :=
  keeps_bind (keeps_rasterInfo _ _) fun _ => keeps_pure _ _

theorem keeps_rasterAddress (font : LongWord) (c : Byte) : Keeps State.Inv (rasterAddress font c) :=
  keeps_bind (keeps_readDbl _) fun _ => keeps_bind (keeps_rasterInfo _ _) fun _ => keeps_pure _ _

theorem keeps_rasterBit (font : LongWord) (c : Byte) (k : LongWord) : Keeps State.Inv (rasterBit font c k) :=
  keeps_bind (keeps_rasterAddress _ _) fun _ => keeps_bind (keeps_memRead _) fun _ => keeps_pure _ _

theorem keeps_paintPixels (font : LongWord) (c : Byte) (dst : BitAddress) (n : Nat) (offset : Word) (k : LongWord) :
    Keeps State.Inv (paintPixels font c dst n offset k) := by
  induction n generalizing offset k with
  | zero => exact keeps_pure _ _
  | succ n ih =>
    exact keeps_bind (keeps_rasterBit _ _ _) fun _ => keeps_guard _ <| keeps_bind (keeps_readBit _ _) fun _ =>
      keeps_bind (keeps_writeBit _ _ _) fun _ => ih _ _

theorem keeps_paintLines (a : TxtBltArg) (c : Byte) (pos width : Word) (n : Nat) (dst : BitAddress) (k : LongWord) :
    Keeps State.Inv (paintLines a c pos width n dst k) := by
  induction n generalizing dst k with
  | zero => exact keeps_pure _ _
  | succ n ih => exact keeps_bind (keeps_paintPixels _ _ _ _ _ _) fun _ => ih _ _

theorem keeps_displayWidth (font : LongWord) (c : Byte) : Keeps State.Inv (displayWidth font c) :=
  keeps_bind (keeps_spacingWidth _ _) fun _ => keeps_bind (keeps_leftKern _ _) fun _ =>
    keeps_bind (keeps_rightKern _ _) fun _ => keeps_pure _ _

theorem keeps_displayChar (a : TxtBltArg) (pos : Word) (c : Byte) : Keeps State.Inv (displayChar a pos c) :=
  keeps_bind (keeps_displayWidth _ _) fun _ => keeps_bind (keeps_leftKern _ _) fun _ =>
    keeps_bind (keeps_memRead _) fun _ => keeps_paintLines _ _ _ _ _ _ _

theorem keeps_txtBltPush (j : TxtBltJob) (data : Word) : Keeps State.Inv (txtBltPush j data) :=
  keeps_bind (keeps_push _) fun _ => keeps_bind (keeps_push _) fun _ => keeps_bind (keeps_push _) fun _ =>
    keeps_bind (keeps_push _) fun _ => keeps_push _

theorem keeps_txtBltChar (a : TxtBltArg) (j : TxtBltJob) : Keeps State.Inv (txtBltChar a j) := by
  unfold txtBltChar
  exact keeps_when (keeps_memWrite _ _) <| keeps_bind (keeps_fetchByte _ _) fun _ =>
    keeps_bind (keeps_stopCharacter _ _) fun _ => keeps_ite (keeps_pure _ _) <|
    keeps_bind (keeps_printerWidth _ _) fun _ => keeps_ite (keeps_pure _ _) <|
    keeps_when (keeps_displayChar _ _ _) <| keeps_bind (keeps_spacingWidth _ _) fun _ =>
    keeps_bind (keeps_printerWidth _ _) fun _ => keeps_bind (keeps_padCharacter _ _) fun _ => keeps_pure _ _

theorem keeps_txtBltLoop (a : TxtBltArg) (ptr : Word) (n : Nat) (j : TxtBltJob) :
    Keeps State.Inv (txtBltLoop a ptr n j) := by
  induction n generalizing j with
  | zero => exact keeps_bind (keeps_txtBltPush _ _) fun _ => keeps_suspend
  | succ n ih =>
    refine keeps_ite (keeps_txtBltPush _ _) (keeps_bind (keeps_txtBltChar _ _) fun outcome => ?_)
    cases outcome with
    | inr result => exact keeps_txtBltPush _ _
    | inl j' =>
      exact keeps_bind keeps_interruptPending fun _ =>
        keeps_ite (keeps_bind (keeps_txtBltPush _ _) fun _ => keeps_suspend) (ih _)

theorem keeps_txtBltSetup (ptr : Word) : Keeps State.Inv (txtBltSetup ptr) := by
  unfold txtBltSetup
  exact keeps_guard _ <| keeps_bind (keeps_readRecord _ _ _) fun _ => keeps_ite (keeps_pure _ _) (keeps_refuse _ _)

theorem keeps_doTxtblt : Keeps State.Inv doTxtblt :=
  keeps_bind keeps_pop fun _ => keeps_bind keeps_pop fun _ => keeps_bind keeps_pop fun _ =>
    keeps_bind keeps_pop fun _ => keeps_bind keeps_pop fun _ => keeps_bind keeps_minimalStack fun _ =>
    keeps_bind (keeps_txtBltSetup _) fun _ => keeps_txtBltLoop _ _ _ _

/-! ### Monitors, conditions and priorities -/

theorem keeps_refuseProtected {P : State → Prop} (va : LongWord) {m : M Unit} (h : Keeps P m) :
    Keeps P (refuseProtected va m) := by
  intro s hs
  have hm := h s hs
  unfold refuseProtected
  cases hr : m s with
  | ok a s' => rw [hr] at hm; exact hm
  | error e s' =>
    rw [hr] at hm
    dsimp only
    split <;> rename_i heq <;> split at heq <;> cases heq <;> exact hm

theorem keeps_enterFailed (m : LongWord) : Keeps State.Inv (enterFailed m) :=
  keeps_bind (keeps_getState _) fun _ => keeps_bind (keeps_memRead _) fun _ => keeps_bind (keeps_memWrite _ _) fun _ =>
    keeps_bind (keeps_refuseProtected _ (keeps_requeue _ _ _)) fun _ => keeps_reschedule _

theorem keeps_exitMonitor (m : LongWord) : Keeps State.Inv (exitMonitor m) :=
  keeps_bind (keeps_memRead _) fun _ => keeps_ite
    (keeps_bind (keeps_memWrite _ _) fun _ => keeps_ite (keeps_pure _ _) <|
      keeps_bind (keeps_memRead _) fun _ => keeps_bind (keeps_requeue _ _ _) fun _ => keeps_pure _ _)
    (keeps_refuse _ _)

theorem keeps_lockMonitor (m : LongWord) (mon : Word) : Keeps State.Inv (lockMonitor m mon) :=
  keeps_bind (keeps_memWrite _ _) fun _ => keeps_push _

theorem keeps_rescheduleIf (woken : Bool) : Keeps State.Inv (rescheduleIf woken) :=
  keeps_ite (keeps_reschedule _) (keeps_pure _ _)

theorem keeps_consumeWakeup (c : LongWord) (cond : Word) : Keeps State.Inv (consumeWakeup c cond) :=
  keeps_refuseProtected _ (keeps_memWrite _ _)

theorem keeps_waitOn (c : LongWord) (t flags : Word) : Keeps State.Inv (waitOn c t flags) :=
  keeps_bind (keeps_getState _) fun _ => keeps_bind (keeps_memWrite _ _) fun _ => keeps_bind (keeps_memWrite _ _) fun _ =>
    keeps_refuseProtected _ (keeps_requeue _ _ _)

theorem keeps_reenter (m c : LongWord) (mon : Word) : Keeps State.Inv (reenter m c mon) :=
  keeps_bind (keeps_cleanupCondition _) fun _ => keeps_bind (keeps_getState _) fun _ =>
    keeps_bind (keeps_memRead _) fun _ => keeps_bind (keeps_memWrite _ _) fun _ =>
    keeps_ite (keeps_bind (keeps_memRead _) fun _ => keeps_guard _ (keeps_lockMonitor _ _)) (keeps_lockMonitor _ _)

theorem keeps_wakeAll (n : Nat) (c : LongWord) (woken : Bool) : Keeps State.Inv (wakeAll n c woken) := by
  induction n generalizing woken with
  | zero => exact keeps_refuse _ _
  | succ n ih =>
    exact keeps_bind (keeps_memRead _) fun _ => keeps_ite (keeps_pure _ _) <|
      keeps_bind (keeps_wakeHead _) fun _ => ih _

theorem keeps_doMw : Keeps State.Inv doMw :=
  keeps_bind keeps_pop fun _ => keeps_bind keeps_popLong fun _ => keeps_bind keeps_popLong fun _ =>
    keeps_bind keeps_minimalStack fun _ => keeps_bind (keeps_cleanupCondition _) fun _ =>
    keeps_bind (keeps_exitMonitor _) fun _ => keeps_bind (keeps_getState _) fun _ =>
    keeps_bind (keeps_memRead _) fun _ => keeps_bind (keeps_memRead _) fun _ =>
    keeps_ite (keeps_rescheduleIf _) <| keeps_ite
      (keeps_bind (keeps_consumeWakeup _ _) fun _ => keeps_rescheduleIf _)
      (keeps_bind (keeps_waitOn _ _ _) fun _ => keeps_reschedule _)

/-! ### Control transfers -/

theorem keeps_externalCall (k : Byte) : Keeps State.Inv (externalCall k) :=
  keeps_bind (keeps_fetchLink _) fun _ => keeps_call _

theorem keeps_portOut : Keeps State.Inv portOut :=
  keeps_bind keeps_pop fun _ => keeps_bind keeps_pop fun _ => keeps_bind (keeps_getState _) fun _ =>
    keeps_bind (keeps_memWriteMds _ _) fun _ => keeps_bind (keeps_memWriteMds _ _) fun _ =>
    keeps_bind (keeps_readDblMds _) fun _ => keeps_xfer _ _ _ _

theorem keeps_doLfc (word : Word) : Keeps State.Inv (doLfc word) :=
  keeps_bind (keeps_getState _) fun _ => keeps_bind (keeps_memWriteMds _ _) fun _ => keeps_guard _ <|
    keeps_bind (keeps_enterProcedure _ _ _) fun _ => keeps_bind keeps_set fun _ => keeps_checkForXferTraps _ _

theorem keeps_doXe (alpha : Byte) : Keeps State.Inv (doXe alpha) :=
  keeps_noAbort _ <| keeps_bind (keeps_getState _) fun _ => keeps_bind (keeps_memWriteMds _ _) fun _ =>
    keeps_bind (keeps_readDblMds _) fun _ => keeps_bind (keeps_memReadMds _) fun _ =>
    keeps_bind (keeps_xfer _ _ _ _) fun _ => keeps_set

theorem keeps_doPi : Keeps State.Inv doPi :=
  keeps_bind keeps_recoverTop fun _ => keeps_bind keeps_recoverTop fun _ => keeps_bind keeps_pop fun _ =>
    keeps_bind keeps_pop fun _ => keeps_bind (keeps_memWriteMds _ _) fun _ =>
    keeps_ite (keeps_memWriteMds _ _) (keeps_pure _ _)

/-! ### The map -/

/-- What a table holds at a key is listed there, or is the unlisted value. -/
theorem tableGet_listed {α : Type} (unlisted : Nat → α) (t : List (Nat × α)) (key : Nat) :
    (key, tableGet unlisted t key) ∈ t ∨ tableGet unlisted t key = unlisted key := by
  induction t with
  | nil => exact .inr rfl
  | cons p rest ih =>
    obtain ⟨k, v⟩ := p
    by_cases hk : k = key
    · subst hk
      simp [tableGet]
    · simp only [tableGet, if_neg hk]
      exact ih.imp_left (List.mem_cons_of_mem _)

/-- An unlisted page that is mapped has the real page of its own number (log entry 4). -/
theorem unlistedEntry_real {vp : Nat} (h : (unlistedEntry vp).vacant = false) : (unlistedEntry vp).real.toNat = vp := by
  unfold unlistedEntry at h ⊢
  by_cases hv : vp < Config.realPages
  · rw [if_pos hv]
    unfold Config.realPages at hv
    rw [BitVec.toNat_ofNat]
    omega
  · rw [if_neg hv] at h
    exact absurd h (by decide)

/-- Where the check of `SM` finds no other page mapped to a real page, there is none (20_memory.md R107(a)). -/
theorem realPageTaken_false {s : State} {vp vp' : Nat} {real : BitVec 24} (h : s.realPageTaken vp real = false)
    (hne : vp' ≠ vp) (hv : (s.readMap vp').vacant = false) : (s.readMap vp').real ≠ real := by
  intro hr
  obtain ⟨hlisted, hunlisted⟩ := Bool.or_eq_false_iff.mp h
  have hin : vp' < Config.vmPages := by
    by_contra hout
    rw [State.readMap, if_neg hout] at hv
    exact absurd hv (by decide)
  have hget : s.readMap vp' = tableGet unlistedEntry s.map vp' := by rw [State.readMap, if_pos hin]
  rcases tableGet_listed unlistedEntry s.map vp' with hmem | hun
  · rw [← hget] at hmem
    have := List.any_eq_false.mp hlisted _ hmem
    simp [hne, hv, hr] at this
  · have hvp : real.toNat = vp' := by
      rw [← hget] at hun
      rw [← hr, hun]
      exact unlistedEntry_real (hun ▸ hv)
    simp [hvp, hne, hv, hr] at hunlisted

/-- `WriteMap` of an entry that is vacant, or whose real page exists and is no other page's, keeps the invariant
(20_memory.md R107). -/
theorem inv_writeMap {s : State} {vp : Nat} {e : MapEntry} (hi : s.Inv) (hb : e.vacant = false → realPageExists e.real = true)
    (hj : e.vacant = false → ∀ vp', vp' ≠ vp → (s.readMap vp').vacant = false → (s.readMap vp').real ≠ e.real) :
    (s.writeMap vp e).Inv := by
  by_cases hv : vp < Config.vmPages
  swap
  · rw [writeMap_outside hv]; exact hi
  obtain ⟨hmem, hcanon, hbacked, hinj, hpid, hwm⟩ := hi
  have hself : (s.writeMap vp e).readMap vp = if e.vacant then vacantEntry else e := readMap_writeMap_self hcanon hv
  have hmapped : ((s.writeMap vp e).readMap vp).vacant = false → e.vacant = false ∧ (s.writeMap vp e).readMap vp = e := by
    intro h
    cases he : e.vacant with
    | false => rw [hself, he]; exact ⟨rfl, rfl⟩
    | true =>
      rw [hself, he, if_pos rfl] at h
      exact absurd h (by decide)
  refine ⟨by simpa using hmem, writeMap_canonical hcanon, ?_, ?_, by simpa using hpid, by simpa using hwm⟩
  · intro p hp
    by_cases hpv : p = vp
    · subst hpv
      obtain ⟨he, hr⟩ := hmapped hp
      rw [hr]
      exact hb he
    · rw [readMap_writeMap_other hpv] at hp ⊢
      exact hbacked p hp
  · intro p q hp hq hr
    by_cases hpv : p = vp
    · by_cases hqv : q = vp
      · rw [hpv, hqv]
      · subst hpv
        obtain ⟨he, hrp⟩ := hmapped hp
        rw [readMap_writeMap_other hqv] at hq hr
        rw [hrp] at hr
        exact absurd hr.symm (hj he q hqv hq)
    · rw [readMap_writeMap_other hpv] at hp hr
      by_cases hqv : q = vp
      · subst hqv
        obtain ⟨he, hrq⟩ := hmapped hq
        rw [hrq] at hr
        exact absurd hr (hj he p hpv hp)
      · rw [readMap_writeMap_other hqv] at hq hr
        exact hinj p q hp hq hr

/-- `SM` checks what the invariant needs of the entry it writes (40_map_register_instructions.md R200, R201). -/
theorem keeps_setEntry (vp : LongWord) (flags : Word) (rp : LongWord) : Keeps State.Inv (setEntry vp flags rp) := by
  intro s hi
  unfold setEntry
  rw [getState_bind]
  split_ifs with hin hvacant habsent htaken
  · exact inv_writeMap hi (by simp [hvacant]) (by simp [hvacant])
  · exact hi
  · exact hi
  · refine inv_writeMap hi (fun _ => ?_) fun _ vp' hne hv => realPageTaken_false (by simpa using htaken) hne hv
    have hlt : rp.toNat < Config.realPages := by omega
    unfold Config.realPages at hlt
    simp only [realPageExists, entryOfFlags, BitVec.toNat_setWidth, Config.realPages, decide_eq_true_eq]
    omega
  · exact hi

theorem keeps_and {α : Type} {P Q : State → Prop} {m : M α} (hp : Keeps P m) (hq : Keeps Q m) :
    Keeps (fun s => P s ∧ Q s) m := by
  intro s hs
  have h1 := hp s hs.1
  have h2 := hq s hs.2
  revert h1 h2
  cases m s <;> exact fun h1 h2 => ⟨h1, h2⟩

theorem push_keeps_map (map : List (Nat × MapEntry)) (v : Word) : Keeps (fun s => s.map = map) (push v) := by
  intro s hs
  rcases push_cases v s with ⟨_, he⟩ | ⟨_, he⟩ <;> rw [he] <;> exact hs

theorem pushLong_keeps_map (map : List (Nat × MapEntry)) (v : LongWord) : Keeps (fun s => s.map = map) (pushLong v) :=
  keeps_bind (push_keeps_map _ _) fun _ => push_keeps_map _ _

theorem pushEntry_keeps_map (map : List (Nat × MapEntry)) (e : MapEntry) : Keeps (fun s => s.map = map) (pushEntry e) :=
  keeps_bind (push_keeps_map _ _) fun _ => keeps_ite
    (keeps_bind (fun _ h => h : Keeps (fun s => s.map = map) drawRealPage) fun _ => pushLong_keeps_map _ _)
    (pushLong_keeps_map _ _)

theorem keeps_pushEntry (e : MapEntry) : Keeps State.Inv (pushEntry e) :=
  keeps_bind (keeps_push _) fun _ => keeps_ite
    (keeps_bind keeps_drawRealPage fun _ => keeps_pushLong _) (keeps_pushLong _)

/-- New flags for an entry that is mapped leave its real page its own (40_map_register_instructions.md R203). -/
theorem inv_writeFlags {s : State} {vp : Nat} {flags : Word} (hi : s.Inv) (hv : (s.readMap vp).vacant = false) :
    (s.writeMap vp (entryOfFlags flags (s.readMap vp).real)).Inv := by
  have ⟨_, _, hbacked, hinj, _⟩ := hi
  exact inv_writeMap hi (fun _ => hbacked vp hv) fun _ vp' hne hv' hr => hne (hinj vp' vp hv' hv hr)

/-- The entry that `SMF` changes is the one it has pushed: no device acts in between. -/
theorem keeps_doSmf : Keeps State.Inv doSmf := by
  refine keeps_bind keeps_afterDevices fun _ => keeps_bind keeps_pop fun flags => keeps_bind keeps_popLong fun vp => ?_
  intro s hi
  rw [getState_bind, bind_run]
  have hpush := keeps_and (keeps_pushEntry _) (pushEntry_keeps_map s.map (s.readMap vp.toNat)) s ⟨hi, rfl⟩
  revert hpush
  cases pushEntry (s.readMap vp.toNat) s with
  | error e t => exact fun h => h.1
  | ok _ t =>
    rintro ⟨hi, hmap⟩
    have hread : s.readMap vp.toNat = t.readMap vp.toNat := by rw [State.readMap, State.readMap, hmap]
    dsimp only
    split_ifs with hv
    · exact hi
    · rw [hread] at hv ⊢
      exact inv_writeFlags hi (by simpa using hv)

/-! ### The instructions -/

/-- The routine of an instruction, as `BRK` runs it, keeps the invariant. -/
theorem keeps_dispatch (i : Instr) : Keeps State.Inv (dispatch i) := by
  cases i with
  | llb | ll0 | ll1 | ll2 | ll3 | ll4 | ll5 | ll6 | ll7 | ll8 | ll9 | ll10 | ll11 => exact keeps_loadLocal _
  | lldb | lld0 | lld1 | lld2 | lld3 | lld4 | lld5 | lld6 | lld7 | lld8 | lld10 => exact keeps_loadLocalDouble _
  | slb | sl0 | sl1 | sl2 | sl3 | sl4 | sl5 | sl6 | sl7 | sl8 | sl9 | sl10 => exact keeps_storeLocal _
  | sldb | sld0 | sld1 | sld2 | sld3 | sld4 | sld5 | sld6 | sld8 => exact keeps_storeLocalDouble _
  | plb | pl0 | pl1 | pl2 | pl3 => exact keeps_putLocal _
  | pldb | pld0 => exact keeps_putLocalDouble _
  | lgb | lg0 | lg1 | lg2 => exact keeps_loadGlobal _
  | lgdb | lgd0 | lgd2 => exact keeps_loadGlobalDouble _
  | sgb => exact keeps_bind (keeps_globalAddress _) fun _ => keeps_memWritePopMds _
  | sgdb => exact keeps_bind (keeps_globalAddress _) fun _ => keeps_storeShortDouble _
  | li0 | li1 | li2 | li3 | li4 | li5 | li6 | li7 | li8 | li9 | li10 | lin1 | lini | lib | liw | linb | lihb =>
    exact keeps_push _
  | lid0 => exact keeps_pushLong _
  | la0 | la1 | la2 | la3 | la6 | la8 | lab | law => exact keeps_pushLocalAddress _
  | ga0 | ga1 | gab | gaw => exact keeps_pushGlobalAddress _
  | al0ib =>
    exact keeps_bind (keeps_localAddress _) fun _ => keeps_bind (keeps_memReadMds _) fun _ => keeps_push _
  | rb | r0 | r1 => exact keeps_readShort _
  | rlb | rl0 => exact keeps_readLong _
  | rdb | rd0 => exact keeps_readShortDouble _
  | rdlb | rdl0 => exact keeps_readLongDouble _
  | wb | w0 => exact keeps_writeShort _
  | psb =>
    exact keeps_bind keeps_pop fun _ => keeps_bind keeps_pop fun _ => keeps_bind (keeps_memWriteMds _ _) fun _ =>
      keeps_recoverTop
  | wlb => exact keeps_bind keeps_popLong fun _ => keeps_memWritePop _
  | pslb =>
    exact keeps_bind keeps_pop fun _ => keeps_bind keeps_popLong fun _ => keeps_bind (keeps_memWrite _ _) fun _ =>
      keeps_bind keeps_recoverTop fun _ => keeps_recoverTop
  | wdb => exact keeps_bind keeps_pop fun _ => keeps_storeShortDouble _
  | psdb | psd0 => exact keeps_putSwappedDouble _
  | wdlb => exact keeps_bind keeps_popLong fun _ => keeps_storeLongDouble _
  | psdlb =>
    exact keeps_bind keeps_pop fun _ => keeps_bind keeps_pop fun _ => keeps_bind keeps_popLong fun _ =>
      keeps_bind (keeps_memWrite _ _) fun _ => keeps_bind (keeps_memWrite _ _) fun _ =>
      keeps_bind keeps_recoverTop fun _ => keeps_recoverTop
  | rlip | rli00 | rli01 | rli02 | rli03 => exact keeps_readLocalIndirect _ _
  | rlilp => exact keeps_bind (keeps_localLongPointer _) fun _ => keeps_loadLong _
  | rldip | rldi00 => exact keeps_readLocalDoubleIndirect _ _
  | rldilp => exact keeps_bind (keeps_localLongPointer _) fun _ => keeps_fetchLongDouble _
  | rgip =>
    exact keeps_bind (keeps_globalAddress _) fun _ => keeps_bind (keeps_memReadMds _) fun _ => keeps_loadShort _
  | rgilp =>
    exact keeps_bind (keeps_globalAddress _) fun _ => keeps_bind (keeps_readDblMds _) fun _ => keeps_loadLong _
  | wlip => exact keeps_bind (keeps_localPointer _) fun _ => keeps_memWritePopMds _
  | wlilp => exact keeps_bind (keeps_localLongPointer _) fun _ => keeps_memWritePop _
  | wldilp => exact keeps_bind (keeps_localLongPointer _) fun _ => keeps_storeLongDouble _
  | rc => exact keeps_bind keeps_pop fun _ => keeps_bind (keeps_readCode _) fun _ => keeps_push _
  | rs =>
    exact keeps_bind keeps_pop fun _ => keeps_bind keeps_pop fun _ => keeps_bind (keeps_shortStringWord _ _) fun _ =>
      keeps_bind (keeps_memRead _) fun _ => keeps_push _
  | rls =>
    exact keeps_bind keeps_pop fun _ => keeps_bind keeps_popLong fun _ => keeps_bind (keeps_fetchByte _ _) fun _ =>
      keeps_push _
  | ws =>
    exact keeps_bind keeps_pop fun _ => keeps_bind keeps_pop fun _ => keeps_bind keeps_pop fun _ =>
      keeps_bind (keeps_shortStringWord _ _) fun _ => keeps_bind (keeps_memRead _) fun _ => keeps_memWrite _ _
  | wls =>
    exact keeps_bind keeps_pop fun _ => keeps_bind keeps_popLong fun _ => keeps_bind keeps_pop fun _ =>
      keeps_storeByte _ _ _
  | r0f | rf => exact keeps_bind keeps_pop fun _ => keeps_loadFieldMds _ _ _
  | rl0f | rlf => exact keeps_bind keeps_popLong fun _ => keeps_loadField _ _ _
  | rlfs => exact keeps_bind keeps_pop fun _ => keeps_bind keeps_popLong fun _ => keeps_loadField _ _ _
  | rcfs =>
    exact keeps_bind keeps_pop fun _ => keeps_bind keeps_pop fun _ => keeps_bind (keeps_readCode _) fun _ =>
      keeps_pushField _ _ _
  | rlipf =>
    exact keeps_bind (keeps_getState _) fun _ => keeps_bind (keeps_memReadMds _) fun _ => keeps_loadFieldMds _ _ _
  | rlilpf =>
    exact keeps_bind (keeps_getState _) fun _ => keeps_bind (keeps_readDblMds _) fun _ => keeps_loadField _ _ _
  | w0f | wf => exact keeps_bind keeps_pop fun _ => keeps_bind keeps_pop fun _ => keeps_mergeFieldMds _ _ _ _
  | wl0f | wlf => exact keeps_bind keeps_popLong fun _ => keeps_bind keeps_pop fun _ => keeps_mergeField _ _ _ _
  | wlfs =>
    exact keeps_bind keeps_pop fun _ => keeps_bind keeps_popLong fun _ => keeps_bind keeps_pop fun _ =>
      keeps_mergeField _ _ _ _
  | ws0f => exact keeps_writeSwappedField _ _ _
  | psf | ps0f => exact keeps_bind (keeps_writeSwappedField _ _ _) fun _ => keeps_recoverTop
  | pslf =>
    exact keeps_bind keeps_pop fun _ => keeps_bind keeps_popLong fun _ => keeps_bind (keeps_mergeField _ _ _ _) fun _ =>
      keeps_bind keeps_recoverTop fun _ => keeps_recoverTop
  | neg | inc | dec | dbl | trpl | addsb => exact keeps_unary _
  | dinc | ddbl => exact keeps_unaryLong _
  | and | ior | xor | shift | rotate | add | sub => exact keeps_binary _
  | dand | dior | dxor | dadd | dsub | dmul => exact keeps_binaryLong _
  | dcmp | udcmp => exact keeps_compareLong _
  | recover => exact keeps_recoverTop
  | recover2 => exact keeps_bind keeps_recoverTop fun _ => keeps_recoverTop
  | dis => exact keeps_discard
  | dis2 => exact keeps_bind keeps_discard fun _ => keeps_discard
  | exch =>
    exact keeps_bind keeps_pop fun _ => keeps_bind keeps_pop fun _ => keeps_bind (keeps_push _) fun _ => keeps_push _
  | dexch =>
    exact keeps_bind keeps_popLong fun _ => keeps_bind keeps_popLong fun _ => keeps_bind (keeps_pushLong _) fun _ =>
      keeps_pushLong _
  | dup | lint => exact keeps_bind keeps_pop fun _ => keeps_bind (keeps_push _) fun _ => keeps_push _
  | ddup => exact keeps_bind keeps_popLong fun _ => keeps_bind (keeps_pushLong _) fun _ => keeps_pushLong _
  | exdis => exact keeps_bind keeps_pop fun _ => keeps_bind keeps_pop fun _ => keeps_push _
  | bndck =>
    exact keeps_bind keeps_pop fun _ => keeps_bind keeps_pop fun _ => keeps_bind (keeps_push _) fun _ => keeps_raiseIf _
  | bndckl =>
    exact keeps_bind keeps_popLong fun _ => keeps_bind keeps_popLong fun _ => keeps_bind (keeps_pushLong _) fun _ =>
      keeps_raiseIf _
  | nilckl => exact keeps_bind keeps_popLong fun _ => keeps_bind (keeps_pushLong _) fun _ => keeps_raiseIf _
  | shiftsb => exact keeps_bind keeps_pop fun _ => keeps_ite (keeps_push _) (keeps_refuse _ _)
  | dshift | acd => exact keeps_bind keeps_pop fun _ => keeps_bind keeps_popLong fun _ => keeps_pushLong _
  | adc => exact keeps_bind keeps_popLong fun _ => keeps_bind keeps_pop fun _ => keeps_pushLong _
  | mul =>
    exact keeps_bind keeps_pop fun _ => keeps_bind keeps_pop fun _ => keeps_bind (keeps_pushLong _) fun _ =>
      keeps_discard
  | sdiv | udiv =>
    exact keeps_bind keeps_pop fun _ => keeps_bind keeps_pop fun _ => keeps_guard _ (keeps_pushDivision _ _)
  | ludiv =>
    exact keeps_bind keeps_pop fun _ => keeps_bind keeps_popLong fun _ =>
      keeps_guard _ (keeps_guard _ (keeps_pushDivision _ _))
  | sddiv | uddiv =>
    exact keeps_bind keeps_popLong fun _ => keeps_bind keeps_popLong fun _ => keeps_guard _ (keeps_pushLongDivision _ _)
  | catchByte => exact keeps_pure _ _
  | jb | jw | j2 | j3 | j4 | j5 | j6 | j7 | j8 => exact keeps_jumpBy _
  | js => exact keeps_bind keeps_pop fun _ => keeps_set
  | jep | jebb | jnep | jnebb | jzb | jnzb | jz3 | jz4 | jnz3 | jnz4 => exact keeps_jumpOnTop _ _ _
  | jeb | jneb | jlb | jgeb | jgb | jleb | julb | jugeb | jugb | juleb => exact keeps_jumpOnPair _ _
  | jdeb | jdneb => exact keeps_jumpOnLongPair _ _
  | jib | jiw =>
    exact keeps_bind keeps_pop fun _ => keeps_bind keeps_pop fun _ =>
      keeps_ite (keeps_bind (keeps_readCode _) fun _ => keeps_jumpBy _) (keeps_pure _ _)
  | blt => exact keeps_blockLoop _ keeps_stepBlt
  | bltl => exact keeps_blockLoop _ keeps_stepBltl
  | bltlr => exact keeps_blockLoop _ keeps_stepBltlr
  | bltc => exact keeps_blockLoop _ keeps_stepBltc
  | bltcl => exact keeps_blockLoop _ keeps_stepBltcl
  | cksum => exact keeps_blockLoop _ keeps_stepCksum
  | blel => exact keeps_blockLoop _ keeps_stepBlel
  | blecl => exact keeps_blockLoop _ keeps_stepBlecl
  | bytblt | bytbltr => exact keeps_blockLoop _ (keeps_stepBytes _)
  | bitblt => exact keeps_doBitblt
  | txtblt => exact keeps_doTxtblt
  | efcb | efc0 | efc1 | efc2 | efc3 | efc4 | efc5 | efc6 | efc7 | efc8 | efc9 | efc10 | efc11 | efc12 =>
    exact keeps_externalCall _
  | lfc => exact keeps_doLfc _
  | sfc => exact keeps_bind keeps_popLong fun _ => keeps_call _
  | kfcb => exact keeps_bind (keeps_readDblMds _) fun _ => keeps_call _
  | lkb =>
    exact keeps_bind keeps_recoverTop fun _ => keeps_bind keeps_pop fun _ => keeps_bind (keeps_getState _) fun _ =>
      keeps_memWriteMds _ _
  | ret =>
    exact keeps_bind (keeps_getState _) fun _ => keeps_bind (keeps_memReadMds _) fun _ => keeps_xfer _ _ _ _
  | po | por => exact keeps_portOut
  | pi => exact keeps_doPi
  | llkb => exact keeps_bind (keeps_fetchLink _) fun _ => keeps_pushLong _
  | rkib => exact keeps_bind (keeps_fetchLink _) fun _ => keeps_bind (keeps_memRead _) fun _ => keeps_push _
  | rkdib =>
    exact keeps_bind (keeps_fetchLink _) fun _ => keeps_bind (keeps_memRead _) fun _ => keeps_bind (keeps_push _) fun _ =>
      keeps_bind (keeps_memRead _) fun _ => keeps_push _
  | af => exact keeps_bind keeps_pop fun _ => keeps_bind (keeps_alloc _) fun _ => keeps_push _
  | ff => exact keeps_bind keeps_pop fun _ => keeps_freeFrame _
  | dsk => exact keeps_bind (keeps_getState _) fun _ => keeps_saveStack _
  | lsk => exact keeps_bind (keeps_getState _) fun _ => keeps_loadStack _
  | xf =>
    exact keeps_bind (keeps_getState _) fun _ => keeps_bind (keeps_readDblMds _) fun _ =>
      keeps_bind (keeps_memReadMds _) fun _ => keeps_xfer _ _ _ _
  | xe => exact keeps_doXe _
  | me =>
    exact keeps_bind keeps_popLong fun _ => keeps_bind keeps_minimalStack fun _ => keeps_bind (keeps_memRead _) fun _ =>
      keeps_ite (keeps_enterFailed _) (keeps_lockMonitor _ _)
  | mx =>
    exact keeps_bind keeps_popLong fun _ => keeps_bind keeps_minimalStack fun _ =>
      keeps_bind (keeps_exitMonitor _) fun _ => keeps_rescheduleIf _
  | mw => exact keeps_doMw
  | mr =>
    exact keeps_bind keeps_popLong fun _ => keeps_bind keeps_popLong fun _ => keeps_bind keeps_minimalStack fun _ =>
      keeps_bind (keeps_memRead _) fun _ => keeps_ite (keeps_enterFailed _) (keeps_reenter _ _ _)
  | nc =>
    exact keeps_bind keeps_popLong fun _ => keeps_bind keeps_minimalStack fun _ =>
      keeps_bind (keeps_cleanupCondition _) fun _ => keeps_bind (keeps_memRead _) fun _ =>
      keeps_ite (keeps_pure _ _) (keeps_bind (keeps_wakeHead _) fun _ => keeps_reschedule _)
  | bc =>
    exact keeps_bind keeps_popLong fun _ => keeps_bind keeps_minimalStack fun _ =>
      keeps_bind (keeps_cleanupCondition _) fun _ => keeps_bind (keeps_wakeAll _ _ _) fun _ => keeps_rescheduleIf _
  | req =>
    exact keeps_bind keeps_pop fun _ => keeps_bind keeps_popLong fun _ => keeps_bind keeps_popLong fun _ =>
      keeps_bind keeps_minimalStack fun _ => keeps_bind (keeps_requeue _ _ _) fun _ => keeps_reschedule _
  | spp =>
    exact keeps_bind keeps_pop fun _ => keeps_bind keeps_minimalStack fun _ => keeps_bind (keeps_getState _) fun _ =>
      keeps_bind (keeps_memRead _) fun _ => keeps_bind (keeps_memWrite _ _) fun _ =>
      keeps_bind (keeps_requeue _ _ _) fun _ => keeps_reschedule _
  | di | ei => exact keeps_bind (keeps_getState _) fun _ => keeps_guard _ keeps_set
  | sm =>
    exact keeps_bind keeps_afterDevices fun _ => keeps_bind keeps_pop fun _ => keeps_bind keeps_popLong fun _ =>
      keeps_bind keeps_popLong fun _ => keeps_setEntry _ _ _
  | gmf =>
    exact keeps_bind keeps_afterDevices fun _ => keeps_bind keeps_popLong fun _ => keeps_bind (keeps_getState _) fun _ =>
      keeps_pushEntry _
  | smf => exact keeps_doSmf
  | lp => exact keeps_bind keeps_pop fun _ => keeps_bind (keeps_getState _) fun _ => keeps_pushLong _
  | rob =>
    exact keeps_bind keeps_pop fun _ =>
      keeps_ite (keeps_bind (keeps_memReadMds _) fun _ => keeps_push _) (keeps_refuse _ _)
  | wob => exact keeps_bind keeps_pop fun _ => keeps_ite (keeps_memWritePopMds _) (keeps_refuse _ _)
  | wrpsb | wrmds | wrwp | wrwdc | wrxts | wrmp => exact keeps_bind keeps_pop fun _ => keeps_set
  | writ => exact keeps_bind keeps_popLong fun _ => keeps_set
  | wrptc => exact keeps_bind keeps_pop fun _ => keeps_bind keeps_sampleTimer fun _ => keeps_set
  | rrpsb | rrmds | rrwdc | rrptc | rrxts => exact keeps_bind (keeps_getState _) fun _ => keeps_push _
  | rrwp => exact keeps_bind keeps_sampleWakeups fun _ => keeps_push _
  | rrit => exact keeps_bind keeps_sampleTimer fun _ => keeps_pushLong _
  | brk => exact keeps_refuse _ _
  | esc | escl | nilck | version | fadd | fsub | fmul | fdiv | fcomp | fix | float | fixi | fixc | fsticky | frem | round
  | roundi | roundc | fsqrt | fsc | reclaimref | altercount | resetstkbits | gcsetup | a144 | enumeratereclaimable | a146
  | createref | a150 | reftype | canonicalreftype | allocquantized | allocheap | freeobject | freequantized | freeprefixed
  | input | output | loadramj | bandblt => exact keeps_raise _ _

theorem keeps_dispatchDecoded (d : Decoded) : Keeps State.Inv (dispatchDecoded d) := by
  cases d with
  | instr i _ => exact keeps_dispatch i
  | unassigned _ => exact keeps_raise _ _
  | reserved _ => exact keeps_refuse _ _
  | short => exact keeps_pure _ _

theorem keeps_doBrk : Keeps State.Inv doBrk :=
  keeps_bind (keeps_getState _) fun _ => keeps_ite (keeps_raise _ _) <|
    keeps_bind (keeps_fetchMore _ _) fun _ => keeps_bind (keeps_dispatchDecoded _) fun _ => keeps_set

/-- Every instruction but `BRK` runs the routine that `BRK` would run for it (30_encoding.md R171). -/
theorem exec_eq_run_dispatch {i : Instr} (h : i ≠ .brk) (s : State) : exec i s = run (dispatch i) s := by
  cases i with
  | brk => exact absurd rfl h
  | _ => rfl

/-! ### Exceptions -/

theorem keeps_takeTrap (a : Abort) : Keeps State.Inv (takeTrap a) := by
  cases a with
  | trapZero entry => exact keeps_trap _
  | trapOne entry p => exact keeps_bind (keeps_trap _) fun _ => keeps_storeParameter _ _
  | trapTwo entry p =>
    exact keeps_bind (keeps_trap _) fun _ => keeps_bind (keeps_storeParameter _ _) fun _ => keeps_storeParameter _ _
  | xferTrap dst type =>
    exact keeps_bind (keeps_noAbort _ (keeps_trap _)) fun _ => keeps_bind (keeps_storeParameter _ _) fun _ =>
      keeps_bind (keeps_storeParameter _ _) fun _ => keeps_storeParameter _ _
  | faultOne | faultTwo | stuck | refuse => exact keeps_raise _ _

theorem keeps_switchFromFault (fi : FaultIndex) : Keeps State.Inv (switchFromFault fi) :=
  keeps_bind (keeps_getState _) fun _ =>
    keeps_bind (keeps_noAbort _ <| keeps_bind (keeps_requeue _ _ _) fun _ => keeps_bind (keeps_notifyWakeup _) fun _ =>
      keeps_pure _ _) fun _ =>
    keeps_bind keeps_set fun _ => keeps_bind (keeps_reschedule _) fun _ => keeps_pure _ _

theorem keeps_takeFault (a : Abort) : Keeps State.Inv (takeFault a) := by
  cases a with
  | faultOne fi p =>
    exact keeps_bind (keeps_switchFromFault _) fun _ => keeps_bind (keeps_faultState _) fun _ =>
      keeps_storeFaultParameter _ _ _
  | faultTwo fi p =>
    exact keeps_bind (keeps_switchFromFault _) fun _ => keeps_bind (keeps_faultState _) fun _ =>
      keeps_bind (keeps_storeFaultParameter _ _ _) fun _ => keeps_storeFaultParameter _ _ _
  | trapZero | trapOne | trapTwo | xferTrap | stuck | refuse => exact keeps_raise _ _

theorem keeps_settleTraps {P : State → Prop} (hP : ∀ a, Keeps P (takeTrap a)) (n : Nat) (a : Abort) :
    Keeps P (settleTraps n a) := by
  induction n generalizing a with
  | zero => exact fun _ hs => hs
  | succ n ih =>
    intro s hs
    unfold settleTraps
    split_ifs
    · have ht := hP a s hs
      revert ht
      cases takeTrap a s with
      | ok _ t => exact id
      | error b t => exact ih b t
    · exact hs

/-- An answer that goes on, goes on to a state with the property. -/
def Answer.Holds (P : State → Prop) (answer : Answer) : Prop := ∀ t, answer = .next t → P t

theorem settle_holds {P : State → Prop} (ht : ∀ a, Keeps P (takeTrap a)) (hf : ∀ a, Keeps P (takeFault a)) (n : Nat)
    (a : Abort) {s : State} (hs : P s) : Answer.Holds P (settle n a s) := by
  induction n generalizing a s with
  | zero => exact fun _ h => nomatch h
  | succ n ih =>
    have htraps := keeps_settleTraps ht 8 a s hs
    unfold settle
    revert htraps
    cases settleTraps 8 a s with
    | ok _ u => rintro hu t ⟨rfl⟩; exact hu
    | error b u =>
      intro hu
      have hfault := hf b u hu
      have hrest : Answer.Holds P (match takeFault b u with
          | .ok _ v => .next v
          | .error c v => settle n c v) := by
        revert hfault
        cases takeFault b u with
        | ok _ v => rintro hv t ⟨rfl⟩; exact hv
        | error c v => exact fun hv => ih c hv
      cases b with
      | stuck f => exact fun _ h => nomatch h
      | refuse r => exact fun _ h => nomatch h
      | _ => exact hrest

theorem deliver_keeps_inv (a : Abort) {s : State} (hs : s.Inv) : Answer.Holds State.Inv (deliver a s) :=
  settle_holds keeps_takeTrap keeps_takeFault 1025 a hs

/-- An instruction's routine that keeps the invariant makes an instruction that does. -/
theorem run_keeps_inv {m : M Unit} (hm : Keeps State.Inv m) {s : State} (hs : s.Inv) :
    Answer.Holds State.Inv (run m s) := by
  have h := hm s hs
  unfold run
  revert h
  cases m s with
  | ok _ t => rintro ht _ ⟨rfl⟩; exact ht
  | error a t => exact deliver_keeps_inv a

theorem exec_keeps_inv (i : Instr) {s : State} (hs : s.Inv) : Answer.Holds State.Inv (exec i s) := by
  by_cases hi : i = .brk
  · subst hi
    exact run_keeps_inv keeps_doBrk hs
  · rw [exec_eq_run_dispatch hi]
    exact run_keeps_inv (keeps_dispatch i) hs

/-! ### The main loop -/

theorem keeps_notifyLevels (n : Nat) (wakeups : Word) (woken : Bool) : Keeps State.Inv (notifyLevels n wakeups woken) := by
  induction n generalizing woken with
  | zero => exact keeps_pure _ _
  | succ n ih => exact keeps_ite (keeps_bind (keeps_notifyWakeup _) fun _ => ih _) (ih _)

theorem keeps_checkForInterrupts : Keeps State.Inv checkForInterrupts :=
  keeps_bind keeps_interruptPending fun _ => keeps_ite
    (keeps_bind (keeps_getState _) fun _ => keeps_bind keeps_set fun _ => keeps_notifyLevels _ _ _) (keeps_pure _ _)

theorem keeps_timeoutScan (n psb : Nat) (woken : Bool) : Keeps State.Inv (timeoutScan n psb woken) := by
  induction n generalizing psb woken with
  | zero => exact keeps_pure _ _
  | succ n ih =>
    exact keeps_bind (keeps_memRead _) fun _ => keeps_bind (keeps_getState _) fun _ => keeps_ite
      (keeps_bind (keeps_memRead _) fun _ => keeps_bind (keeps_memWrite _ _) fun _ =>
        keeps_bind (keeps_memWrite _ _) fun _ => keeps_bind (keeps_requeue _ _ _) fun _ => ih _ _)
      (ih _ _)

theorem keeps_checkForTimeouts : Keeps State.Inv checkForTimeouts :=
  keeps_bind (keeps_getState _) fun _ => keeps_ite
    (keeps_bind keeps_sampleTimer fun _ => keeps_ite
      (keeps_bind keeps_set fun _ => keeps_bind (keeps_memRead _) fun _ => keeps_guard _ (keeps_timeoutScan _ _ _))
      (keeps_pure _ _))
    (keeps_pure _ _)

theorem keeps_checkEvents : Keeps State.Inv checkEvents :=
  keeps_bind keeps_checkForInterrupts fun _ => keeps_bind keeps_checkForTimeouts fun _ => keeps_pure _ _

theorem keeps_beginExecute : Keeps State.Inv beginExecute := keeps_bind keeps_set fun _ => keeps_fetchMore _ _

theorem keeps_bootTransfer : Keeps State.Inv bootTransfer :=
  keeps_bind (keeps_noAbort _ (keeps_xfer _ _ _ _)) fun _ => keeps_set

theorem executeDecoded_keeps_inv (d : Decoded) {s : State} (hs : s.Inv) :
    Answer.Holds State.Inv (executeDecoded d s) := by
  cases d with
  | instr i _ => exact exec_keeps_inv i hs
  | unassigned op => exact deliver_keeps_inv _ hs
  | reserved op => exact fun _ h => nomatch h
  | short => rintro _ ⟨rfl⟩; exact hs

theorem execute_keeps_inv {s : State} (hs : s.Inv) : Answer.Holds State.Inv (execute s) := by
  have h := keeps_beginExecute s hs
  unfold execute
  revert h
  cases beginExecute s with
  | ok d t => exact executeDecoded_keeps_inv d
  | error a t => exact deliver_keeps_inv a

theorem iterate_keeps_inv {s : State} (hs : s.Inv) : Answer.Holds State.Inv (iterate s) := by
  have h := keeps_checkEvents s hs
  unfold iterate
  revert h
  cases checkEvents s with
  | error a t => exact deliver_keeps_inv a
  | ok event t =>
    intro ht
    dsimp only
    split_ifs
    · exact run_keeps_inv (keeps_reschedule _) ht
    · exact execute_keeps_inv ht
    · rintro _ ⟨rfl⟩; exact ht

theorem processorStep_keeps_inv {s : State} (hs : s.Inv) : Answer.Holds State.Inv (processorStep s) := by
  unfold processorStep
  split_ifs
  · exact iterate_keeps_inv hs
  · exact run_keeps_inv keeps_bootTransfer hs

/-- Settles O7. The devices' turn keeps the invariant, and so does every routine the processor can then run, whether it
ends or is aborted; taking the abort's trap or fault runs routines of the same kind. -/
theorem stepKeepsInvariant : Obligations.StepKeepsInvariant := fun _ t hs ht =>
  processorStep_keeps_inv (inv_afterDevices hs) t ht

end Sys2Proof.Machine

namespace Sys2Proof.Machine

-- As in the tests: many kernel checks at once need more threads than a compile of the whole text may have.
set_option Elab.async false

/-- Settles O9: the table of 10_state.md R80 read off `State.reset`. -/
theorem resetValues : Obligations.ResetValues := by
  unfold Obligations.ResetValues State.reset
  and_intros <;> rfl

/-! ### The unconditional jumps -/

theorem run_jumpBy (displacement : Word) (s : State) : run (jumpBy displacement) s = .next (s.jumped displacement) := rfl

theorem run_doJs {s : State} (h : 1 ≤ s.sp.val) : run doJs s = .next { s.dropped 1 with pc := s.top 0 } := by
  refine run_ok ?_
  unfold doJs
  rw [bind_ok (pop_run h)]
  rfl

/-- Settles O33. -/
theorem unconditionalJumps : Obligations.UnconditionalJumps := by
  intro alpha word s
  refine ⟨?_, run_doJs, fun h => run_error (bind_error (pop_empty h)), rfl⟩
  simp only [List.forall_mem_cons, List.not_mem_nil, false_imp_iff, implies_true, and_true]
  and_intros <;> exact run_jumpBy _ s

/-! ### Stack errors: how many words an instruction pops before anything else -/

/-- The routine pops at least `n` words before it does anything else: on fewer it raises `StackError` at the first pop that
finds none (decision D5, log entry 18). -/
def PopsFirst {α : Type} (n : Nat) (m : M α) : Prop :=
  ∀ s : State, s.sp.val < n → m s = .error stackError (s.dropped s.sp.val)

theorem popsFirst_zero {α : Type} (m : M α) : PopsFirst 0 m := fun _ h => absurd h (Nat.not_lt_zero _)

theorem popsFirst_pop {α : Type} {n : Nat} {f : Word → M α} (h : ∀ v, PopsFirst n (f v)) :
    PopsFirst (n + 1) (pop >>= f) := by
  intro s hs
  rcases pop_cases s with ⟨hpos, hpop⟩ | ⟨hzero, hpop⟩
  · rw [bind_ok hpop, h _ (s.dropped 1) (by rw [State.dropped_sp_val]; omega), State.dropped_dropped,
      State.dropped_sp_val, Nat.add_sub_cancel' hpos]
  · rw [bind_error hpop, hzero]
    rfl

theorem popsFirst_popLong {α : Type} {n : Nat} {f : LongWord → M α} (h : ∀ v, PopsFirst n (f v)) :
    PopsFirst (n + 2) (popLong >>= f) := by
  unfold popLong
  rw [bind_assoc]
  refine popsFirst_pop fun high => ?_
  rw [bind_assoc]
  exact popsFirst_pop fun low => h _

/-- A word discarded is a word popped (10_state.md R60). -/
theorem discard_eq_pop : discard = pop >>= fun _ => pure () := by
  funext s
  rw [bind_run]
  unfold discard pop
  split_ifs <;> rfl

theorem popsFirst_discard : PopsFirst 1 discard := by
  rw [discard_eq_pop]
  exact popsFirst_pop fun _ => popsFirst_zero _

theorem popsFirst_unary (f : Word → Word) : PopsFirst 1 (unary f) := popsFirst_pop fun _ => popsFirst_zero _

theorem popsFirst_unaryLong (f : LongWord → LongWord) : PopsFirst 2 (unaryLong f) :=
  popsFirst_popLong fun _ => popsFirst_zero _

theorem popsFirst_binary (f : Word → Word → Word) : PopsFirst 2 (binary f) :=
  popsFirst_pop fun _ => popsFirst_pop fun _ => popsFirst_zero _

theorem popsFirst_binaryLong (f : LongWord → LongWord → LongWord) : PopsFirst 4 (binaryLong f) :=
  popsFirst_popLong fun _ => popsFirst_popLong fun _ => popsFirst_zero _

theorem popsFirst_compareLong (f : LongWord → LongWord → Word) : PopsFirst 4 (compareLong f) :=
  popsFirst_popLong fun _ => popsFirst_popLong fun _ => popsFirst_zero _

/-- How many words a stack instruction pops before anything else; 0 for every other instruction, of which nothing is said
(41_stack_instructions.md R240). -/
def popsOf (i : Instr) : Nat :=
  match i with
  | .dis | .dup | .neg | .inc | .dec | .dbl | .trpl | .lint | .addsb _ | .shiftsb _ => 1
  | .dis2 | .exch | .ddup | .exdis | .bndck | .nilckl | .dinc | .ddbl | .and | .ior | .xor | .shift | .rotate | .add | .sub
  | .mul | .sdiv | .udiv => 2
  | .dshift | .adc | .acd | .ludiv => 3
  | .dexch | .bndckl | .dand | .dior | .dxor | .dadd | .dsub | .dmul | .sddiv | .uddiv | .dcmp | .udcmp => 4
  | _ => 0

theorem popsFirst_dispatch (i : Instr) : PopsFirst (popsOf i) (dispatch i) := by
  cases i with
  | dis => exact popsFirst_discard
  | dis2 =>
    show PopsFirst 2 (discard >>= fun _ => discard)
    rw [discard_eq_pop, bind_assoc]
    exact popsFirst_pop fun _ => popsFirst_pop fun _ => popsFirst_zero _
  | neg | inc | dec | dbl | trpl | addsb => exact popsFirst_unary _
  | dinc | ddbl => exact popsFirst_unaryLong _
  | and | ior | xor | shift | rotate | add | sub => exact popsFirst_binary _
  | dand | dior | dxor | dadd | dsub | dmul => exact popsFirst_binaryLong _
  | dcmp | udcmp => exact popsFirst_compareLong _
  | dup | lint | shiftsb => exact popsFirst_pop fun _ => popsFirst_zero _
  | exch | exdis | bndck | mul | sdiv | udiv => exact popsFirst_pop fun _ => popsFirst_pop fun _ => popsFirst_zero _
  | ddup | nilckl => exact popsFirst_popLong fun _ => popsFirst_zero _
  | dshift | acd | ludiv => exact popsFirst_pop fun _ => popsFirst_popLong fun _ => popsFirst_zero _
  | adc => exact popsFirst_popLong fun _ => popsFirst_pop fun _ => popsFirst_zero _
  | dexch | bndckl | sddiv | uddiv => exact popsFirst_popLong fun _ => popsFirst_popLong fun _ => popsFirst_zero _
  | _ => exact popsFirst_zero _

/-- A stack instruction on fewer words than it pops. -/
theorem exec_stackError {i : Instr} {s : State} (h : s.sp.val < popsOf i) :
    exec i s = deliver stackError (s.dropped s.sp.val) := by
  have hbrk : i ≠ .brk := by
    rintro rfl
    exact absurd h (Nat.not_lt_zero _)
  rw [exec_eq_run_dispatch hbrk]
  exact run_error (popsFirst_dispatch i s h)

/-- Instructions paired with the number of words they pop. -/
theorem exec_stackError_of_mem {l : List (Instr × Nat)} (hl : ∀ p ∈ l, popsOf p.1 = p.2) (s : State) :
    ∀ p ∈ l, s.sp.val < p.2 → exec p.1 s = deliver stackError (s.dropped s.sp.val) :=
  fun p hp h => exec_stackError (hl p hp ▸ h)

/-- Two words pushed where one fits. -/
theorem pushTwo_full {u v : Word} {s : State} (h : s.sp.val = 13) :
    (push u >>= fun _ => push v) s = .error stackError (s.pushed u) := by
  rw [bind_ok (push_run (by omega)), push_full (by rw [State.pushed_sp_val]; omega)]

/-- Settles O28. -/
theorem stackErrors : Obligations.StackErrors := by
  intro alpha s
  refine ⟨exec_stackError_of_mem ?_ s, fun h => run_error ?_⟩
  · simp only [List.forall_mem_cons, List.not_mem_nil, false_imp_iff, implies_true, and_true]
    and_intros <;> rfl
  · unfold doLint
    rw [bind_ok (pop_run (by omega)), pushTwo_full (by rw [State.dropped_sp_val]; omega)]

/-! ### The stack primitives -/

theorem exec_recover {s : State} (h : s.sp.val < 14) : exec .recover s = .next s.raised := run_ok (recoverTop_run h)

theorem exec_recover_full {s : State} (h : s.sp.val = 14) : exec .recover s = deliver stackError s :=
  run_error (recoverTop_full h)

theorem exec_recover2 {s : State} (h : s.sp.val < 13) : exec .recover2 s = .next s.raised.raised :=
  run_ok ((bind_ok (recoverTop_run (by omega))).trans (recoverTop_run (by rw [State.raised_sp_val]; omega)))

theorem exec_recover2_oneFree {s : State} (h : s.sp.val = 13) : exec .recover2 s = deliver stackError s.raised :=
  run_error ((bind_ok (recoverTop_run (by omega))).trans (recoverTop_full (by rw [State.raised_sp_val]; omega)))

theorem exec_recover2_full {s : State} (h : s.sp.val = 14) : exec .recover2 s = deliver stackError s :=
  run_error (bind_error (recoverTop_full h))

theorem exec_dis {s : State} (h : 1 ≤ s.sp.val) : exec .dis s = .next (s.dropped 1) := run_ok (discard_run h)

theorem exec_dis2 {s : State} (h : 2 ≤ s.sp.val) : exec .dis2 s = .next (s.dropped 2) :=
  run_ok ((bind_ok (discard_run (by omega))).trans (discard_run (by rw [State.dropped_sp_val]; omega)))

/-- Two words popped, the top one first. -/
theorem popTwo_run {α : Type} {f : Word → Word → M α} {s : State} (h : 2 ≤ s.sp.val) :
    (pop >>= fun v => pop >>= fun u => f v u) s = f (s.top 0) (s.top 1) (s.dropped 2) := by
  rw [bind_ok (pop_run (by omega)), bind_ok (pop_run (by rw [State.dropped_sp_val]; omega)), State.dropped_top,
    State.dropped_dropped]

theorem popLong_topLong {s : State} (h : 2 ≤ s.sp.val) : popLong s = .ok (s.topLong 0) (s.dropped 2) := popLong_run h

/-- Two longs popped, the top one first. -/
theorem popTwoLongs_run {α : Type} {f : LongWord → LongWord → M α} {s : State} (h : 4 ≤ s.sp.val) :
    (popLong >>= fun v => popLong >>= fun u => f v u) s = f (s.topLong 0) (s.topLong 2) (s.dropped 4) := by
  rw [bind_ok (popLong_topLong (by omega)), bind_ok (popLong_topLong (by rw [State.dropped_sp_val]; omega)),
    State.dropped_dropped]
  simp only [State.topLong, State.dropped_top]

theorem pushLong_pushedLong {v : LongWord} {s : State} (h : s.sp.val < 13) : pushLong v s = .ok () (s.pushedLong v) :=
  pushLong_run h

theorem pushLong_oneFree {v : LongWord} {s : State} (h : s.sp.val = 13) :
    pushLong v s = .error stackError (s.pushed (lowHalf v)) := pushTwo_full h

theorem pushLong_full {v : LongWord} {s : State} (h : s.sp.val = 14) : pushLong v s = .error stackError s :=
  bind_error (push_full h)

@[simp] theorem State.pushedLong_sp_val (s : State) (v : LongWord) : (s.pushedLong v).sp.val = min (s.sp.val + 2) 14 := by
  simp only [State.pushedLong, State.pushed_sp_val]
  omega

theorem exec_exch {s : State} (h : 2 ≤ s.sp.val) :
    exec .exch s = .next (((s.dropped 2).pushed (s.top 0)).pushed (s.top 1)) := by
  have := s.sp.isLt
  refine run_ok ((popTwo_run h).trans ?_)
  rw [bind_ok (push_run (by rw [State.dropped_sp_val]; omega)),
    push_run (by rw [State.pushed_sp_val, State.dropped_sp_val]; omega)]

theorem exec_exdis {s : State} (h : 2 ≤ s.sp.val) : exec .exdis s = .next ((s.dropped 2).pushed (s.top 0)) := by
  have := s.sp.isLt
  exact run_ok ((popTwo_run h).trans (push_run (by rw [State.dropped_sp_val]; omega)))

theorem exec_dexch {s : State} (h : 4 ≤ s.sp.val) :
    exec .dexch s = .next (((s.dropped 4).pushedLong (s.topLong 0)).pushedLong (s.topLong 2)) := by
  have := s.sp.isLt
  refine run_ok ((popTwoLongs_run h).trans ?_)
  rw [bind_ok (pushLong_pushedLong (by rw [State.dropped_sp_val]; omega)),
    pushLong_pushedLong (by rw [State.pushedLong_sp_val, State.dropped_sp_val]; omega)]

theorem exec_dup {s : State} (h : 1 ≤ s.sp.val) (hfree : s.sp.val < 14) :
    exec .dup s = .next (((s.dropped 1).pushed (s.top 0)).pushed (s.top 0)) := by
  refine run_ok ((bind_ok (pop_run h)).trans ?_)
  rw [bind_ok (push_run (by rw [State.dropped_sp_val]; omega)),
    push_run (by rw [State.pushed_sp_val, State.dropped_sp_val]; omega)]

theorem exec_dup_full {s : State} (h : s.sp.val = 14) :
    exec .dup s = deliver stackError ((s.dropped 1).pushed (s.top 0)) :=
  run_error ((bind_ok (pop_run (by omega))).trans (pushTwo_full (by rw [State.dropped_sp_val]; omega)))

/-- `DDUP` up to its second push: the rest runs on the stack with the long pushed again (41_stack_instructions.md R248). -/
theorem doDdup_run {s : State} (h : 2 ≤ s.sp.val) :
    doDdup s = pushLong (s.topLong 0) ((s.dropped 2).pushedLong (s.topLong 0)) := by
  have := s.sp.isLt
  unfold doDdup
  rw [bind_ok (popLong_topLong h), bind_ok (pushLong_pushedLong (by rw [State.dropped_sp_val]; omega))]

theorem exec_ddup {s : State} (h : 2 ≤ s.sp.val) (hfree : s.sp.val < 13) :
    exec .ddup s = .next (((s.dropped 2).pushedLong (s.topLong 0)).pushedLong (s.topLong 0)) :=
  run_ok ((doDdup_run h).trans
    (pushLong_pushedLong (by rw [State.pushedLong_sp_val, State.dropped_sp_val]; omega)))

theorem exec_ddup_oneFree {s : State} (h : s.sp.val = 13) : exec .ddup s =
    deliver stackError (((s.dropped 2).pushedLong (s.topLong 0)).pushed (lowHalf (s.topLong 0))) :=
  run_error ((doDdup_run (by omega)).trans
    (pushLong_oneFree (by rw [State.pushedLong_sp_val, State.dropped_sp_val]; omega)))

theorem exec_ddup_full {s : State} (h : s.sp.val = 14) :
    exec .ddup s = deliver stackError ((s.dropped 2).pushedLong (s.topLong 0)) :=
  run_error ((doDdup_run (by omega)).trans
    (pushLong_full (by rw [State.pushedLong_sp_val, State.dropped_sp_val]; omega)))

/-- Settles O27. -/
theorem stackPrimitives : Obligations.StackPrimitives := by
  intro s
  refine ⟨⟨exec_recover, exec_recover_full⟩, ⟨exec_recover2, exec_recover2_oneFree, exec_recover2_full⟩, exec_dis,
    exec_dis2, exec_exch, exec_dexch, ⟨exec_dup, exec_dup_full⟩, ⟨exec_ddup, exec_ddup_oneFree, exec_ddup_full⟩, exec_exdis,
    exec_stackError_of_mem ?_ s⟩
  simp only [List.forall_mem_cons, List.not_mem_nil, false_imp_iff, implies_true, and_true]
  and_intros <;> rfl

/-! ### Accesses change flags of the map only -/

/-- The map `m` differs from that of the state in flags that no access looks at: every access has the outcome and the real
address it had. -/
def State.sameAccess (s : State) (m : List (Nat × MapEntry)) : Prop :=
  s.sameTranslation { s with map := m } ∧ State.mapCanonical { s with map := m } = true

theorem State.mark_eq (s : State) (va : LongWord) (op : Access) :
    s.mark va op = { s with map := (s.mark va op).map } := by
  simp only [State.mark, State.writeMap, if_pos (pageOf_lt va)]

theorem State.loaded_eq (s : State) (va : LongWord) : s.loaded va = { s with map := (s.loaded va).map } :=
  s.mark_eq va .read

theorem State.stored_eq (s : State) (va : LongWord) (v : Word) :
    s.stored va v = { s with map := (s.mark va .write).map, mem := writeReal s.mem (s.realAddress va) v } := by
  rw [State.stored, State.mark_eq]

theorem sameAccess_loaded {s : State} {va : LongWord} (hc : s.mapCanonical = true) (h : s.canRead va = true) :
    s.sameAccess (s.loaded va).map :=
  ⟨fun v o => (translate_loaded hc h v o).symm, loaded_canonical hc⟩

theorem sameAccess_trans {s : State} {m m' : List (Nat × MapEntry)} (h : s.sameAccess m)
    (h' : State.sameAccess { s with map := m } m') : s.sameAccess m' :=
  ⟨fun va op => (h.1 va op).trans (h'.1 va op), h'.2⟩

section

variable {s : State} {m : List (Nat × MapEntry)} (h : s.sameAccess m)
include h

theorem canRead_sameAccess (va : LongWord) : State.canRead { s with map := m } va = s.canRead va := by
  unfold State.canRead; rw [h.1 va .read]

theorem canReadLong_sameAccess (va : LongWord) : State.canReadLong { s with map := m } va = s.canReadLong va := by
  unfold State.canReadLong; rw [canRead_sameAccess h, canRead_sameAccess h]

theorem canReadAll_sameAccess (l : List LongWord) : State.canReadAll { s with map := m } l = s.canReadAll l := by
  simp only [State.canReadAll, canRead_sameAccess h]

theorem wordAt_sameAccess (va : LongWord) : State.wordAt { s with map := m } va = s.wordAt va :=
  (wordAt_congr h.1 rfl va).symm

theorem longAt_sameAccess (va : LongWord) : State.longAt { s with map := m } va = s.longAt va := by
  unfold State.longAt; rw [wordAt_sameAccess h, wordAt_sameAccess h]

theorem hasFrame_sameAccess {frame gf pc : Word} {cb : LongWord} (hf : s.hasFrame frame gf cb pc) :
    State.hasFrame { s with map := m } frame gf cb pc := by
  unfold State.hasFrame
  rw [canReadAll_sameAccess h, wordAt_sameAccess h, wordAt_sameAccess h, longAt_sameAccess h]
  exact hf

end

/-- A load: the word, and the map's flags (20_memory.md R110, R117). -/
theorem memReadMds_flags {s : State} {p : Word} (hd : s.devices = []) (hc : s.mapCanonical = true)
    (h : s.canRead (s.lengthen p) = true) :
    ∃ m, memReadMds p s = .ok (s.wordAt (s.lengthen p)) { s with map := m } ∧ s.sameAccess m :=
  ⟨_, (memReadMds_run hd h).trans (congrArg _ (s.loaded_eq _)), sameAccess_loaded hc h⟩

theorem readDblMds_flags {s : State} {p : Word} (hd : s.devices = []) (hc : s.mapCanonical = true)
    (h : s.canReadLong (s.lengthen p) = true) :
    ∃ m, readDblMds p s = .ok (s.longAt (s.lengthen p)) { s with map := m } ∧ s.sameAccess m := by
  have ⟨hlow, hhigh⟩ := Bool.and_eq_true_iff.mp h
  have ⟨m, hm⟩ : ∃ m, m = (s.loaded (s.lengthen p)).map := ⟨_, rfl⟩
  have hload := s.loaded_eq (s.lengthen p)
  have hsame := sameAccess_loaded hc hlow
  rw [← hm] at hload hsame
  refine ⟨_, (readDblMds_run hd hc h).trans (congrArg _ ?_), sameAccess_trans hsame
    (sameAccess_loaded (va := s.lengthen p + 1) hsame.2 (by rwa [canRead_sameAccess hsame]))⟩
  rw [State.loadedLong, hload, State.loaded_eq]

/-! ### A transfer through a frame link -/

/-- A link whose low half is the address of a frame is a frame link (47_control_transfers.md R591). -/
theorem controlLinkType_frame {dst : LongWord} (ht : lowHalf dst &&& 3 = 0) : controlLinkType dst = .frame := by
  have htag : dst.extractLsb' 0 2 = 0#2 := by
    have hnat := congrArg BitVec.toNat ht
    rw [lowHalf, BitVec.toNat_and, BitVec.toNat_setWidth, show (3 : Word).toNat = 2 ^ 2 - 1 from rfl,
      Nat.and_two_pow_sub_one_eq_mod] at hnat
    apply BitVec.eq_of_toNat_eq
    rw [BitVec.extractLsb'_toNat, Nat.shiftRight_zero]
    simp only [BitVec.ofNat_eq_ofNat, BitVec.toNat_ofNat] at hnat ⊢
    omega
  rw [controlLinkType, if_pos htag]

/-- The frame arm of `XFER` for a transfer that is no trap: `GF` and `CB` are loaded, and the map's flags change
(47_control_transfers.md R610). -/
theorem xferFrame_run {s : State} {dst link : LongWord} {src gf pc : Word} {cb : LongWord} {type : XferType}
    (hd : s.devices = []) (hc : s.mapCanonical = true) (hf : s.hasFrame (lowHalf link) gf cb pc) (ht : type ≠ .trap) :
    ∃ m, xferFrame dst link src type s = .ok (lowHalf link, pc) { s with map := m, gf := gf, cb := cb } ∧
      s.sameAccess m := by
  obtain ⟨hframe, -, hgf, hpc, heven, hreads, hgfAt, hcbAt, hpcAt⟩ := hf
  simp only [State.canReadAll, List.all_cons, List.all_nil, Bool.and_true, Bool.and_eq_true] at hreads
  obtain ⟨hrGf, hrLow, hrHigh, hrPc⟩ := hreads
  obtain ⟨m1, hread1, hs1⟩ := memReadMds_flags hd hc hrGf
  rw [hgfAt] at hread1
  obtain ⟨m2, hread2, hs2⟩ := readDblMds_flags (s := { s with map := m1, gf := gf }) (p := gf - 2) hd hs1.2
    ((canReadLong_sameAccess hs1 _).trans (Bool.and_eq_true_iff.mpr ⟨hrLow, hrHigh⟩))
  have hlong := (longAt_sameAccess hs1 (s.lengthen (gf - 2))).trans hcbAt
  have hs12 := sameAccess_trans hs1 hs2
  obtain ⟨m3, hread3, hs3⟩ := memReadMds_flags (s := { s with map := m2, gf := gf, cb := cb }) (p := lowHalf link - 1) hd
    hs12.2 ((canRead_sameAccess hs12 _).trans hrPc)
  have hword := (wordAt_sameAccess hs12 (s.lengthen (lowHalf link - 1))).trans hpcAt
  refine ⟨m3, ?_, sameAccess_trans hs12 hs3⟩
  have hbase : loadCodeBase gf { s with map := m1, gf := gf } = .ok () { s with map := m2, gf := gf, cb := cb } := by
    unfold loadCodeBase
    rw [bind_ok (hread2.trans (congrArg (EStateM.Result.ok · _) hlong)), update_bind, if_neg (by rw [heven]; decide)]
    rfl
  unfold xferFrame
  dsimp only
  rw [if_neg hframe, bind_ok hread1, update_bind, if_neg hgf, bind_ok hbase,
    bind_ok (hread3.trans (congrArg (EStateM.Result.ok · _) hword)), if_neg hpc, if_neg ht]
  rfl

/-- `XFER` to a frame, for a transfer that is no trap and frees nothing, where no xfer trap is due
(47_control_transfers.md R610, 60_exceptions.md R790). -/
theorem xfer_frame_run {s : State} {dst : LongWord} {src gf pc : Word} {cb : LongWord} {type : XferType}
    (hd : s.devices = []) (hc : s.mapCanonical = true) (hx : s.xts.getLsbD 0 = false)
    (hf : s.hasFrame (lowHalf dst) gf cb pc) (ht : type ≠ .trap) :
    ∃ m, xfer dst src type false s =
        .ok () { s with map := m, lf := lowHalf dst, gf := gf, cb := cb, pc := pc, xts := s.xts >>> 1 } ∧
      s.sameAccess m := by
  have hlink : controlLinkType dst = .frame := controlLinkType_frame hf.2.1
  obtain ⟨m, hrun, hm⟩ := xferFrame_run (dst := dst) (src := src) hd hc hf ht
  refine ⟨m, ?_, hm⟩
  unfold xfer
  rw [bind_ok (resolveLink_direct (by rw [hlink]; decide))]
  dsimp only
  rw [if_neg (by rw [hlink]; decide), bind_ok hrun]
  exact checkForXferTraps_off hx

/-! ### Ports -/

theorem stored_dropped (s : State) (n : Nat) (va : LongWord) (v : Word) :
    (s.dropped n).stored va v = (s.stored va v).dropped n := by
  simp only [State.stored, State.mark, State.writeMap, if_pos (pageOf_lt va)]
  rfl

theorem realAddress_stored {s : State} {va : LongWord} {v : Word} (hc : s.mapCanonical = true)
    (h : s.canWrite va = true) (va' : LongWord) : (s.stored va v).realAddress va' = s.realAddress va' := by
  unfold State.realAddress
  rw [translate_stored hc h]

/-- Two words stored, one after the other, where both stores go through at the start (20_memory.md R110). -/
theorem memoryAfter_storedTwo {s : State} {va va' : LongWord} {v v' : Word} (hc : s.mapCanonical = true)
    (h : s.canWrite va = true) (h' : s.canWrite va' = true) :
    s.memoryAfter ((s.stored va v).stored va' v') [(va, v), (va', v')] := by
  have hw : (s.stored va v).canWrite va' = true := (canWrite_stored hc h va').trans h'
  refine ⟨fun a op => ?_, ?_⟩
  · rw [translate_stored (stored_canonical hc) hw, translate_stored hc h]
  · simp only [State.stored_mem, realAddress_stored hc h]
    rfl

/-- `PO` and `POR` through an outport that holds a frame link (47_control_transfers.md R625 to R627). -/
theorem portOut_run {s s1 : State} {gf pc port : Word} {cb dst : LongWord} (hd : s.devices = [])
    (hc : s.mapCanonical = true) (hx : s.xts.getLsbD 0 = false) (hsp : 2 ≤ s.sp.val) (hport : port = s.top 1)
    (hw : s.canWriteAll [s.lengthen (s.lf - 1), s.lengthen port] = true)
    (hs1 : s1 = (s.stored (s.lengthen (s.lf - 1)) s.pc).stored (s.lengthen port) s.lf)
    (hr : s.canReadAll [s.lengthen (port + 2), s.lengthen (port + 2) + 1] = true)
    (hdst : s1.longAt (s.lengthen (port + 2)) = dst) (hf : s1.hasFrame (lowHalf dst) gf cb pc) :
    ∃ m, portOut s = .ok () { s1.dropped 2 with
        map := m, lf := lowHalf dst, gf := gf, cb := cb, pc := pc, xts := s.xts >>> 1 } ∧ s1.sameAccess m := by
  simp only [State.canWriteAll, State.canReadAll, List.all_cons, List.all_nil, Bool.and_true, Bool.and_eq_true] at hw hr
  obtain ⟨hwLocal, hwPort⟩ := hw
  obtain ⟨hrLow, hrHigh⟩ := hr
  have hc' := stored_canonical (va := s.lengthen (s.lf - 1)) (v := s.pc) hc
  have hwPort' := (canWrite_stored (v := s.pc) hc hwLocal (s.lengthen port)).trans hwPort
  have hread : ∀ va, s1.canRead va = s.canRead va := fun va => by
    rw [hs1, canRead_stored hc' hwPort', canRead_stored hc hwLocal]
  have hlen : (s1.dropped 2).lengthen (port + 2) = s.lengthen (port + 2) := by simp [hs1]
  have hd1 : (s1.dropped 2).devices = [] := by simpa [hs1] using hd
  have hc1 : s1.mapCanonical = true := hs1 ▸ stored_canonical hc'
  have hx1 : s1.xts = s.xts := by simp [hs1]
  obtain ⟨m, hload, hm⟩ := readDblMds_flags (s := s1.dropped 2) (p := port + 2) hd1 hc1 (by
    rw [hlen]
    exact Bool.and_eq_true_iff.mpr ⟨(hread _).trans hrLow, (hread _).trans hrHigh⟩)
  rw [hlen] at hload
  obtain ⟨m', hxfer, hm'⟩ := xfer_frame_run (s := { s1.dropped 2 with map := m }) (dst := dst) (src := port) (type := .port)
    hd1 hm.2 (by rw [State.dropped_xts, hx1]; exact hx) (hasFrame_sameAccess (s := s1) hm hf) (by decide)
  refine ⟨m', ?_, sameAccess_trans (s := s1) hm hm'⟩
  have hsave : memWriteMds (s.lf - 1) s.pc (s.dropped 2) =
      .ok () ((s.stored (s.lengthen (s.lf - 1)) s.pc).dropped 2) :=
    (memWriteMds_run (s := s.dropped 2) _ hd hwLocal).trans (congrArg _ (stored_dropped _ _ _ _))
  have hleave : memWriteMds port s.lf ((s.stored (s.lengthen (s.lf - 1)) s.pc).dropped 2) = .ok () (s1.dropped 2) := by
    rw [memWriteMds_run _ (by simpa using hd) (by simpa using hwPort'), stored_dropped, hs1, State.lengthen_dropped,
      State.stored_lengthen]
  unfold portOut
  rw [popTwo_run hsp, ← hport, getState_bind]
  simp only [State.dropped_lf, State.dropped_pc]
  rw [bind_ok hsave, bind_ok hleave, bind_ok hload]
  show xfer (s1.longAt (s.lengthen (port + 2))) port .port false { s1.dropped 2 with map := m } = _
  rw [hdst, hxfer, State.dropped_xts, hx1]

/-- `SP` raised over a word and lowered again (10_state.md R54, R59). -/
theorem State.dropped_raised {s : State} (h : s.sp.val < 14) : s.raised.dropped 1 = s := by
  have hsp : (⟨min (s.sp.val + 1) 14 - 1, by omega⟩ : Fin 15) = s.sp := Fin.ext (by dsimp only; omega)
  simp only [State.raised, State.dropped, hsp]

/-- The word that `Recover` exposes is the one the slot holds (10_state.md R59, R61). -/
theorem State.raised_top {s : State} (h : s.sp.val < 14) : s.raised.top 0 = s.slot s.sp.val := by
  rw [State.top, State.raised_slot, State.raised_sp_val]
  congr 1
  omega

/-- A word exposed and popped: nothing has changed (10_state.md R54, R59, R61). -/
theorem recoverTop_pop {α : Type} {f : Word → M α} {s : State} (h : s.sp.val < 14) :
    (recoverTop >>= fun _ => pop >>= f) s = f (s.slot s.sp.val) s := by
  rw [bind_ok (recoverTop_run h), bind_ok (pop_run (by rw [State.raised_sp_val]; omega)), State.raised_top h,
    State.dropped_raised h]

/-- `PI` with the source and the port in the two slots above the stack (47_control_transfers.md R628, 10_state.md R61). -/
theorem doPi_run {s : State} {port src : Word} (h : s.sp.val < 13) (hport : port = s.slot s.sp.val)
    (hsrc : src = s.slot (s.sp.val + 1)) :
    doPi s = (memWriteMds port 0 >>= fun _ => if src ≠ 0 then memWriteMds (port + 2) src else pure ()) s := by
  have hsp : s.raised.sp.val = s.sp.val + 1 := by rw [State.raised_sp_val]; omega
  unfold doPi
  rw [bind_ok (recoverTop_run (by omega)), recoverTop_pop (by omega), State.raised_slot, hsp, ← hsrc,
    bind_ok (pop_run (by omega)), State.raised_top (by omega), State.dropped_raised (by omega), ← hport]

/-- A state that differs in the map's flags only has memory after the same stores. -/
theorem memoryAfter_sameAccess {s s1 t : State} {stores : List (LongWord × Word)} (h : s.memoryAfter s1 stores)
    (hm : s1.sameAccess t.map) (hmem : t.mem = s1.mem) : s.memoryAfter t stores :=
  ⟨fun va op => (h.1 va op).trans (hm.1 va op), hmem.trans h.2⟩

/-- What `PO` and `POR` leave is a transfer, with the two words stored (47_control_transfers.md R610, R626, R627). -/
theorem exec_portOut {s s1 : State} {gf pc port : Word} {cb dst : LongWord} {i : Instr} (hi : i ∈ ([.po, .por] : List Instr))
    (hd : s.devices = []) (hc : s.mapCanonical = true) (hx : s.xts.getLsbD 0 = false) (hsp : 2 ≤ s.sp.val)
    (hport : port = s.top 1) (hw : s.canWriteAll [s.lengthen (s.lf - 1), s.lengthen port] = true)
    (hs1 : s1 = (s.stored (s.lengthen (s.lf - 1)) s.pc).stored (s.lengthen port) s.lf)
    (hr : s.canReadAll [s.lengthen (port + 2), s.lengthen (port + 2) + 1] = true)
    (hdst : s1.longAt (s.lengthen (port + 2)) = dst) (hf : s1.hasFrame (lowHalf dst) gf cb pc) :
    ∃ t, exec i s = .next t ∧ t.sp.val = s.sp.val - 2 ∧ t.wdc = s.wdc
      ∧ s.transferred t (lowHalf dst) gf pc cb [(s.lengthen (s.lf - 1), s.pc), (s.lengthen port, s.lf)] := by
  have hexec : exec i s = run portOut s := by
    rcases List.mem_pair.mp hi with rfl | rfl <;> rfl
  obtain ⟨m, hrun, hm⟩ := portOut_run hd hc hx hsp hport hw hs1 hr hdst hf
  have hstores : s.memoryAfter s1 [(s.lengthen (s.lf - 1), s.pc), (s.lengthen port, s.lf)] := by
    simp only [State.canWriteAll, List.all_cons, List.all_nil, Bool.and_true, Bool.and_eq_true] at hw
    exact hs1 ▸ memoryAfter_storedTwo hc hw.1 hw.2
  refine ⟨_, hexec.trans (run_ok hrun), ?_, ?_, rfl, rfl, rfl, rfl, ?_, rfl, ?_, memoryAfter_sameAccess hstores hm rfl⟩
  · simp [hs1]
  · simp [hs1]
  · simp [hs1]
  · simp [hs1, State.sameProcess]

/-- Settles O42. -/
theorem portTransfers : Obligations.PortTransfers := by
  intro s s1 frame gf pc port src cb hd hc
  refine ⟨fun hx hsp hport hw hs1 hf hr hdst i hi => ?_, fun hsp hport hsrc hw => ⟨fun hzero => ?_, fun hne hw' => ?_⟩⟩
  · subst hdst
    exact exec_portOut hi hd hc hx hsp hport hw hs1 hr rfl hf
  · refine run_ok ((doPi_run hsp hport hsrc).trans ?_)
    rw [bind_ok (memWriteMds_run _ hd hw), if_neg (not_not.mpr hzero)]
    rfl
  · refine run_ok ((doPi_run hsp hport hsrc).trans ?_)
    rw [bind_ok (memWriteMds_run _ hd hw), if_pos hne, memWriteMds_run _ (by simpa using hd)
      (by rw [State.stored_lengthen, canWrite_stored hc hw]; exact hw'), State.stored_lengthen]

/-! ### Links -/

/-- `LKB` (47_control_transfers.md R622, 10_state.md R61). -/
theorem exec_lkb {alpha : Byte} {s : State} (hd : s.devices = []) (h : s.sp.val < 14)
    (hw : s.canWrite (s.lengthen s.lf) = true) :
    exec (.lkb alpha) s = .next (s.stored (s.lengthen s.lf) (s.slot s.sp.val - zextByte alpha)) := by
  refine run_ok ?_
  unfold doLkb
  rw [recoverTop_pop h, getState_bind, memWriteMds_run _ hd hw]

section

variable {alpha : Byte} {s : State}

@[simp] theorem State.loadedLink_devices : (s.loadedLink alpha).devices = s.devices := by
  simp [State.loadedLink, State.loadedLong]

@[simp] theorem State.loadedLink_sp : (s.loadedLink alpha).sp = s.sp := by
  simp [State.loadedLink, State.loadedLong]

/-- The loads of a link leave every access as it was. -/
theorem translate_loadedLink (hc : s.mapCanonical = true) (h : s.canReadLink alpha) (va : LongWord) (op : Access) :
    (s.loadedLink alpha).translate va op = s.translate va op ∧ (s.loadedLink alpha).mapCanonical = true := by
  simp only [State.canReadLink, State.canReadAll, List.all_cons, List.all_nil, Bool.and_true, Bool.and_eq_true] at h
  obtain ⟨hgf, hlow, hhigh⟩ := h
  have hc1 := loaded_canonical (va := s.lengthen (s.gf - 3)) hc
  have hr1 := (canRead_loaded hc hgf (s.linkAddress alpha)).trans hlow
  have hc2 := loaded_canonical (va := s.linkAddress alpha) hc1
  have hr2 := (canRead_loaded hc1 hr1 (s.linkAddress alpha + 1)).trans ((canRead_loaded hc hgf _).trans hhigh)
  refine ⟨?_, loaded_canonical hc2⟩
  unfold State.loadedLink State.loadedLong
  rw [translate_loaded hc2 hr2, translate_loaded hc1 hr1, translate_loaded hc hgf]

variable (hc : s.mapCanonical = true) (h : s.canReadLink alpha)
include hc h

theorem canRead_loadedLink (va : LongWord) : (s.loadedLink alpha).canRead va = s.canRead va := by
  unfold State.canRead; rw [(translate_loadedLink hc h va .read).1]

theorem wordAt_loadedLink (va : LongWord) : (s.loadedLink alpha).wordAt va = s.wordAt va :=
  wordAt_congr (fun va op => (translate_loadedLink hc h va op).1) (by simp [State.loadedLink, State.loadedLong]) va

/-- The word at the link just fetched (47_control_transfers.md R632). -/
theorem memRead_loadedLink {va : LongWord} (hd : s.devices = []) (hr : s.canRead va = true) :
    memRead va (s.loadedLink alpha) = .ok (s.wordAt va) ((s.loadedLink alpha).loaded va) := by
  rw [memRead_run (by rw [State.loadedLink_devices, hd]) ((canRead_loadedLink hc h va).trans hr), wordAt_loadedLink hc h]

theorem exec_llkb (hd : s.devices = []) (hsp : s.sp.val < 13) : exec (.llkb alpha) s =
    .next ((s.loadedLink alpha).pushedLong (s.longAt (s.linkAddress alpha))) :=
  run_ok ((bind_ok (fetchLink_run hd hc h)).trans (pushLong_pushedLong (by rwa [State.loadedLink_sp])))

theorem exec_rkib (hd : s.devices = []) (hsp : s.sp.val < 14) (hr : s.canRead (s.longAt (s.linkAddress alpha)) = true) :
    exec (.rkib alpha) s = .next (((s.loadedLink alpha).loaded (s.longAt (s.linkAddress alpha))).pushed
      (s.wordAt (s.longAt (s.linkAddress alpha)))) := by
  refine run_ok ?_
  unfold doRkib
  rw [bind_ok (fetchLink_run hd hc h), bind_ok (memRead_loadedLink hc h hd hr),
    push_run (by rwa [State.loaded_sp, State.loadedLink_sp])]

theorem exec_rkdib {ptr : LongWord} (hd : s.devices = []) (hsp : s.sp.val < 13) (hptr : ptr = s.longAt (s.linkAddress alpha))
    (hr : s.canReadAll [ptr, ptr + 1] = true) : exec (.rkdib alpha) s =
      .next (((((s.loadedLink alpha).loaded ptr).pushed (s.wordAt ptr)).loaded (ptr + 1)).pushed (s.wordAt (ptr + 1))) := by
  simp only [State.canReadAll, List.all_cons, List.all_nil, Bool.and_true, Bool.and_eq_true] at hr
  obtain ⟨hlow, hhigh⟩ := hr
  have hc1 := (translate_loadedLink hc h ptr .read).2
  have hlow1 := (canRead_loadedLink hc h ptr).trans hlow
  have hread2 : memRead (ptr + 1) (((s.loadedLink alpha).loaded ptr).pushed (s.wordAt ptr)) =
      .ok (s.wordAt (ptr + 1)) ((((s.loadedLink alpha).loaded ptr).pushed (s.wordAt ptr)).loaded (ptr + 1)) := by
    rw [memRead_run (by simpa using hd)
        (by rw [State.canRead_pushed, canRead_loaded hc1 hlow1, canRead_loadedLink hc h]; exact hhigh),
      State.wordAt_pushed, wordAt_loaded hc1 hlow1, wordAt_loadedLink hc h]
  refine run_ok ?_
  unfold doRkdib
  rw [bind_ok (fetchLink_run hd hc h), ← hptr, bind_ok (memRead_loadedLink hc h hd hlow),
    bind_ok (push_run (by rw [State.loaded_sp, State.loadedLink_sp]; omega)), bind_ok hread2,
    push_run (by rw [State.loaded_sp, State.pushed_sp_val, State.loaded_sp, State.loadedLink_sp]; omega)]

end

/-- Settles O43. -/
theorem linkInstructions : Obligations.LinkInstructions := by
  intro alpha s ptr hd hc
  refine ⟨exec_lkb hd, fun h hptr => ⟨fun hsp => ?_, fun hsp hr => ?_, fun hsp hr => exec_rkdib hc h hd hsp hptr hr⟩⟩
  · rw [hptr, exec_llkb hc h hd hsp]
  · subst hptr
    exact exec_rkib hc h hd hsp hr

end Sys2Proof.Machine

namespace Sys2Proof.Machine

-- As in the tests: many kernel checks at once need more threads than a compile of the whole text may have.
set_option Elab.async false

/-- Settles O8: what reset holds lists nothing in the map and in memory. -/
theorem invariantAtReset : Obligations.InvariantAtReset := inv_of_unlisted_map rfl rfl rfl rfl

/-! ### An access after the turn of the devices before it -/

@[simp] theorem State.lengthen_afterDevices (s : State) (p : Word) : s.afterDevices.lengthen p = s.lengthen p := by
  simp [State.lengthen]

section

variable {r s : State} (hs : r.afterDevices = s)
include hs

theorem mapAddress_ok {va : LongWord} {op : Access} {a : Nat} (h : s.translate va op = .ok a) :
    mapAddress va op r = .ok a (s.mark va op) := by
  rw [mapAddress_run, hs, translateMarked, h]

theorem mapAddress_error {va : LongWord} {op : Access} {e : Abort} (h : s.translate va op = .error e) :
    mapAddress va op r = .error e s := by
  rw [mapAddress_run, hs, translateMarked, h]

theorem memRead_ok {va : LongWord} (h : s.canRead va = true) : memRead va r = .ok (s.wordAt va) (s.loaded va) := by
  unfold memRead
  rw [bind_ok (mapAddress_ok hs (translate_of_canRead h))]
  simp [readAt, State.wordAt, State.loaded]

theorem memRead_error {va : LongWord} {e : Abort} (h : s.translate va .read = .error e) : memRead va r = .error e s :=
  bind_error (mapAddress_error hs h)

theorem memWrite_ok {va : LongWord} (v : Word) (h : s.canWrite va = true) :
    memWrite va v r = .ok () (s.stored va v) := by
  unfold memWrite
  rw [bind_ok (mapAddress_ok hs (translate_of_canWrite h))]
  simp [writeAt, State.stored]

theorem memWrite_error {va : LongWord} {e : Abort} (v : Word) (h : s.translate va .write = .error e) :
    memWrite va v r = .error e s :=
  bind_error (mapAddress_error hs h)

/-- `Store(va)^ <- Pop[]` on a stack that is not empty. -/
theorem memWritePop_ok {va : LongWord} (h : s.canWrite va = true) (hsp : 0 < s.sp.val) :
    memWritePop va r = .ok () ((s.stored va (s.top 0)).dropped 1) := by
  unfold memWritePop
  rw [bind_ok (mapAddress_ok hs (translate_of_canWrite h)), bind_ok (pop_run (by simpa using hsp))]
  simp [writeAt, State.stored, State.dropped, State.top, State.slot]

/-- `Store(va)^ <- Pop[]` on an empty stack: the translation comes before the pop (decision D13, log entry 18). -/
theorem memWritePop_empty {va : LongWord} (h : s.canWrite va = true) (hsp : s.sp.val = 0) :
    memWritePop va r = .error stackError (s.mark va .write) := by
  unfold memWritePop
  rw [bind_ok (mapAddress_ok hs (translate_of_canWrite h)), bind_error (pop_empty (by simpa using hsp))]

/-- A short pointer is the same virtual address before and after the turn, which leaves `MDS` (20_memory.md R117). -/
theorem memReadMds_eq_memRead (p : Word) : memReadMds p r = memRead (s.lengthen p) r := by
  rw [← hs, State.lengthen_afterDevices]
  rfl

theorem memWritePopMds_eq_memWritePop (p : Word) : memWritePopMds p r = memWritePop (s.lengthen p) r := by
  rw [← hs, State.lengthen_afterDevices]
  rfl

end

/-! ### Which accesses go through (20_memory.md R110) -/

section

variable {s : State} {va : LongWord} {op : Access}

theorem translate_vacant (hv : (s.readMap (pageOf va)).vacant = true) :
    s.translate va op = .error (.faultTwo .pageFault va) := by
  simp [State.translate, hv]

theorem translate_protected (hv : (s.readMap (pageOf va)).vacant = false)
    (hp : (s.readMap (pageOf va)).writeProtect = true) :
    s.translate va .write = .error (.faultTwo .writeProtectFault va) := by
  simp [State.translate, hv, hp]

/-- Where no fault is raised, what is left is whether the real page exists (20_memory.md R101). -/
theorem translate_unfaulted (hv : (s.readMap (pageOf va)).vacant = false)
    (hp : op = .write → (s.readMap (pageOf va)).writeProtect = false) :
    s.translate va op =
      if realPageExists (s.readMap (pageOf va)).real then .ok ((s.readMap (pageOf va)).real.toNat * 256 + va.toNat % 256)
      else .error (.refuse (.realPageAbsent ((s.readMap (pageOf va)).real.setWidth 32))) := by
  cases op with
  | read => simp [State.translate, hv]
  | write => simp [State.translate, hv, hp rfl]

theorem canRead_of_mapped (hv : (s.readMap (pageOf va)).vacant = false)
    (hr : realPageExists (s.readMap (pageOf va)).real = true) : s.canRead va = true := by
  rw [State.canRead, translate_unfaulted (op := .read) hv nofun, if_pos hr]
  rfl

theorem canWrite_of_mapped (hv : (s.readMap (pageOf va)).vacant = false)
    (hr : realPageExists (s.readMap (pageOf va)).real = true)
    (hp : (s.readMap (pageOf va)).writeProtect = false) : s.canWrite va = true := by
  rw [State.canWrite, translate_unfaulted hv fun _ => hp, if_pos hr]
  rfl

theorem translate_absent (hv : (s.readMap (pageOf va)).vacant = false)
    (hr : realPageExists (s.readMap (pageOf va)).real = false) :
    s.translate va .read = .error (.refuse (.realPageAbsent ((s.readMap (pageOf va)).real.setWidth 32))) := by
  rw [translate_unfaulted (op := .read) hv nofun, if_neg (by rw [hr]; exact Bool.false_ne_true)]

/-- A load sets `referenced`; a store sets it and `dirty` (20_memory.md R110). -/
theorem flags_set (hc : s.mapCanonical = true) (v : Word) :
    ((s.loaded va).readMap (pageOf va)).referenced = true
      ∧ ((s.stored va v).readMap (pageOf va)).referenced = true ∧ ((s.stored va v).readMap (pageOf va)).dirty = true := by
  have hload := readMap_mark_self (va := va) (op := .read) hc
  have hstore : (s.stored va v).readMap (pageOf va) = _ := readMap_mark_self (va := va) (op := .write) hc
  rw [State.loaded, hload, hstore]
  simp

end

/-- Settles O11. -/
theorem accessFaults : Obligations.AccessFaults := by
  intro r s va v hs
  refine ⟨fun hv => ⟨?_, ?_⟩, fun hv hp => ?_, fun hv hr => ⟨?_, fun hp => ?_⟩, fun hv hr => ?_, fun hc => flags_set hc v⟩
  · exact memRead_error hs (translate_vacant hv)
  · exact memWrite_error hs v (translate_vacant hv)
  · exact memWrite_error hs v (translate_protected hv hp)
  · exact memRead_ok hs (canRead_of_mapped hv hr)
  · exact memWrite_ok hs v (canWrite_of_mapped hv hr hp)
  · exact memRead_error hs (translate_absent hv hr)

/-! ### Loads of frame variables -/

section

variable {r s : State} (hs : r.afterDevices = s) {p : Word}
include hs

theorem loadShort_ok (h : s.canRead (s.lengthen p) = true) (hsp : s.sp.val < 14) :
    loadShort p r = .ok () ((s.loaded (s.lengthen p)).pushed (s.wordAt (s.lengthen p))) := by
  unfold loadShort
  rw [bind_ok ((memReadMds_eq_memRead hs p).trans (memRead_ok hs h)), push_run (by rwa [State.loaded_sp])]

theorem loadShort_full (h : s.canRead (s.lengthen p) = true) (hsp : s.sp.val = 14) :
    loadShort p r = .error stackError (s.loaded (s.lengthen p)) := by
  unfold loadShort
  rw [bind_ok ((memReadMds_eq_memRead hs p).trans (memRead_ok hs h)), push_full (by rwa [State.loaded_sp])]

theorem loadShort_error {e : Abort} (h : s.translate (s.lengthen p) .read = .error e) : loadShort p r = .error e s :=
  bind_error ((memReadMds_eq_memRead hs p).trans (memRead_error hs h))

end

theorem run_congr {m m' : M Unit} {s : State} (h : m s = m' s) : run m s = run m' s := by
  unfold run
  rw [h]

/-- A routine on a local variable is the routine on its address (43_assign_immediate_frame_pointer.md R378). -/
theorem run_local (f : Word → M Unit) (n : Word) (s : State) :
    run (localAddress n >>= f) s = run (f (s.lf + n)) s := run_congr rfl

/-- Local variable 0 stands at `LF` itself. -/
theorem run_localZero (f : Word → M Unit) (s : State) : run (localAddress 0 >>= f) s = run (f s.lf) s := by
  rw [run_local, add_zero]

/-- A routine on a global variable is the routine on its address (43_assign_immediate_frame_pointer.md R399). -/
theorem run_global (f : Word → M Unit) (n : Word) (s : State) :
    run (globalAddress n >>= f) s = run (f (s.gf + n)) s := run_congr rfl

/-- Global variable 0 stands at `GF` itself. -/
theorem run_globalZero (f : Word → M Unit) (s : State) : run (globalAddress 0 >>= f) s = run (f s.gf) s := by
  rw [run_global, add_zero]

/-- Settles O13. Every load is `loadShort` of its variable's address, which the turn of the devices leaves. -/
theorem frameLoads : Obligations.FrameLoads := by
  intro alpha r s hs p hp
  have hexec : exec p.1 r = run (loadShort p.2) r := by
    subst hs
    revert p
    simp only [State.afterDevices_lf, State.afterDevices_gf, List.forall_mem_cons, List.not_mem_nil, false_imp_iff,
      implies_true, and_true]
    have hlocal := fun n => run_local loadShort n r
    have hglobal := fun n => run_global loadShort n r
    exact ⟨run_localZero loadShort r, hlocal 1, hlocal 2, hlocal 3, hlocal 4, hlocal 5, hlocal 6, hlocal 7, hlocal 8,
      hlocal 9, hlocal 10, hlocal 11, hlocal _, run_globalZero loadShort r, hglobal 1, hglobal 2, hglobal _⟩
  rw [hexec]
  exact ⟨fun h hsp => run_ok (loadShort_ok hs h hsp), fun h hsp => run_error (loadShort_full hs h hsp),
    fun _ h => run_error (loadShort_error hs h)⟩

/-- Both words pushed, each as soon as it is read (43_assign_immediate_frame_pointer.md R386). -/
theorem loadShortDouble_run {s : State} {p : Word} (hd : s.devices = []) (hc : s.mapCanonical = true)
    (hsp : s.sp.val < 13) (hlow : s.canRead (s.lengthen p) = true) (hhigh : s.canRead (s.lengthen (p + 1)) = true) :
    loadShortDouble p s = .ok () ((((s.loaded (s.lengthen p)).pushed (s.wordAt (s.lengthen p))).loaded
      (s.lengthen (p + 1))).pushed (s.wordAt (s.lengthen (p + 1)))) := by
  have hlen : ((s.loaded (s.lengthen p)).pushed (s.wordAt (s.lengthen p))).lengthen (p + 1) = s.lengthen (p + 1) := by
    rw [State.lengthen_pushed, State.loaded_lengthen]
  have hsecond := loadShort_ok (p := p + 1) (afterDevices_idle (s := (s.loaded (s.lengthen p)).pushed _) (by simpa using hd))
    (by rw [hlen, State.canRead_pushed, canRead_loaded hc hlow, hhigh])
    (by rw [State.pushed_sp_val, State.loaded_sp]; omega)
  unfold loadShortDouble
  rw [bind_ok (loadShort_ok (afterDevices_idle hd) hlow (by omega)), hsecond, hlen, State.wordAt_pushed,
    wordAt_loaded hc hlow]

/-- Settles O14. Every double load is `loadShortDouble` of its variable's address. -/
theorem frameDoubleLoads : Obligations.FrameDoubleLoads := by
  intro alpha s hd hc hsp p hp hlow hhigh
  have hexec : exec p.1 s = run (loadShortDouble p.2) s := by
    clear hlow hhigh
    revert p
    simp only [List.forall_mem_cons, List.not_mem_nil, false_imp_iff, implies_true, and_true]
    have hlocal := fun n => run_local loadShortDouble n s
    have hglobal := fun n => run_global loadShortDouble n s
    exact ⟨run_localZero loadShortDouble s, hlocal 1, hlocal 2, hlocal 3, hlocal 4, hlocal 5, hlocal 6, hlocal 7,
      hlocal 8, hlocal 10, hlocal _, run_globalZero loadShortDouble s, hglobal 2, hglobal _⟩
  rw [hexec]
  exact run_ok (loadShortDouble_run hd hc hsp hlow hhigh)

/-! ### Stores to frame variables -/

theorem run_memWritePopMds {r s : State} (hs : r.afterDevices = s) {p : Word} (h : s.canWrite (s.lengthen p) = true) :
    (0 < s.sp.val → run (memWritePopMds p) r = .next ((s.stored (s.lengthen p) (s.top 0)).dropped 1))
      ∧ (s.sp.val = 0 → run (memWritePopMds p) r = deliver stackError (s.mark (s.lengthen p) .write)) :=
  ⟨fun hsp => run_ok ((memWritePopMds_eq_memWritePop hs p).trans (memWritePop_ok hs h hsp)),
    fun hsp => run_error ((memWritePopMds_eq_memWritePop hs p).trans (memWritePop_empty hs h hsp))⟩

/-- A put: the word popped by the store is exposed again (43_assign_immediate_frame_pointer.md R393). -/
theorem memWritePopMds_recoverTop {r s : State} (hs : r.afterDevices = s) {p : Word}
    (h : s.canWrite (s.lengthen p) = true) (hsp : 0 < s.sp.val) :
    (memWritePopMds p >>= fun _ => recoverTop) r = .ok () (s.stored (s.lengthen p) (s.top 0)) := by
  have hlt := s.sp.isLt
  rw [bind_ok ((memWritePopMds_eq_memWritePop hs p).trans (memWritePop_ok hs h hsp)),
    recoverTop_run (by rw [State.dropped_sp_val, State.stored_sp]; omega),
    State.raised_dropped _ (by rwa [State.stored_sp])]

theorem run_putLocal (n : Word) (s : State) :
    run (putLocal n) s = run (memWritePopMds (s.lf + n) >>= fun _ => recoverTop) s := by
  have hstore : storeLocal n s = memWritePopMds (s.lf + n) s := rfl
  refine run_congr ?_
  rw [putLocal, bind_run, bind_run, hstore]

/-- Settles O15. Every store is `memWritePopMds` of its variable's address, and every put that and `recoverTop`. -/
theorem frameStores : Obligations.FrameStores := by
  intro alpha r s hs
  refine ⟨fun p hp h => ?_, fun p hp h hsp => ?_⟩
  · have hexec : exec p.1 r = run (memWritePopMds p.2) r := by
      clear h
      subst hs
      revert p
      simp only [State.afterDevices_lf, State.afterDevices_gf, List.forall_mem_cons, List.not_mem_nil, false_imp_iff,
        implies_true, and_true]
      have hlocal := fun n => run_local memWritePopMds n r
      exact ⟨run_localZero memWritePopMds r, hlocal 1, hlocal 2, hlocal 3, hlocal 4, hlocal 5, hlocal 6, hlocal 7,
        hlocal 8, hlocal 9, hlocal 10, hlocal _, run_global memWritePopMds _ r⟩
    rw [hexec]
    exact run_memWritePopMds hs h
  · have hexec : exec p.1 r = run (memWritePopMds p.2 >>= fun _ => recoverTop) r := by
      clear h hsp
      subst hs
      revert p
      simp only [State.afterDevices_lf, List.forall_mem_cons, List.not_mem_nil, false_imp_iff, implies_true, and_true]
      have hlocal := fun n => run_putLocal n r
      exact ⟨(run_putLocal 0 r).trans (by rw [add_zero]), hlocal 1, hlocal 2, hlocal 3, hlocal _⟩
    rw [hexec]
    exact run_ok (memWritePopMds_recoverTop hs h hsp)

/-! ### A store as a program sees memory -/

/-- The real address of a load that goes through, by its entry of the map (20_memory.md R110). -/
theorem realAddress_eq {s : State} {va : LongWord} (h : s.canRead va = true) :
    (s.readMap (pageOf va)).vacant = false
      ∧ s.realAddress va = (s.readMap (pageOf va)).real.toNat * 256 + va.toNat % 256 := by
  obtain ⟨hv, -, -, ha⟩ := translate_ok (translate_of_canRead h)
  exact ⟨hv, ha⟩

/-- Two mapped virtual addresses with one real address are the same, since no two pages share a real page
(20_memory.md R107). -/
theorem realAddress_injective {s : State} {va va' : LongWord} (hi : s.mapInjective) (h : s.canRead va = true)
    (h' : s.canRead va' = true) (he : s.realAddress va = s.realAddress va') : va = va' := by
  obtain ⟨hv, ha⟩ := realAddress_eq h
  obtain ⟨hv', ha'⟩ := realAddress_eq h'
  have hreal : (s.readMap (pageOf va)).real = (s.readMap (pageOf va')).real := BitVec.eq_of_toNat_eq (by omega)
  have hpage : va.toNat / 256 = va'.toNat / 256 := hi _ _ hv hv' hreal
  rw [hreal] at ha
  exact BitVec.eq_of_toNat_eq (by omega)

theorem memoryAfter_stored {s : State} {va : LongWord} {v : Word} (hc : s.mapCanonical = true)
    (h : s.canWrite va = true) : s.memoryAfter (s.stored va v) [(va, v)] :=
  ⟨fun va' op => (translate_stored hc h va' op).symm, rfl⟩

section

variable {s t : State} {va : LongWord} {v : Word} (ht : s.memoryAfter t [(va, v)])
include ht

theorem canWrite_memoryAfter (va' : LongWord) : t.canWrite va' = s.canWrite va' := by
  unfold State.canWrite; rw [ht.1]

theorem wordAt_memoryAfter (va' : LongWord) :
    t.wordAt va' = readReal (writeReal s.mem (s.realAddress va) v) (s.realAddress va') := by
  obtain ⟨htrans, hmem⟩ := ht
  unfold State.wordAt
  rw [hmem, State.realAddress, ← htrans va' .read]
  rfl

theorem wordAt_memoryAfter_self (hm : Memory.wf s.mem = true) (h : s.canWrite va = true) : t.wordAt va = v := by
  rw [wordAt_memoryAfter ht, readReal_writeReal_self v hm (translate_bound (translate_of_canWrite h))]

theorem wordAt_memoryAfter_other {va' : LongWord} (hi : s.mapInjective) (h : s.canWrite va = true)
    (h' : s.canRead va' = true) (hne : va' ≠ va) : t.wordAt va' = s.wordAt va' := by
  rw [wordAt_memoryAfter ht, readReal_writeReal_other _ _ fun he =>
    hne (realAddress_injective hi h' (canRead_of_canWrite h) he)]
  rfl

theorem byteAt_memoryAfter (key : Nat) (h0 : key ≠ 2 * s.realAddress va) (h1 : key ≠ 2 * s.realAddress va + 1) :
    t.byteAt key = s.byteAt key := by
  rw [State.byteAt, ht.2]
  exact byte_writeReal_other s.mem v h0 h1

end

/-! ### What a device does to memory (20_memory.md R113, decision D9) -/

section

variable {s : State} {va : LongWord} {flags : Bool}

/-- A device's read of a mapped word is a load, or sets no flags (log entry 7). -/
theorem perform_read (h : s.canRead va = true) : s.perform (.read va flags) = if flags then s.loaded va else s := by
  simp only [State.perform, translate_of_canRead h]
  rfl

/-- A device's write of a mapped word is a store, or sets no flags (log entry 7). -/
theorem perform_write {v : Word} (h : s.canWrite va = true) : s.perform (.write va v flags) =
    if flags then s.stored va v else { s with mem := writeReal s.mem (s.realAddress va) v } := by
  simp only [State.perform, translate_of_canWrite h]
  cases flags <;> rfl

theorem perform_read_frame (hc : s.mapCanonical = true) (h : s.canRead va = true) :
    (s.perform (.read va flags)).mem = s.mem ∧ s.sameTranslation (s.perform (.read va flags)) := by
  rw [perform_read h]
  split_ifs
  · exact ⟨State.loaded_mem s va, fun va' op => (translate_loaded hc h va' op).symm⟩
  · exact ⟨rfl, fun _ _ => rfl⟩

theorem memoryAfter_perform_write {v : Word} (hc : s.mapCanonical = true) (h : s.canWrite va = true) :
    s.memoryAfter (s.perform (.write va v flags)) [(va, v)] := by
  rw [perform_write h]
  split_ifs
  · exact memoryAfter_stored hc h
  · exact ⟨fun _ _ => rfl, rfl⟩

/-- Of the registers that a device's action can change there is `WP` only, which a write leaves. -/
theorem perform_write_registers {v : Word} (h : s.canWrite va = true) :
    s.sameContext (s.perform (.write va v flags)) ∧ s.sameProcess (s.perform (.write va v flags)) := by
  have hwp : (s.perform (.write va v flags)).wp = s.wp := by
    rw [perform_write h]
    split_ifs
    · exact State.stored_wp s va v
    · rfl
  simp [State.sameContext, State.sameProcess, hwp]

/-- A turn in which a device writes one word. -/
theorem memoryAfter_turn {v : Word} {rest : List (List DeviceAction)} (hc : s.mapCanonical = true)
    (hd : s.devices = [.write va v flags] :: rest) (h : s.canWrite va = true) :
    s.memoryAfter s.afterDevices [(va, v)] := by
  have hturn : s.afterDevices = State.perform { s with devices := rest } (.write va v flags) := by
    unfold State.afterDevices
    rw [hd]
    rfl
  rw [hturn]
  exact memoryAfter_perform_write (s := { s with devices := rest }) hc h

end

/-! ### Devices between two accesses of one instruction (20_memory.md R142) -/

section

variable {r s : State} {va : LongWord} {v : Word} {flags : Bool} {rest : List (List DeviceAction)}
  (hs : r.afterDevices = s) (hi : s.Inv) (hw : s.canWrite va = true) (hd : s.devices = [.write va v flags] :: rest)
include hi hw hd

/-- After a load the devices take the turn in which one writes `v` at `va`. -/
theorem turn_after_load {va' : LongWord} (hr : s.canRead va' = true) :
    (s.loaded va').afterDevices.Inv ∧ (s.loaded va').afterDevices.canWrite va = true
      ∧ (s.loaded va').afterDevices.wordAt va = v ∧ (s.loaded va').afterDevices.devices = rest := by
  have hi1 : (s.loaded va').Inv := inv_mark hi (translate_of_canRead hr)
  obtain ⟨-, hc, -⟩ := hi
  have ⟨hm1, hc1, _⟩ := hi1
  have hw1 := (canWrite_loaded hc hr va).trans hw
  have hturn := memoryAfter_turn hc1 ((State.loaded_devices s va').trans hd) hw1
  refine ⟨inv_afterDevices hi1, (canWrite_memoryAfter hturn va).trans hw1, wordAt_memoryAfter_self hturn hm1 hw1, ?_⟩
  rw [State.afterDevices_devices, State.loaded_devices, hd, List.tail_cons]

include hs

/-- A double word torn by a device: the old low word and the high word just written (20_memory.md R115, R142). -/
theorem readDbl_torn {va' : LongWord} (hr : s.canRead va' = true) (hva : va = va' + 1) :
    ∃ t, readDbl va' r = .ok (mkLong (s.wordAt va') v) t ∧ t.devices = rest := by
  obtain ⟨-, hw2, hword, hrest⟩ := turn_after_load hi hw hd hr
  refine ⟨(s.loaded va').afterDevices.loaded va, ?_, (State.loaded_devices _ va).trans hrest⟩
  unfold readDbl
  rw [bind_ok (memRead_ok hs hr), ← hva, bind_ok (memRead_ok rfl (canRead_of_canWrite hw2)), hword, pure_run]

/-- A byte store merges with the word it read, so that what a device wrote meanwhile is lost
(44_assign_string_field.md R476, 20_memory.md R142). -/
theorem storeByte_overwrites (ptr offset : LongWord) (b : Byte) (hva : va = ptr + offset >>> 1) :
    ∃ t, storeByte ptr offset b r = .ok () t ∧ t.devices = rest
      ∧ t.wordAt va = replaceByte (s.wordAt va) (offset.getLsbD 0) b := by
  have hr := canRead_of_canWrite hw
  obtain ⟨⟨hm2, hc2, -⟩, hw2, -, hrest⟩ := turn_after_load hi hw hd hr
  refine ⟨_, ?_, (State.stored_devices _ va _).trans hrest, wordAt_stored_self hc2 hm2 hw2⟩
  unfold storeByte
  rw [← hva, bind_ok (memRead_ok hs hr), memWrite_ok rfl _ hw2]

end

/-- Settles O10. A store and a device's write both leave memory as one store does (`State.memoryAfter`), and no other mapped
address has the same real address. -/
theorem storeChangesOneVirtualWord : Obligations.StoreChangesOneVirtualWord := by
  intro r s va va' v flags hs hi hw hr
  have ⟨hm, hc, _, hinj, _⟩ := hi
  have hstore : s.memoryAfter (s.stored va v) [(va, v)] := memoryAfter_stored hc hw
  have hdevice : s.memoryAfter (s.perform (.write va v flags)) [(va, v)] := memoryAfter_perform_write hc hw
  obtain ⟨hcontext, hprocess⟩ := perform_write_registers (flags := flags) (v := v) hw
  obtain ⟨hreadMem, hreadTrans⟩ := perform_read_frame (flags := flags) hc (canRead_of_canWrite hw)
  refine ⟨memRead_ok hs hr, ⟨_, memWrite_ok hs v hw, ?_⟩, ?_, hreadMem, hreadTrans, fun rest hd => ⟨?_, ?_⟩⟩
  · exact ⟨wordAt_memoryAfter_self hstore hm hw, wordAt_memoryAfter_other hstore hinj hw hr, byteAt_memoryAfter hstore⟩
  · rintro _ rfl
    exact ⟨wordAt_memoryAfter_self hdevice hm hw, wordAt_memoryAfter_other hdevice hinj hw hr, hdevice.1, hcontext, hprocess,
      State.perform_stack _ _, State.perform_sp _ _, byteAt_memoryAfter hdevice⟩
  · exact readDbl_torn hs hi hw hd hr
  · exact storeByte_overwrites hs hi hw hd

end Sys2Proof.Machine

namespace Sys2Proof

-- As in the tests: many kernel checks at once need more threads than a compile of the whole text may have.
set_option Elab.async false

/-! ### Operand bytes -/

theorem hiNibble_nibblePair (left right : Nibble) : hiNibble (nibblePair left right) = left := by
  unfold hiNibble nibblePair
  rw [BitVec.extractLsb'_append_eq_of_le (by decide)]
  exact BitVec.extractLsb'_eq_self

theorem loNibble_nibblePair (left right : Nibble) : loNibble (nibblePair left right) = right := by
  unfold loNibble nibblePair
  rw [BitVec.extractLsb'_append_eq_right]

theorem codeWord_bytes (w : Word) : codeWord (codeHigh w) (codeLow w) = w := Machine.bytes_append w

/-! ### Decoding by the entry of the opcode map -/

/-- The rows of the one-byte opcode map, one for each high digit of the first byte (30_encoding.md R178). -/
def firstRows : List (List FirstByte) :=
  [firstRow0, firstRow1, firstRow2, firstRow3, firstRow4, firstRow5, firstRow6, firstRow7, firstRow8, firstRow9,
    firstRowA, firstRowB, firstRowC, firstRowD, firstRowE, firstRowF]

/-- The rows of the escape opcode map, one for each high digit of the second byte (30_encoding.md R179). -/
def secondRows : List (List SecondByte) :=
  [secondRow0, secondRow1, secondRow2, secondRow3, secondRow4, secondRow5, secondRow6, secondRow7, secondRow8,
    secondRow9, secondRowA, secondRowB, secondRowC, secondRowD, secondRowE, secondRowF]

/-- The entry of a byte in a map of sixteen rows: its high digit selects the row. -/
def rowEntry {α : Type} (rows : List (List α)) (unlisted : α) (b : Byte) : α :=
  (rows.getD (b.toNat / 16) []).getD (b.toNat % 16) unlisted

/-- What the one-byte opcode map says of a first byte. -/
def firstEntry : Byte → FirstByte := rowEntry firstRows .unassigned

/-- What the escape opcode map says of a second byte. -/
def secondEntry : Byte → SecondByte := rowEntry secondRows .free

theorem getD_flatten_rows {α : Type} (rows : List (List α)) (unlisted : α) (h : ∀ row ∈ rows, row.length = 16) (n : Nat) :
    rows.flatten.getD n unlisted = (rows.getD (n / 16) []).getD (n % 16) unlisted := by
  induction rows generalizing n with
  | nil => simp
  | cons row rows ih =>
    obtain ⟨hrow, hrows⟩ := List.forall_mem_cons.mp h
    rw [List.flatten_cons]
    by_cases hn : n < 16
    · rw [List.getD_append _ _ _ _ (by omega), Nat.div_eq_of_lt hn, Nat.mod_eq_of_lt hn, List.getD_cons_zero]
    · obtain ⟨k, rfl⟩ : ∃ k, n = k + 16 := ⟨n - 16, by omega⟩
      rw [List.getD_append_right _ _ _ _ (by omega), hrow, Nat.add_sub_cancel, ih hrows, Nat.add_div_right _ (by decide),
        Nat.add_mod_right, List.getD_cons_succ]

theorem firstMap_eq_flatten : firstMap = firstRows.flatten := by
  simp only [firstMap, firstRows, List.flatten_cons, List.flatten_nil, List.append_nil, List.append_assoc]

theorem secondMap_eq_flatten : secondMap = secondRows.flatten := by
  simp only [secondMap, secondRows, List.flatten_cons, List.flatten_nil, List.append_nil, List.append_assoc]

/-- The rows are those of the model's one-byte opcode map. -/
theorem firstEntry_eq (b : Byte) : Config.opcodeMap.first.getD b.toNat .unassigned = firstEntry b := by
  show firstMap.getD b.toNat .unassigned = _
  rw [firstMap_eq_flatten, getD_flatten_rows _ _ (by decide +kernel)]
  rfl

/-- The rows are those of the model's escape opcode map. -/
theorem secondEntry_eq (b : Byte) : Config.opcodeMap.second.getD b.toNat .free = secondEntry b := by
  show secondMap.getD b.toNat .free = _
  rw [secondMap_eq_flatten, getD_flatten_rows _ _ (by decide +kernel)]
  rfl

section

variable {opcode code : Byte} (rest : List Byte)

theorem decode_op {i : Instr} (h : firstEntry opcode = .op i) : decode (opcode :: rest) = .instr i rest := by
  simp only [decode, firstEntry_eq, h]

theorem decode_opa {f : Byte → Instr} (alpha : Byte) (h : firstEntry opcode = .opa f) :
    decode (opcode :: alpha :: rest) = .instr (f alpha) rest := by
  simp only [decode, firstEntry_eq, h]

theorem decode_opab {f : Byte → Byte → Instr} (alpha beta : Byte) (h : firstEntry opcode = .opab f) :
    decode (opcode :: alpha :: beta :: rest) = .instr (f alpha beta) rest := by
  simp only [decode, firstEntry_eq, h]

/-- An operand byte that is read as a nibble pair (30_encoding.md R165). -/
theorem decode_pair {f : Nibble → Nibble → Instr} (left right : Nibble)
    (h : firstEntry opcode = .opa fun a => f (hiNibble a) (loNibble a)) :
    decode (opcode :: nibblePair left right :: rest) = .instr (f left right) rest := by
  rw [decode_opa rest _ h, hiNibble_nibblePair, loNibble_nibblePair]

/-- A second operand byte that is read as a field specifier (44_assign_string_field.md R480). -/
theorem decode_field {f : Byte → Nibble → Nibble → Instr} (alpha : Byte) (pos size : Nibble)
    (h : firstEntry opcode = .opab fun a b => f a (hiNibble b) (loNibble b)) :
    decode (opcode :: alpha :: nibblePair pos size :: rest) = .instr (f alpha pos size) rest := by
  rw [decode_opab rest _ _ h, hiNibble_nibblePair, loNibble_nibblePair]

theorem decode_pairField {f : Nibble → Nibble → Nibble → Nibble → Instr} (left right pos size : Nibble)
    (h : firstEntry opcode = .opab fun a b => f (hiNibble a) (loNibble a) (hiNibble b) (loNibble b)) :
    decode (opcode :: nibblePair left right :: nibblePair pos size :: rest) = .instr (f left right pos size) rest := by
  rw [decode_opab rest _ _ h, hiNibble_nibblePair, loNibble_nibblePair, hiNibble_nibblePair, loNibble_nibblePair]

/-- Two operand bytes that are read as a 16-bit operand (30_encoding.md R165). -/
theorem decode_word {f : Word → Instr} (w : Word) (h : firstEntry opcode = .opab fun a b => f (codeWord a b)) :
    decode (opcode :: codeHigh w :: codeLow w :: rest) = .instr (f w) rest := by
  rw [decode_opab rest _ _ h, codeWord_bytes]

theorem decode_esc {i : Instr} (h : secondEntry code = .a i) : decode (0xF8 :: code :: rest) = .instr i rest := by
  show decodeEsc (code :: rest) = _
  simp only [decodeEsc, secondEntry_eq, h]

theorem decode_escl {f : Byte → Instr} (alpha : Byte) (h : secondEntry code = .b f) :
    decode (0xF9 :: code :: alpha :: rest) = .instr (f alpha) rest := by
  show decodeEscl (code :: alpha :: rest) = _
  simp only [decodeEscl, secondEntry_eq, h]

end

/-- The entry is an `a` code, one of an instruction of `ESC`. -/
def SecondByte.isA (e : SecondByte) : Bool :=
  match e with
  | .a _ => true
  | .b _ | .free => false

/-- The entry is a `b` code, one of an instruction of `ESCL`. -/
def SecondByte.isB (e : SecondByte) : Bool :=
  match e with
  | .b _ => true
  | .a _ | .free => false

/-- The escape opcode map assigns exactly the second bytes that `escAssigned` and `esclAssigned` name
(30_encoding.md R179). -/
theorem assigned_secondEntry (code : Byte) :
    (secondEntry code).isA = escAssigned code ∧ (secondEntry code).isB = esclAssigned code := by
  revert code
  decide +kernel

/-- A second byte that is not an `a` code is the instruction `ESC` itself (30_encoding.md R171). -/
theorem decode_esc_unassigned {code : Byte} (rest : List Byte) (h : escAssigned code = false) :
    decode (0xF8 :: code :: rest) = .instr (.esc code) rest := by
  show decodeEsc (code :: rest) = _
  have ha : (secondEntry code).isA = false := (assigned_secondEntry code).1.trans h
  simp only [decodeEsc, secondEntry_eq]
  revert ha
  cases secondEntry code with
  | a i => exact nofun
  | b _ | free => exact fun _ => rfl

/-- A second byte that is not a `b` code is the instruction `ESCL` itself, two bytes long (30_encoding.md R171). -/
theorem decode_escl_unassigned {code : Byte} (rest : List Byte) (h : esclAssigned code = false) :
    decode (0xF9 :: code :: rest) = .instr (.escl code) rest := by
  show decodeEscl (code :: rest) = _
  have hb : (secondEntry code).isB = false := (assigned_secondEntry code).2.trans h
  simp only [decodeEscl, secondEntry_eq]
  revert hb
  cases secondEntry code with
  | b f => exact nofun
  | a _ | free => exact fun _ => rfl

/-- Settles O1. Each constructor's first byte, and behind an escape byte its second, names the constructor's entry of the opcode map;
nibble pairs and 16-bit operands are put together again from their bytes. -/
theorem encodeThenDecode : Obligations.EncodeThenDecode := by
  intro i rest henc
  cases i with
  | esc code => exact decode_esc_unassigned rest (Bool.not_eq_true' _ ▸ henc)
  | escl code => exact decode_escl_unassigned rest (Bool.not_eq_true' _ ▸ henc)
  | llb alpha | lldb alpha | slb alpha | plb alpha | pldb alpha | lgb alpha | lgdb alpha | sgb alpha | rb alpha
  | rlb alpha | rdb alpha | rdlb alpha | wb alpha | psb alpha | wlb alpha | pslb alpha | wdb alpha | psdb alpha
  | wdlb alpha | psdlb alpha | rs alpha | rls alpha | ws alpha | wls alpha | sldb alpha | sgdb alpha | llkb alpha
  | rkib alpha | rkdib alpha | lkb alpha | shiftsb alpha | catchByte alpha | jb alpha | jeb alpha | jneb alpha
  | jlb alpha | jgeb alpha | jgb alpha | jleb alpha | julb alpha | jugeb alpha | jugb alpha | juleb alpha | jzb alpha
  | jnzb alpha | jdeb alpha | jdneb alpha | addsb alpha | al0ib alpha | lib alpha | linb alpha | lihb alpha
  | lab alpha | gab alpha | efcb alpha | kfcb alpha =>
    exact decode_opa rest alpha rfl
  | jebb alpha beta | jnebb alpha beta =>
    exact decode_opab rest alpha beta rfl
  | rlip left right | rlilp left right | rldip left right | rldilp left right | rgip left right | rgilp left right
  | wlip left right | wlilp left right | wldilp left right | r0f left right | rl0f left right | w0f left right
  | ps0f left right | ws0f left right | wl0f left right | jep left right | jnep left right =>
    exact decode_pair rest left right rfl
  | rf alpha pos size | rlf alpha pos size | wf alpha pos size | psf alpha pos size | wlf alpha pos size
  | pslf alpha pos size =>
    exact decode_field rest alpha pos size rfl
  | rlipf left right pos size | rlilpf left right pos size =>
    exact decode_pairField rest left right pos size rfl
  | jw word | jib word | jiw word | liw word | law word | gaw word | lfc word =>
    exact decode_word rest word rfl
  | rc alpha | rob alpha | wob alpha | dsk alpha | xe alpha | xf alpha | lsk alpha =>
    exact decode_escl rest alpha rfl
  | mw | mr | nc | bc | req | sm | smf | gmf | af | ff | pi | po | por | spp | di | ei | xor | dand | dior | dxor
  | rotate | dshift | lint | js | rcfs | udiv | ludiv | bndckl | nilck | nilckl | bltlr | blel | blecl | cksum
  | bitblt | txtblt | bytblt | bytbltr | version | dmul | sdiv | sddiv | uddiv | fadd | fsub | fmul | fdiv | fcomp
  | fix | float | fixi | fixc | fsticky | frem | round | roundi | roundc | fsqrt | fsc | reclaimref | altercount
  | resetstkbits | gcsetup | a144 | enumeratereclaimable | a146 | createref | a150 | reftype | canonicalreftype
  | allocquantized | allocheap | freeobject | freequantized | freeprefixed | wrpsb | wrmds | wrwp | wrwdc | wrptc
  | writ | wrxts | wrmp | rrpsb | rrmds | rrwp | rrwdc | rrptc | rrit | rrxts | input | output | loadramj | bandblt =>
    exact decode_esc rest rfl
  | _ => exact decode_op rest rfl


/-! ### Encoding what an entry of the opcode map decodes to -/

theorem nibblePair_nibbles (b : Byte) : nibblePair (hiNibble b) (loNibble b) = b :=
  (BitVec.extractLsb'_append_extractLsb'_eq_extractLsb' (start₂ := 4) (start₁ := 0) (len₁ := 4) (len₂ := 4) rfl).trans
    BitVec.extractLsb'_eq_self

theorem codeHigh_codeWord (alpha beta : Byte) : codeHigh (codeWord alpha beta) = alpha := by
  unfold codeHigh codeWord
  rw [BitVec.extractLsb'_append_eq_of_le (by decide)]
  exact BitVec.extractLsb'_eq_self

theorem codeLow_codeWord (alpha beta : Byte) : codeLow (codeWord alpha beta) = beta := by
  unfold codeLow codeWord
  rw [BitVec.extractLsb'_append_eq_right]

/-- Whatever the entry of a first byte decodes to is encoded by that byte and its operand bytes. -/
def FirstByte.Encodes (opcode : Byte) (e : FirstByte) : Prop :=
  match e with
  | .op i => encode i = [opcode] ∧ i.encodable = true
  | .opa f => ∀ alpha, encode (f alpha) = [opcode, alpha] ∧ (f alpha).encodable = true
  | .opab f => ∀ alpha beta, encode (f alpha beta) = [opcode, alpha, beta] ∧ (f alpha beta).encodable = true
  | .escape => opcode = 0xF8
  | .escapeLong => opcode = 0xF9
  | .unassigned | .reserved => True

/-- Whatever the entry of a second byte decodes to is encoded by its escape byte, that byte and its operand byte. -/
def SecondByte.Encodes (code : Byte) (e : SecondByte) : Prop :=
  match e with
  | .a i => encode i = [0xF8, code] ∧ i.encodable = true
  | .b f => ∀ alpha, encode (f alpha) = [0xF9, code, alpha] ∧ (f alpha).encodable = true
  | .free => True

section

variable {opcode code : Byte}

theorem encodes_op {i : Instr} (h : encode i = [opcode] := by rfl) (hi : i.encodable = true := by rfl) :
    FirstByte.Encodes opcode (.op i) := ⟨h, hi⟩

theorem encodes_opa {f : Byte → Instr} (h : ∀ alpha, encode (f alpha) = [opcode, alpha] := by exact fun _ => rfl)
    (hi : ∀ alpha, (f alpha).encodable = true := by exact fun _ => rfl) : FirstByte.Encodes opcode (.opa f) :=
  fun alpha => ⟨h alpha, hi alpha⟩

theorem encodes_opab {f : Byte → Byte → Instr}
    (h : ∀ alpha beta, encode (f alpha beta) = [opcode, alpha, beta] := by exact fun _ _ => rfl)
    (hi : ∀ alpha beta, (f alpha beta).encodable = true := by exact fun _ _ => rfl) :
    FirstByte.Encodes opcode (.opab f) :=
  fun alpha beta => ⟨h alpha beta, hi alpha beta⟩

theorem encodes_pair {f : Nibble → Nibble → Instr}
    (h : ∀ left right, encode (f left right) = [opcode, nibblePair left right] := by exact fun _ _ => rfl)
    (hi : ∀ left right, (f left right).encodable = true := by exact fun _ _ => rfl) :
    FirstByte.Encodes opcode (.opa fun a => f (hiNibble a) (loNibble a)) :=
  fun alpha => ⟨by rw [h, nibblePair_nibbles], hi _ _⟩

theorem encodes_field {f : Byte → Nibble → Nibble → Instr}
    (h : ∀ alpha pos size, encode (f alpha pos size) = [opcode, alpha, nibblePair pos size] := by exact fun _ _ _ => rfl)
    (hi : ∀ alpha pos size, (f alpha pos size).encodable = true := by exact fun _ _ _ => rfl) :
    FirstByte.Encodes opcode (.opab fun a b => f a (hiNibble b) (loNibble b)) :=
  fun alpha beta => ⟨by rw [h, nibblePair_nibbles], hi _ _ _⟩

theorem encodes_pairField {f : Nibble → Nibble → Nibble → Nibble → Instr}
    (h : ∀ left right pos size, encode (f left right pos size) = [opcode, nibblePair left right, nibblePair pos size] :=
      by exact fun _ _ _ _ => rfl)
    (hi : ∀ left right pos size, (f left right pos size).encodable = true := by exact fun _ _ _ _ => rfl) :
    FirstByte.Encodes opcode (.opab fun a b => f (hiNibble a) (loNibble a) (hiNibble b) (loNibble b)) :=
  fun alpha beta => ⟨by rw [h, nibblePair_nibbles, nibblePair_nibbles], hi _ _ _ _⟩

theorem encodes_word {f : Word → Instr}
    (h : ∀ word, encode (f word) = [opcode, codeHigh word, codeLow word] := by exact fun _ => rfl)
    (hi : ∀ word, (f word).encodable = true := by exact fun _ => rfl) :
    FirstByte.Encodes opcode (.opab fun a b => f (codeWord a b)) :=
  fun alpha beta => ⟨by rw [h, codeHigh_codeWord, codeLow_codeWord], hi _⟩

theorem encodes_a {i : Instr} (h : encode i = [0xF8, code] := by rfl) (hi : i.encodable = true := by rfl) :
    SecondByte.Encodes code (.a i) := ⟨h, hi⟩

theorem encodes_b {f : Byte → Instr} (h : ∀ alpha, encode (f alpha) = [0xF9, code, alpha] := by exact fun _ => rfl)
    (hi : ∀ alpha, (f alpha).encodable = true := by exact fun _ => rfl) : SecondByte.Encodes code (.b f) :=
  fun alpha => ⟨h alpha, hi alpha⟩

end

/-! ### The rows of the opcode map -/

/-- Each entry of a row has the property at its byte, the first at the byte `n`. -/
def RowHolds {α : Type} (P : Byte → α → Prop) (n : Nat) (row : List α) : Prop :=
  match row with
  | [] => True
  | e :: rest => P (BitVec.ofNat 8 n) e ∧ RowHolds P (n + 1) rest

theorem RowHolds.getD {α : Type} {P : Byte → α → Prop} {n : Nat} {row : List α} (h : RowHolds P n row) {k : Nat}
    (hk : k < row.length) (unlisted : α) : P (BitVec.ofNat 8 (n + k)) (row.getD k unlisted) := by
  induction row generalizing n k with
  | nil => exact absurd hk (Nat.not_lt_zero k)
  | cons e rest ih =>
    obtain ⟨he, hrest⟩ := h
    cases k with
    | zero => exact he
    | succ k =>
      rw [List.getD_cons_succ, show n + (k + 1) = n + 1 + k by omega]
      exact ih hrest (Nat.lt_of_succ_lt_succ hk)

theorem firstRow0_encodes : RowHolds FirstByte.Encodes 0x00 firstRow0 := by
  simp only [RowHolds, firstRow0]
  exact ⟨trivial, encodes_op, encodes_op, encodes_op, encodes_op, encodes_op, encodes_op, encodes_op, encodes_op,
    encodes_op, encodes_op, encodes_op, encodes_op, encodes_opa, encodes_op, encodes_op, trivial⟩

theorem firstRow1_encodes : RowHolds FirstByte.Encodes 0x10 firstRow1 := by
  simp only [RowHolds, firstRow1]
  exact ⟨encodes_op, encodes_op, encodes_op, encodes_op, encodes_op, encodes_op, encodes_op, encodes_op, encodes_opa,
    encodes_op, encodes_op, encodes_op, encodes_op, encodes_op, encodes_op, encodes_op, trivial⟩

theorem firstRow2_encodes : RowHolds FirstByte.Encodes 0x20 firstRow2 := by
  simp only [RowHolds, firstRow2]
  exact ⟨encodes_op, encodes_op, encodes_op, encodes_op, encodes_opa, encodes_op, encodes_op, encodes_op, encodes_op,
    encodes_op, encodes_op, encodes_op, encodes_op, encodes_op, encodes_op, encodes_op, trivial⟩

theorem firstRow3_encodes : RowHolds FirstByte.Encodes 0x30 firstRow3 := by
  simp only [RowHolds, firstRow3]
  exact ⟨encodes_op, encodes_opa, encodes_op, encodes_opa, encodes_op, encodes_op, encodes_op, encodes_opa,
    encodes_op, encodes_op, encodes_opa, encodes_opa, encodes_op, encodes_op, encodes_op, encodes_op, trivial⟩

theorem firstRow4_encodes : RowHolds FirstByte.Encodes 0x40 firstRow4 := by
  simp only [RowHolds, firstRow4]
  exact ⟨encodes_opa, encodes_op, encodes_opa, encodes_op, encodes_opa, encodes_op, encodes_opa, encodes_op,
    encodes_opa, encodes_opa, encodes_opa, encodes_opa, encodes_opa, encodes_op, encodes_opa, encodes_opa, trivial⟩

theorem firstRow5_encodes : RowHolds FirstByte.Encodes 0x50 firstRow5 := by
  simp only [RowHolds, firstRow5]
  exact ⟨encodes_opa, encodes_op, encodes_op, encodes_op, encodes_op, encodes_pair, encodes_pair, encodes_op,
    encodes_pair, encodes_pair, encodes_pair, encodes_pair, encodes_pair, encodes_pair, encodes_pair, encodes_opa,
    trivial⟩

theorem firstRow6_encodes : RowHolds FirstByte.Encodes 0x60 firstRow6 := by
  simp only [RowHolds, firstRow6]
  exact ⟨encodes_opa, encodes_opa, encodes_opa, encodes_pair, encodes_field, encodes_pair, encodes_field, encodes_op,
    encodes_pairField, encodes_pairField, encodes_pair, encodes_field, encodes_field, encodes_pair, encodes_pair,
    encodes_pair, trivial⟩

theorem firstRow7_encodes : RowHolds FirstByte.Encodes 0x70 firstRow7 := by
  simp only [RowHolds, firstRow7]
  exact ⟨encodes_field, encodes_field, encodes_op, encodes_opa, encodes_opa, encodes_opa, encodes_opa, encodes_opa,
    encodes_opa, encodes_op, encodes_opa, trivial, trivial, trivial, trivial, trivial, trivial⟩

theorem firstRow8_encodes : RowHolds FirstByte.Encodes 0x80 firstRow8 := by
  simp only [RowHolds, firstRow8]
  exact ⟨encodes_opa, encodes_op, encodes_op, encodes_op, encodes_op, encodes_op, encodes_op, encodes_op,
    encodes_opa, encodes_word, encodes_pair, encodes_opa, encodes_opab, encodes_pair, encodes_opa, encodes_opab,
    trivial⟩

theorem firstRow9_encodes : RowHolds FirstByte.Encodes 0x90 firstRow9 := by
  simp only [RowHolds, firstRow9]
  exact ⟨encodes_opa, encodes_opa, encodes_opa, encodes_opa, encodes_opa, encodes_opa, encodes_opa, encodes_opa,
    encodes_op, encodes_op, encodes_opa, encodes_op, encodes_op, encodes_opa, encodes_opa, encodes_opa, trivial⟩

theorem firstRowA_encodes : RowHolds FirstByte.Encodes 0xA0 firstRowA := by
  simp only [RowHolds, firstRowA]
  exact ⟨encodes_word, encodes_word, encodes_op, encodes_op, encodes_op, encodes_op, encodes_op, encodes_op,
    encodes_op, encodes_op, encodes_op, encodes_op, encodes_op, encodes_op, encodes_op, encodes_op, trivial⟩

theorem firstRowB_encodes : RowHolds FirstByte.Encodes 0xB0 firstRowB := by
  simp only [RowHolds, firstRowB]
  exact ⟨encodes_op, encodes_op, encodes_op, encodes_op, encodes_opa, encodes_op, encodes_op, encodes_op, encodes_op,
    encodes_op, encodes_op, encodes_opa, encodes_op, encodes_op, encodes_op, trivial, trivial⟩

theorem firstRowC_encodes : RowHolds FirstByte.Encodes 0xC0 firstRowC := by
  simp only [RowHolds, firstRowC]
  exact ⟨encodes_op, encodes_op, encodes_op, encodes_op, encodes_op, encodes_op, encodes_op, encodes_op, encodes_op,
    encodes_op, encodes_op, encodes_op, encodes_op, encodes_opa, encodes_word, encodes_opa, trivial⟩

theorem firstRowD_encodes : RowHolds FirstByte.Encodes 0xD0 firstRowD := by
  simp only [RowHolds, firstRowD]
  exact ⟨encodes_opa, encodes_op, encodes_op, encodes_op, encodes_op, encodes_op, encodes_op, encodes_op,
    encodes_opa, encodes_word, encodes_op, encodes_op, encodes_opa, encodes_word, trivial, encodes_op, trivial⟩

theorem firstRowE_encodes : RowHolds FirstByte.Encodes 0xE0 firstRowE := by
  simp only [RowHolds, firstRowE]
  exact ⟨encodes_op, encodes_op, encodes_op, encodes_op, encodes_op, encodes_op, encodes_op, encodes_op, encodes_op,
    encodes_op, encodes_op, encodes_op, encodes_opa, encodes_word, encodes_op, encodes_op, trivial⟩

theorem firstRowF_encodes : RowHolds FirstByte.Encodes 0xF0 firstRowF := by
  simp only [RowHolds, firstRowF]
  exact ⟨encodes_opa, encodes_op, encodes_op, encodes_op, encodes_op, encodes_op, encodes_op, encodes_op, rfl, rfl,
    trivial, trivial, trivial, trivial, trivial, trivial, trivial⟩

theorem secondRow0_encodes : RowHolds SecondByte.Encodes 0x00 secondRow0 := by
  simp only [RowHolds, secondRow0]
  exact ⟨trivial, trivial, encodes_a, encodes_a, encodes_a, encodes_a, encodes_a, encodes_a, encodes_a, encodes_a,
    encodes_a, encodes_a, encodes_a, encodes_a, encodes_a, encodes_a, trivial⟩

theorem secondRow1_encodes : RowHolds SecondByte.Encodes 0x10 secondRow1 := by
  simp only [RowHolds, secondRow1]
  exact ⟨encodes_a, encodes_a, encodes_a, encodes_a, encodes_a, encodes_a, encodes_a, encodes_a, encodes_a,
    encodes_a, encodes_a, encodes_b, encodes_a, encodes_a, encodes_b, encodes_b, trivial⟩

theorem secondRow2_encodes : RowHolds SecondByte.Encodes 0x20 secondRow2 := by
  simp only [RowHolds, secondRow2]
  exact ⟨encodes_b, encodes_b, encodes_b, encodes_b, encodes_a, encodes_a, encodes_a, encodes_a, encodes_a,
    encodes_a, encodes_a, encodes_a, encodes_a, encodes_a, encodes_a, encodes_a, trivial⟩

theorem secondRow3_encodes : RowHolds SecondByte.Encodes 0x30 secondRow3 := by
  simp only [RowHolds, secondRow3]
  exact ⟨encodes_a, encodes_a, encodes_a, encodes_a, trivial, trivial, trivial, trivial, trivial, trivial, trivial,
    trivial, trivial, trivial, trivial, trivial, trivial⟩

theorem secondRow4_encodes : RowHolds SecondByte.Encodes 0x40 secondRow4 := by
  simp only [RowHolds, secondRow4]
  exact ⟨encodes_a, encodes_a, encodes_a, encodes_a, encodes_a, encodes_a, encodes_a, encodes_a, encodes_a,
    encodes_a, encodes_a, encodes_a, encodes_a, encodes_a, encodes_a, encodes_a, trivial⟩

theorem secondRow5_encodes : RowHolds SecondByte.Encodes 0x50 secondRow5 := by
  simp only [RowHolds, secondRow5, SecondByte.Encodes, and_self]

theorem secondRow6_encodes : RowHolds SecondByte.Encodes 0x60 secondRow6 := by
  simp only [RowHolds, secondRow6]
  exact ⟨encodes_a, encodes_a, encodes_a, encodes_a, encodes_a, encodes_a, encodes_a, encodes_a, encodes_a,
    encodes_a, encodes_a, encodes_a, encodes_a, encodes_a, encodes_a, encodes_a, trivial⟩

theorem secondRow7_encodes : RowHolds SecondByte.Encodes 0x70 secondRow7 := by
  simp only [RowHolds, secondRow7]
  exact ⟨encodes_a, encodes_a, encodes_a, encodes_a, encodes_a, encodes_a, encodes_a, encodes_a, encodes_a,
    encodes_a, encodes_a, encodes_a, encodes_a, encodes_a, encodes_a, trivial, trivial⟩

theorem secondRow8_encodes : RowHolds SecondByte.Encodes 0x80 secondRow8 := by
  simp only [RowHolds, secondRow8]
  exact ⟨encodes_a, encodes_a, encodes_a, trivial, trivial, trivial, trivial, trivial, trivial, trivial, trivial,
    trivial, trivial, trivial, trivial, trivial, trivial⟩

theorem secondRow9_encodes : RowHolds SecondByte.Encodes 0x90 secondRow9 := by
  simp only [RowHolds, secondRow9, SecondByte.Encodes, and_self]

theorem secondRowA_encodes : RowHolds SecondByte.Encodes 0xA0 secondRowA := by
  simp only [RowHolds, secondRowA]
  exact ⟨encodes_a, trivial, trivial, trivial, trivial, trivial, trivial, trivial, trivial, trivial, trivial,
    trivial, trivial, trivial, trivial, trivial, trivial⟩

theorem secondRowB_encodes : RowHolds SecondByte.Encodes 0xB0 secondRowB := by
  simp only [RowHolds, secondRowB, SecondByte.Encodes, and_self]

theorem secondRowC_encodes : RowHolds SecondByte.Encodes 0xC0 secondRowC := by
  simp only [RowHolds, secondRowC, SecondByte.Encodes, and_self]

theorem secondRowD_encodes : RowHolds SecondByte.Encodes 0xD0 secondRowD := by
  simp only [RowHolds, secondRowD, SecondByte.Encodes, and_self]

theorem secondRowE_encodes : RowHolds SecondByte.Encodes 0xE0 secondRowE := by
  simp only [RowHolds, secondRowE, SecondByte.Encodes, and_self]

theorem secondRowF_encodes : RowHolds SecondByte.Encodes 0xF0 secondRowF := by
  simp only [RowHolds, secondRowF, SecondByte.Encodes, and_self]

/-- What holds of every entry of every row holds of the entry of every byte. -/
theorem rowEntry_holds {α : Type} {P : Byte → α → Prop} {rows : List (List α)} {unlisted : α}
    (hlen : ∀ j < 16, (rows.getD j []).length = 16) (h : ∀ j < 16, RowHolds P (16 * j) (rows.getD j [])) (b : Byte) :
    P b (rowEntry rows unlisted b) := by
  have hb := b.isLt
  have hj : b.toNat / 16 < 16 := by omega
  have hk : b.toNat % 16 < (rows.getD (b.toNat / 16) []).length := by rw [hlen _ hj]; omega
  have hrow := (h _ hj).getD hk unlisted
  rwa [Nat.div_add_mod, BitVec.ofNat_toNat, BitVec.setWidth_eq] at hrow

/-- Every first byte's entry decodes to what that byte encodes (30_encoding.md R178). -/
theorem firstEntry_encodes (opcode : Byte) : (firstEntry opcode).Encodes opcode := by
  refine rowEntry_holds (P := FirstByte.Encodes) (by decide) (fun j hj => ?_) opcode
  interval_cases j
  exacts [firstRow0_encodes, firstRow1_encodes, firstRow2_encodes, firstRow3_encodes, firstRow4_encodes,
    firstRow5_encodes, firstRow6_encodes, firstRow7_encodes, firstRow8_encodes, firstRow9_encodes, firstRowA_encodes,
    firstRowB_encodes, firstRowC_encodes, firstRowD_encodes, firstRowE_encodes, firstRowF_encodes]

/-- Every second byte's entry decodes to what that byte encodes behind its escape byte (30_encoding.md R179). -/
theorem secondEntry_encodes (code : Byte) : (secondEntry code).Encodes code := by
  refine rowEntry_holds (P := SecondByte.Encodes) (by decide) (fun j hj => ?_) code
  interval_cases j
  exacts [secondRow0_encodes, secondRow1_encodes, secondRow2_encodes, secondRow3_encodes, secondRow4_encodes,
    secondRow5_encodes, secondRow6_encodes, secondRow7_encodes, secondRow8_encodes, secondRow9_encodes,
    secondRowA_encodes, secondRowB_encodes, secondRowC_encodes, secondRowD_encodes, secondRowE_encodes,
    secondRowF_encodes]

/-! ### Encoding what was decoded -/

theorem encode_decodeEsc {bytes rest : List Byte} {i : Instr} (h : decodeEsc bytes = .instr i rest) :
    encode i ++ rest = 0xF8 :: bytes ∧ i.encodable = true := by
  cases bytes with
  | nil => exact nomatch h
  | cons code tail =>
    have ha := (assigned_secondEntry code).1
    have henc := secondEntry_encodes code
    simp only [decodeEsc, secondEntry_eq] at h
    revert h ha henc
    cases secondEntry code with
    | a j =>
      rintro - ⟨hj, hok⟩ ⟨rfl, rfl⟩
      exact ⟨by rw [hj]; rfl, hok⟩
    | b _ | free =>
      rintro ha - ⟨rfl, rfl⟩
      exact ⟨rfl, congrArg not ha.symm⟩

theorem encode_decodeEscl {bytes rest : List Byte} {i : Instr} (h : decodeEscl bytes = .instr i rest) :
    encode i ++ rest = 0xF9 :: bytes ∧ i.encodable = true := by
  cases bytes with
  | nil => exact nomatch h
  | cons code tail =>
    have hb := (assigned_secondEntry code).2
    have henc := secondEntry_encodes code
    simp only [decodeEscl, secondEntry_eq] at h
    revert h hb henc
    cases secondEntry code with
    | b f =>
      cases tail with
      | nil => exact fun _ _ h => nomatch h
      | cons alpha tail =>
        rintro - henc ⟨rfl, rfl⟩
        exact ⟨by rw [(henc alpha).1]; rfl, (henc alpha).2⟩
    | a _ | free =>
      rintro hb - ⟨rfl, rfl⟩
      exact ⟨rfl, congrArg not hb.symm⟩

/-- Settles O2. Each format of the first byte's entry takes just the bytes that the instruction's encoding holds. -/
theorem decodeThenEncode : Obligations.DecodeThenEncode := by
  intro bytes rest i h
  cases bytes with
  | nil => exact nomatch h
  | cons opcode tail =>
    have henc := firstEntry_encodes opcode
    simp only [decode, firstEntry_eq] at h
    revert h henc
    cases firstEntry opcode with
    | op j =>
      rintro ⟨hj, hok⟩ ⟨rfl, rfl⟩
      exact ⟨by rw [hj]; rfl, hok⟩
    | opa f =>
      cases tail with
      | nil => exact fun _ h => nomatch h
      | cons alpha tail =>
        rintro henc ⟨rfl, rfl⟩
        exact ⟨by rw [(henc alpha).1]; rfl, (henc alpha).2⟩
    | opab f =>
      match tail with
      | [] | [_] => exact fun _ h => nomatch h
      | alpha :: beta :: tail =>
        rintro henc ⟨rfl, rfl⟩
        exact ⟨by rw [(henc alpha beta).1]; rfl, (henc alpha beta).2⟩
    | escape => rintro rfl h; exact encode_decodeEsc h
    | escapeLong => rintro rfl h; exact encode_decodeEscl h
    | unassigned | reserved => exact fun _ h => nomatch h

/-- Settles O3. The six words use the formats of the tables: two operand bytes, a field specifier, each escape byte, a 16-bit operand
and a nibble pair. -/
theorem decodesSampleWords : Obligations.DecodesSampleWords := by
  unfold Obligations.DecodesSampleWords
  and_intros <;> decide

end Sys2Proof

namespace Sys2Proof

-- As in the tests: many kernel checks at once need more threads than a compile of the whole text may have.
set_option Elab.async false

/-! ### How far a decoding looks -/

theorem length_encode_le (i : Instr) : (encode i).length ≤ 3 := by
  cases i <;> exact Nat.le_of_ble_eq_true rfl

/-- An unassigned or reserved first byte: nothing else is looked at (30_encoding.md R173, R174). -/
def Decoded.refusesByte (d : Decoded) : Bool :=
  match d with
  | .unassigned _ | .reserved _ => true
  | .instr _ _ | .short => false

theorem decodeEsc_assigned (bytes : List Byte) : (decodeEsc bytes).refusesByte = false := by
  cases bytes with
  | nil => rfl
  | cons code tail =>
    simp only [decodeEsc, secondEntry_eq]
    cases secondEntry code <;> rfl

theorem decodeEscl_assigned (bytes : List Byte) : (decodeEscl bytes).refusesByte = false := by
  cases bytes with
  | nil => rfl
  | cons code tail =>
    simp only [decodeEscl, secondEntry_eq]
    cases secondEntry code with
    | b f => cases tail <;> rfl
    | a _ | free => rfl

/-- A decoding that refuses the first byte is the same whatever follows. -/
theorem decode_append_of_refused {bytes : List Byte} (more : List Byte) (h : (decode bytes).refusesByte = true) :
    decode (bytes ++ more) = decode bytes := by
  cases bytes with
  | nil => exact nomatch h
  | cons opcode tail =>
    simp only [List.cons_append, decode, firstEntry_eq] at h ⊢
    revert h
    cases firstEntry opcode with
    | unassigned | reserved => exact fun _ => rfl
    | op i => exact nofun
    | opa f => cases tail <;> exact nofun
    | opab f => match tail with | [] | [_] | _ :: _ :: _ => exact nofun
    | escape => exact fun h => nomatch (decodeEsc_assigned tail).symm.trans h
    | escapeLong => exact fun h => nomatch (decodeEscl_assigned tail).symm.trans h

/-- The bytes of one instruction: a proper beginning of them decodes to nothing yet (30_encoding.md R161). -/
theorem decode_take_short {bytes : List Byte} {i : Instr} (h : decode bytes = .instr i []) {k : Nat}
    (hk : k < bytes.length) : decode (bytes.take k) = .short := by
  have hsplit : bytes.take k ++ bytes.drop k = bytes := List.take_append_drop k bytes
  have hrefused : (decode (bytes.take k)).refusesByte = false := by
    by_contra hr
    have hsame := decode_append_of_refused (bytes.drop k) (by simpa using hr)
    rw [hsplit, h] at hsame
    rw [← hsame] at hr
    exact hr rfl
  match hd : decode (bytes.take k) with
  | .short => rfl
  | .unassigned op | .reserved op => rw [hd] at hrefused; exact nomatch hrefused
  | .instr j rest =>
    obtain ⟨hbytes, hok⟩ := decodeThenEncode _ _ _ hd
    have hlong : decode bytes = .instr j (rest ++ bytes.drop k) := by
      rw [← encodeThenDecode j _ hok, ← List.append_assoc, hbytes, hsplit]
    rw [h] at hlong
    injection hlong with _ hnil
    have hdrop := (List.append_eq_nil_iff.mp hnil.symm).2
    exact absurd (List.drop_eq_nil_iff.mp hdrop) (by omega)

end Sys2Proof

namespace Sys2Proof.Machine

-- As in the tests: many kernel checks at once need more threads than a compile of the whole text may have.
set_option Elab.async false

/-! ### The fetch of an instruction -/

/-- The code bytes from a byte offset on are the given ones, and can be loaded (30_encoding.md R164). -/
def State.holdsCode (s : State) (offset : Word) (bytes : List Byte) : Prop :=
  match bytes with
  | [] => True
  | b :: rest => s.canRead (s.codeWord (offset >>> 1)) = true ∧ s.codeByte offset = b ∧ s.holdsCode (offset + 1) rest

/-- The same, said of each byte by its number. -/
theorem holdsCode_of_bytes {s : State} {offset : Word} {bytes : List Byte}
    (hcode : (List.range bytes.length).map (fun k => s.codeByte (offset + BitVec.ofNat 16 k)) = bytes)
    (hread : ∀ k, k < bytes.length → s.canRead (s.codeWord ((offset + BitVec.ofNat 16 k) >>> 1)) = true) :
    s.holdsCode offset bytes := by
  induction bytes generalizing offset with
  | nil => trivial
  | cons b rest ih =>
    have hnext : ∀ k, offset + BitVec.ofNat 16 (k + 1) = offset + 1 + BitVec.ofNat 16 k := fun k => by
      rw [BitVec.ofNat_add, BitVec.add_assoc, BitVec.add_comm (BitVec.ofNat 16 k)]
      rfl
    rw [List.length_cons, List.range_succ_eq_map, List.map_cons, List.map_map] at hcode
    injection hcode with hb hrest
    refine ⟨by simpa using hread 0 (Nat.succ_pos _), by simpa using hb, ih ?_ fun k hk => ?_⟩
    · simpa only [Function.comp_def, Nat.succ_eq_add_one, hnext] using hrest
    · exact hnext k ▸ hread (k + 1) (Nat.succ_lt_succ hk)

/-- A turn in which no device acts. -/
theorem afterDevices_silent {s : State} (h : ∀ turn ∈ s.devices.take 1, turn = []) :
    s.afterDevices = { s with devices := s.devices.tail } := by
  cases hd : s.devices with
  | nil => rw [afterDevices_idle hd, List.tail_nil, ← hd]
  | cons turn rest =>
    obtain rfl : turn = [] := h turn (by rw [hd]; exact List.mem_singleton_self turn)
    rw [State.afterDevices, hd]
    rfl

theorem loaded_devices_update (s : State) (va : LongWord) (d : List (List DeviceAction)) :
    State.loaded { s with devices := d } va = { s.loaded va with devices := d } := by
  simp only [State.loaded, State.mark, State.writeMap, if_pos (pageOf_lt va)]
  rfl

/-- The state after a code byte is fetched: `PC` goes on by one, and the devices have had a turn in which they did nothing
(30_encoding.md R164). -/
def State.byteFetched (s : State) : State :=
  { s.loaded (s.codeWord (s.pc >>> 1)) with pc := s.pc + 1, devices := s.devices.tail }

theorem getCodeByte_run {s : State} (hd : ∀ turn ∈ s.devices.take 1, turn = [])
    (hr : s.canRead (s.codeWord (s.pc >>> 1)) = true) : getCodeByte s = .ok (s.codeByte s.pc) s.byteFetched := by
  have hturn : s.afterDevices = { s with devices := s.devices.tail } := afterDevices_silent hd
  have hread : readCode (s.pc >>> 1) s = .ok (s.wordAt (s.codeWord (s.pc >>> 1)))
      { s.loaded (s.codeWord (s.pc >>> 1)) with devices := s.devices.tail } :=
    (memRead_ok hturn hr).trans (by rw [loaded_devices_update]; rfl)
  unfold getCodeByte
  rw [getState_bind, bind_ok hread, update_bind]
  simp only [State.loaded_pc]
  rfl

/-- The operand of `XE` is fetched like any other byte where its fetch goes through (47_control_transfers.md R657). -/
theorem getNextByte_run {s t : State} {b : Byte} (bytes : List Byte) (h : getCodeByte s = .ok b t) :
    getNextByte bytes s = .ok b t := by
  unfold getNextByte
  split_ifs
  · exact noAbort_ok h
  · exact h

theorem byteFetched_canonical {s : State} (hc : s.mapCanonical = true) : s.byteFetched.mapCanonical = true :=
  loaded_canonical hc

/-- A fetched byte leaves the code as it was. -/
theorem holdsCode_byteFetched {s : State} (hc : s.mapCanonical = true) (h : s.canRead (s.codeWord (s.pc >>> 1)) = true)
    {offset : Word} {bytes : List Byte} (hcode : s.holdsCode offset bytes) : s.byteFetched.holdsCode offset bytes := by
  induction bytes generalizing offset with
  | nil => trivial
  | cons b rest ih =>
    obtain ⟨hr, hb, hrest⟩ := hcode
    have haddr : ∀ o, s.byteFetched.codeWord o = s.codeWord o := fun o => by
      simp [State.codeWord, State.byteFetched]
    refine ⟨?_, ?_, ih hrest⟩
    · rw [haddr]
      exact (canRead_loaded hc h _).trans hr
    · rw [State.codeByte, haddr, ← hb, State.codeByte, ← wordAt_loaded hc h]
      rfl

theorem fetched_devices_update (n : Nat) (s : State) (d : List (List DeviceAction)) :
    State.fetched { s with devices := d } n = { s.fetched n with devices := d } := by
  induction n generalizing s with
  | zero => rfl
  | succ n ih =>
    unfold State.fetched
    rw [loaded_devices_update, ← ih]
    rfl

/-- The state after `n` bytes are fetched in turns in which the devices did nothing. -/
def State.afterFetch (s : State) (n : Nat) : State := { s.fetched n with devices := s.devices.drop n }

theorem State.afterFetch_succ (s : State) (n : Nat) : s.byteFetched.afterFetch n = s.afterFetch (n + 1) := by
  have hfetched : s.byteFetched.fetched n = { s.fetched (n + 1) with devices := s.devices.tail } :=
    fetched_devices_update n { s.loaded (s.codeWord (s.pc >>> 1)) with pc := s.pc + 1 } s.devices.tail
  unfold State.afterFetch
  rw [hfetched, State.byteFetched, List.drop_tail]

theorem afterFetch_idle {s : State} (hd : s.devices = []) (n : Nat) : s.afterFetch n = s.fetched n := by
  have hsame := fetched_devices_update n s s.devices
  rw [State.afterFetch, hd, List.drop_nil, ← hd]
  exact hsame.symm

/-- Bytes that need no other: nothing is fetched (30_encoding.md R171). -/
theorem fetchMore_done {bytes : List Byte} (n : Nat) (s : State) (h : decode bytes ≠ .short) :
    fetchMore n bytes s = .ok (decode bytes) s := by
  cases n with
  | zero => rfl
  | succ n =>
    unfold fetchMore
    cases hd : decode bytes with
    | short => exact absurd hd h
    | instr _ _ | unassigned _ | reserved _ => rfl

/-- Bytes that need another: it is fetched. -/
theorem fetchMore_next {bytes : List Byte} (n : Nat) {s : State} (h : decode bytes = .short)
    (hd : ∀ turn ∈ s.devices.take 1, turn = []) (hr : s.canRead (s.codeWord (s.pc >>> 1)) = true) :
    fetchMore (n + 1) bytes s = fetchMore n (bytes ++ [s.codeByte s.pc]) s.byteFetched := by
  rw [fetchMore, h]
  exact bind_ok (getNextByte_run bytes (getCodeByte_run hd hr))

/-- The fetch of the bytes `more` that complete what `pre` begins, where each byte is wanted and no device acts
(30_encoding.md R162, R169, R171). -/
theorem fetchMore_run {more : List Byte} {n : Nat} {pre : List Byte} {s : State} (hn : more.length ≤ n)
    (hfull : decode (pre ++ more) ≠ .short) (hshort : ∀ k < more.length, decode (pre ++ more.take k) = .short)
    (hc : s.mapCanonical = true) (hcode : s.holdsCode s.pc more)
    (hd : ∀ turn ∈ s.devices.take more.length, turn = []) :
    fetchMore n pre s = .ok (decode (pre ++ more)) (s.afterFetch more.length) := by
  induction more generalizing n pre s with
  | nil =>
    rw [List.append_nil] at hfull ⊢
    exact fetchMore_done n s hfull
  | cons b more ih =>
    obtain ⟨n, rfl⟩ : ∃ m, n = m + 1 := ⟨n - 1, by rw [List.length_cons] at hn; omega⟩
    obtain ⟨hr, hb, hrest⟩ := hcode
    have hpre : decode pre = .short := by simpa using hshort 0 (Nat.succ_pos _)
    have hall : pre ++ b :: more = pre ++ [b] ++ more := List.append_cons pre b more
    have hshort' : ∀ k < more.length, decode (pre ++ [b] ++ more.take k) = .short := fun k hk => by
      rw [List.append_assoc]
      exact hshort (k + 1) (Nat.succ_lt_succ hk)
    have hd' : ∀ turn ∈ s.byteFetched.devices.take more.length, turn = [] := fun turn h => hd turn (by
      rw [State.byteFetched, ← List.drop_one, List.take_drop] at h
      exact List.mem_of_mem_drop (by rwa [Nat.add_comm] at h))
    rw [fetchMore_next n hpre (fun turn h => hd turn (List.take_subset_take_left _ (Nat.succ_pos _) h)) hr, hb, hall,
      ih (Nat.le_of_succ_le_succ hn) (hall ▸ hfull) hshort' (byteFetched_canonical hc)
        (holdsCode_byteFetched hc hr hrest) hd', State.afterFetch_succ]
    rfl

/-- What completes a beginning to one instruction is fetched whole (30_encoding.md R162, R169). -/
theorem fetchMore_instr {more : List Byte} {n : Nat} {pre : List Byte} {s : State} {i : Instr} (hn : more.length ≤ n)
    (hdecode : decode (pre ++ more) = .instr i []) (hc : s.mapCanonical = true) (hcode : s.holdsCode s.pc more)
    (hd : ∀ turn ∈ s.devices.take more.length, turn = []) :
    fetchMore n pre s = .ok (.instr i []) (s.afterFetch more.length) := by
  rw [← hdecode]
  refine fetchMore_run hn (by rw [hdecode]; exact nofun) (fun k hk => ?_) hc hcode hd
  have hshort := decode_take_short hdecode (k := pre.length + k) (by rw [List.length_append]; omega)
  rwa [List.take_length_add_append] at hshort

theorem holdsCode_marked {s : State} {offset : Word} {bytes : List Byte} (h : s.holdsCode offset bytes) :
    s.marked.holdsCode offset bytes := by
  induction bytes generalizing offset with
  | nil => trivial
  | cons b rest ih =>
    obtain ⟨hr, hb, hrest⟩ := h
    exact ⟨hr, hb, ih hrest⟩

/-- The fetch of an instruction from its first byte (30_encoding.md R169). -/
theorem beginExecute_instr {s : State} {i : Instr} (hc : s.mapCanonical = true) (henc : i.encodable = true)
    (hcode : s.holdsCode s.pc (encode i)) (hd : ∀ turn ∈ s.devices.take (encode i).length, turn = []) :
    beginExecute s = .ok (.instr i []) (s.marked.afterFetch (encode i).length) := by
  have hdecode : decode ([] ++ encode i) = .instr i [] := by simpa using encodeThenDecode i [] henc
  exact fetchMore_instr (s := s.marked) (length_encode_le i) hdecode hc (holdsCode_marked hcode) hd

/-! ### The step of a running machine with interrupts disabled -/

/-- With interrupts disabled the checks of the main loop find nothing (60_exceptions.md R802, R804, R812). -/
theorem checkEvents_disabled {s : State} (h : s.wdc ≠ 0) : checkEvents s = .ok false s := by
  unfold checkEvents
  rw [bind_ok (checkForInterrupts_disabled h), bind_ok (checkForTimeouts_disabled h)]
  rfl

theorem step_disabled {r s : State} (hs : r.afterDevices = s) (hb : s.booted = true) (hr : s.running = true)
    (hw : s.wdc ≠ 0) : step r = execute s := by
  rw [step, hs, processorStep, if_pos hb, iterate, checkEvents_disabled hw]
  simp only [hr, if_true, Bool.false_eq_true, if_false]

/-- Settles O4. -/
theorem stepRunsDecodedInstruction : Obligations.StepRunsDecodedInstruction := by
  intro r s i hc henc hbytes hread hd t ht
  have hfetch := beginExecute_instr hc henc (holdsCode_of_bytes hbytes hread) hd
  have hexec : execute s = exec i t := by
    rw [execute, hfetch, ht]
    rfl
  exact ⟨hexec, fun hs hb hr hw => (step_disabled hs hb hr hw).trans hexec⟩

/-- `Execute` where the first byte alone decides: it is fetched, and nothing after it (30_encoding.md R173, R174). -/
theorem execute_firstByte {s : State} (hr : s.canRead (s.codeWord (s.pc >>> 1)) = true)
    (hd : ∀ turn ∈ s.devices.take 1, turn = []) (h : decode [s.codeByte s.pc] ≠ .short) :
    execute s = executeDecoded (decode [s.codeByte s.pc]) (s.marked.afterFetch 1) := by
  have hfetch : beginExecute s = .ok (decode [s.codeByte s.pc]) (s.marked.afterFetch 1) := by
    refine (fetchMore_next 2 (s := s.marked) (bytes := []) rfl hd hr).trans ((fetchMore_done 2 _ h).trans ?_)
    rw [← State.afterFetch_succ s.marked 0]
    rfl
  rw [execute, hfetch]

/-- Settles O5. -/
theorem stepTrapsUnassignedOpcode : Obligations.StepTrapsUnassignedOpcode := by
  intro r s hs hb hrun hw hr hd
  rw [step_disabled hs hb hrun hw]
  refine ⟨fun h => ?_, fun h => ?_⟩
  · rw [execute_firstByte hr hd (by rw [h]; exact nofun), h, State.afterFetch, State.marked_devices, List.drop_one]
    rfl
  · have hreserved : decode [s.codeByte s.pc] = .reserved (s.codeByte s.pc) := by
      rcases h with h | h <;> rw [h] <;> rfl
    rw [execute_firstByte hr hd (by rw [hreserved]; exact nofun), hreserved]
    rfl

/-! ### What a routine does to the registers and to memory, whatever flags its accesses set in the map -/

/-- The registers of a state with a map and a memory from elsewhere. -/
def State.withMemory (r : State) (map : List (Nat × MapEntry)) (mem : List Host.Cell) : State :=
  { r with map := map, mem := mem }

section

variable {s : State} {map : List (Nat × MapEntry)} (hs : s.sameAccess map) (r : State) (mem : List Host.Cell)
  (va : LongWord)
include hs

/-- Where the map's flags alone differ, an access goes as it does in `s`, whatever the registers and memory are. -/
theorem translate_withMemory (op : Access) : (r.withMemory map mem).translate va op = s.translate va op :=
  (hs.1 va op).symm

theorem canRead_withMemory : (r.withMemory map mem).canRead va = s.canRead va :=
  congrArg Except.isOk (translate_withMemory hs r mem va .read)

theorem canWrite_withMemory : (r.withMemory map mem).canWrite va = s.canWrite va :=
  congrArg Except.isOk (translate_withMemory hs r mem va .write)

theorem realAddress_withMemory : (r.withMemory map mem).realAddress va = s.realAddress va := by
  unfold State.realAddress
  rw [translate_withMemory hs]

theorem wordAt_withMemory : (r.withMemory map mem).wordAt va = readReal mem (s.realAddress va) := by
  rw [State.wordAt, realAddress_withMemory hs]
  rfl

theorem canonical_withMemory : (r.withMemory map mem).mapCanonical = true := hs.2

theorem sameAccess_withMemory {map' : List (Nat × MapEntry)} (h : (r.withMemory map mem).sameAccess map') :
    s.sameAccess map' := sameAccess_trans hs h

end

theorem State.loaded_withMemory (r : State) (map : List (Nat × MapEntry)) (mem : List Host.Cell) (va : LongWord) :
    (r.withMemory map mem).loaded va = r.withMemory ((r.withMemory map mem).loaded va).map mem :=
  (r.withMemory map mem).loaded_eq va

theorem State.stored_withMemory (r : State) (map : List (Nat × MapEntry)) (mem : List Host.Cell) (va : LongWord) (v : Word) :
    (r.withMemory map mem).stored va v = r.withMemory ((r.withMemory map mem).mark va .write).map
      (writeReal mem ((r.withMemory map mem).realAddress va) v) :=
  (r.withMemory map mem).stored_eq va v

theorem sameAccess_stored {s : State} {va : LongWord} (hc : s.mapCanonical = true) (h : s.canWrite va = true) :
    s.sameAccess (s.mark va .write).map :=
  ⟨fun va' op => (translate_mark hc (translate_of_canWrite h) va' op).symm, mark_canonical hc⟩

theorem sameAccess_self {s : State} (hc : s.mapCanonical = true) : s.sameAccess s.map := ⟨fun _ _ => rfl, hc⟩

/-- From the registers of `r` and a memory with `P` the routine ends with the value `a`, the registers of `r'` and a memory
with `P'`. Before and after, the map differs from that of `s` in flags that no access looks at (20_memory.md R110). -/
def State.Ends {α : Type} (s : State) (P : List Host.Cell → Prop) (m : M α) (r : State) (a : α) (r' : State)
    (P' : List Host.Cell → Prop) : Prop :=
  ∀ map mem, s.sameAccess map → P mem → ∃ map' mem',
    m (r.withMemory map mem) = .ok a (r'.withMemory map' mem') ∧ s.sameAccess map' ∧ P' mem'

section

variable {α β : Type} {s r r1 r2 : State} {P P1 P2 : List Host.Cell → Prop} {a : α} {b : β}

theorem ends_pure (a : α) : s.Ends P (pure a) r a r P := fun map mem hs hP => ⟨map, mem, rfl, hs, hP⟩

theorem ends_bind {m : M α} {f : α → M β} (hm : s.Ends P m r a r1 P1) (hf : s.Ends P1 (f a) r1 b r2 P2) :
    s.Ends P (m >>= f) r b r2 P2 := by
  intro map mem hs hP
  obtain ⟨map1, mem1, hrun1, hs1, hP1⟩ := hm map mem hs hP
  obtain ⟨map2, mem2, hrun2, hs2, hP2⟩ := hf map1 mem1 hs1 hP1
  exact ⟨map2, mem2, (bind_ok hrun1).trans hrun2, hs2, hP2⟩

/-- A routine that begins with a look at the state: its registers are those of `r`. -/
theorem ends_getState {f : State → M β} (hf : ∀ map mem, s.Ends P (f (r.withMemory map mem)) r b r1 P1) :
    s.Ends P (getState >>= f) r b r1 P1 := by
  intro map mem hs hP
  rw [getState_bind]
  exact hf map mem map mem hs hP

/-- A change of registers. -/
theorem ends_update {f : State → State}
    (hf : ∀ map mem, f (r.withMemory map mem) = (f r).withMemory map mem := by exact fun _ _ => rfl) :
    s.Ends P (update f) r () (f r) P :=
  fun map mem hs hP => ⟨map, mem, congrArg _ (hf map mem), hs, hP⟩

theorem ends_noAbort {m : M α} (refusal : Refusal) (hm : s.Ends P m r a r1 P1) :
    s.Ends P (noAbort refusal m) r a r1 P1 := by
  intro map mem hs hP
  obtain ⟨map', mem', hrun, h⟩ := hm map mem hs hP
  exact ⟨map', mem', noAbort_ok hrun, h⟩

/-- It is enough to look at each memory with `P` alone. -/
theorem ends_of_exact {m : M α} (h : ∀ mem, P mem → s.Ends (· = mem) m r a r1 P1) : s.Ends P m r a r1 P1 :=
  fun map mem hs hP => h mem hP map mem hs rfl

/-! ### The accesses -/

variable {va : LongWord} {p v : Word}

theorem ends_memRead (hd : r.devices = []) (hr : s.canRead va = true)
    (hv : ∀ mem, P mem → readReal mem (s.realAddress va) = v) : s.Ends P (memRead va) r v r P := by
  intro map mem hs hP
  have hr' := (canRead_withMemory hs r mem va).trans hr
  have hrun := memRead_run (s := r.withMemory map mem) hd hr'
  rw [wordAt_withMemory hs, hv mem hP, State.loaded_withMemory] at hrun
  exact ⟨_, mem, hrun, sameAccess_withMemory hs r mem (sameAccess_loaded hs.2 hr'), hP⟩

theorem ends_memWrite (hd : r.devices = []) (hw : s.canWrite va = true)
    (hP : ∀ mem, P mem → P1 (writeReal mem (s.realAddress va) v)) : s.Ends P (memWrite va v) r () r P1 := by
  intro map mem hs hmem
  have hw' := (canWrite_withMemory hs r mem va).trans hw
  have hrun := memWrite_run (s := r.withMemory map mem) v hd hw'
  rw [State.stored_withMemory, realAddress_withMemory hs] at hrun
  exact ⟨_, _, hrun, sameAccess_withMemory hs r mem (sameAccess_stored hs.2 hw'), hP mem hmem⟩

theorem ends_memReadMds (hd : r.devices = []) (hr : s.canRead (r.lengthen p) = true)
    (hv : ∀ mem, P mem → readReal mem (s.realAddress (r.lengthen p)) = v) : s.Ends P (memReadMds p) r v r P :=
  ends_getState fun _ _ => ends_memRead hd hr hv

theorem ends_memWriteMds (hd : r.devices = []) (hw : s.canWrite (r.lengthen p) = true)
    (hP : ∀ mem, P mem → P1 (writeReal mem (s.realAddress (r.lengthen p)) v)) :
    s.Ends P (memWriteMds p v) r () r P1 :=
  ends_getState fun _ _ => ends_memWrite hd hw hP

theorem ends_readDbl {long : LongWord} (hd : r.devices = []) (hlow : s.canRead va = true)
    (hhigh : s.canRead (va + 1) = true)
    (hv : ∀ mem, P mem → mkLong (readReal mem (s.realAddress va)) (readReal mem (s.realAddress (va + 1))) = long) :
    s.Ends P (readDbl va) r long r P := by
  refine ends_of_exact fun mem hP => ?_
  have hrun : s.Ends (· = mem) (readDbl va) r
      (mkLong (readReal mem (s.realAddress va)) (readReal mem (s.realAddress (va + 1)))) r (· = mem) :=
    ends_bind (ends_memRead hd hlow fun m hm => by rw [hm])
      (ends_bind (ends_memRead hd hhigh fun m hm => by rw [hm]) (ends_pure _))
  rw [hv mem hP] at hrun
  intro map m hs hm
  obtain ⟨map', _, h, hs', rfl⟩ := hrun map m hs hm
  exact ⟨map', _, h, hs', hP⟩

theorem ends_readDblMds {long : LongWord} (hd : r.devices = []) (hlow : s.canRead (r.lengthen p) = true)
    (hhigh : s.canRead (r.lengthen p + 1) = true)
    (hv : ∀ mem, P mem →
      mkLong (readReal mem (s.realAddress (r.lengthen p))) (readReal mem (s.realAddress (r.lengthen p + 1))) = long) :
    s.Ends P (readDblMds p) r long r P :=
  ends_getState fun _ _ => ends_readDbl hd hlow hhigh hv

end

/-! ### Transfers through a frame link -/

/-- What a frame holds depends on the translation, on memory and on `MDS`. -/
theorem hasFrame_congr {s t : State} (htrans : s.sameTranslation t) (hmem : t.mem = s.mem) (hmds : t.mds = s.mds)
    {frame gf pc : Word} {cb : LongWord} (h : s.hasFrame frame gf cb pc) : t.hasFrame frame gf cb pc := by
  have hlen : ∀ p, t.lengthen p = s.lengthen p := fun p => by rw [State.lengthen, hmds]; rfl
  have hword : ∀ va, t.wordAt va = s.wordAt va := fun va => (wordAt_congr htrans hmem.symm va).symm
  have hread : ∀ va, t.canRead va = s.canRead va := fun va => by rw [State.canRead, ← htrans va .read]; rfl
  simpa only [State.hasFrame, State.canReadAll, State.longAt, hlen, hword, hread] using h

section

variable {s r r1 : State} {P P1 : List Host.Cell → Prop} {dst link : LongWord} {src frame gf pc : Word} {cb : LongWord}
  {type : XferType}

/-- In a memory with `P` the global frame has the even code base `cb` (47_control_transfers.md R610, R611). -/
theorem ends_loadCodeBase (hd : r.devices = []) (hlow : s.canRead (r.lengthen (gf - 2)) = true)
    (hhigh : s.canRead (r.lengthen (gf - 2) + 1) = true) (heven : cb.getLsbD 0 = false)
    (hv : ∀ mem, P mem → mkLong (readReal mem (s.realAddress (r.lengthen (gf - 2))))
      (readReal mem (s.realAddress (r.lengthen (gf - 2) + 1))) = cb) :
    s.Ends P (loadCodeBase gf) r () { r with cb := cb } P := by
  refine ends_bind (ends_readDblMds hd hlow hhigh hv) (ends_bind (ends_update (f := fun s => { s with cb := cb })) ?_)
  rw [if_neg (by rw [heven]; decide)]
  exact ends_pure ()

/-- In the MDS of `r` and every memory with `P`, `frame` holds the given context (47_control_transfers.md R610). -/
def State.framedIn (s : State) (P : List Host.Cell → Prop) (mds frame gf : Word) (cb : LongWord) (pc : Word) : Prop :=
  ∀ mem, P mem → State.hasFrame { s with mds := mds, mem := mem } frame gf cb pc

/-- The frame arm of `XFER` loads `GF` and `CB` from the frame, and then does what a trap does besides, or no more
(47_control_transfers.md R610). -/
theorem ends_xferFrame_context (hd : r.devices = []) (hf : s.framedIn P r.mds (lowHalf link) gf cb pc)
    (htail : ∀ mem, P mem → s.Ends (· = mem) (if type = .trap then do
        memWriteMds (lowHalf link - 3) src
        update fun s => { s with wdc := s.wdc + 1 }
        pure (lowHalf link, pc)
      else pure (lowHalf link, pc)) { r with gf := gf, cb := cb } (lowHalf link, pc) r1 P1) :
    s.Ends P (xferFrame dst link src type) r (lowHalf link, pc) r1 P1 := by
  refine ends_of_exact fun mem hP => ?_
  obtain ⟨hframe, -, hgf, hpc, heven, hreads, hgfAt, hcbAt, hpcAt⟩ := hf mem hP
  simp only [State.canReadAll, List.all_cons, List.all_nil, Bool.and_true, Bool.and_eq_true] at hreads
  obtain ⟨hrGf, hrLow, hrHigh, hrPc⟩ := hreads
  unfold xferFrame
  dsimp only
  rw [if_neg hframe]
  refine ends_bind (ends_memReadMds hd hrGf fun m hm => hm ▸ hgfAt) ?_
  refine ends_bind (ends_update (f := fun s => { s with gf := gf })) ?_
  rw [if_neg hgf]
  refine ends_bind (ends_loadCodeBase hd hrLow hrHigh heven fun m hm => hm ▸ hcbAt) ?_
  refine ends_bind (ends_memReadMds hd hrPc fun m hm => hm ▸ hpcAt) ?_
  rw [if_neg hpc]
  exact htail mem hP

/-- The frame arm for a transfer that is no trap. -/
theorem ends_xferFrame (hd : r.devices = []) (hf : s.framedIn P r.mds (lowHalf link) gf cb pc) (ht : type ≠ .trap) :
    s.Ends P (xferFrame dst link src type) r (lowHalf link, pc) { r with gf := gf, cb := cb } P := by
  refine ends_xferFrame_context hd hf fun mem hP => ?_
  rw [if_neg ht]
  rintro map _ hs rfl
  exact ⟨map, _, rfl, hs, hP⟩

/-- The frame arm for a trap: the return link is set, and interrupts are disabled once more (60_exceptions.md R765). -/
theorem ends_xferFrame_trap (hd : r.devices = []) (hf : s.framedIn P r.mds (lowHalf link) gf cb pc)
    (hw : s.canWrite (r.lengthen (lowHalf link - 3)) = true)
    (hP1 : ∀ mem, P mem → P1 (writeReal mem (s.realAddress (r.lengthen (lowHalf link - 3))) src)) :
    s.Ends P (xferFrame dst link src .trap) r (lowHalf link, pc) { r with gf := gf, cb := cb, wdc := r.wdc + 1 } P1 := by
  refine ends_xferFrame_context hd hf fun mem hP => ?_
  rw [if_pos rfl]
  exact ends_bind (ends_memWriteMds hd hw fun m hm => hm ▸ hP1 mem hP)
    (ends_bind (ends_update (f := fun s => { s with wdc := s.wdc + 1 })) (ends_pure _))

/-- `XFER` through a frame link: what its frame arm does, and then the new context, where no xfer trap is due
(47_control_transfers.md R610, 60_exceptions.md R790). -/
theorem ends_xfer_of_frame (hlink : lowHalf dst &&& 3 = 0)
    (harm : s.Ends P (xferFrame dst dst src type) r (lowHalf dst, pc) r1 P1) (hx : r1.xts.getLsbD 0 = false) :
    s.Ends P (xfer dst src type false) r () { r1 with lf := lowHalf dst, pc := pc, xts := r1.xts >>> 1 } P1 := by
  have htype : controlLinkType dst = .frame := controlLinkType_frame hlink
  have hresolve : s.Ends P (resolveLink 16385 type dst false) r (dst, false) r P := fun map mem hs hP =>
    ⟨map, mem, resolveLink_direct (by rw [htype]; decide), hs, hP⟩
  have hcheck : ∀ r2 : State, r2.xts.getLsbD 0 = false →
      s.Ends P1 (checkForXferTraps dst type) r2 () { r2 with xts := r2.xts >>> 1 } P1 := fun r2 hx2 map mem hs hP =>
    ⟨map, mem, checkForXferTraps_off hx2, hs, hP⟩
  unfold xfer
  refine ends_bind hresolve ?_
  dsimp only
  rw [if_neg (by rw [htype]; decide)]
  refine ends_bind harm (ends_getState fun _ _ => ?_)
  exact ends_bind (ends_update (f := fun s => { s with lf := lowHalf dst, pc := pc })) (hcheck _ hx)

/-! ### Traps -/

/-- `savePC` with a valid context (48_process_instructions.md R721, R722). -/
theorem ends_savePC (hd : r.devices = []) (hpc : 8 ≤ r.pc.toNat) (hw : s.canWrite (r.lengthen (r.lf - 1)) = true)
    (hP1 : ∀ mem, P mem → P1 (writeReal mem (s.realAddress (r.lengthen (r.lf - 1))) r.pc)) :
    s.Ends P savePC r () r P1 := by
  refine ends_getState fun map mem => ?_
  have hvalid : (r.withMemory map mem).validContext = true := decide_eq_true hpc
  rw [if_pos hvalid]
  exact ends_memWriteMds hd hw hP1

end

/-- The registers after a trap is taken: those of the handler's context, with `SP` as the instruction found it and interrupts
disabled once more. -/
def State.handler (s : State) (frame gf : Word) (cb : LongWord) (pc : Word) : State :=
  { s with lf := frame, gf := gf, cb := cb, pc := pc, sp := s.savedSP, xts := s.xts >>> 1, wdc := s.wdc + 1 }

/-- The stores a trap makes before its parameters: the trapped `PC`, and the handler's return link (60_exceptions.md R765). -/
def State.trapStores (s : State) (frame : Word) : List (LongWord × Word) :=
  [(s.lengthen (s.lf - 1), s.savedPC), (s.lengthen (frame - 3), s.lf)]

/-- Memory after stores at virtual addresses, in order. -/
def State.memoryWith (s : State) (stores : List (LongWord × Word)) : List Host.Cell :=
  storesAt s.mem (stores.map fun p => (s.realAddress p.1, p.2))

/-- `Trap` to a handler whose table entry is a frame link (60_exceptions.md R765). -/
theorem ends_trap {s : State} {entry frame gf pc : Word} {cb : LongWord} (hd : s.devices = [])
    (hc : s.mapCanonical = true) (h : s.trapReady entry frame gf cb pc) :
    s.Ends (· = s.mem) (trap entry) s () (s.handler frame gf cb pc) (· = s.memoryWith (s.trapStores frame)) := by
  obtain ⟨hpc, hx, hreads, hlink, hwrites, hframe⟩ := h
  simp only [State.canReadAll, State.canWriteAll, List.all_cons, List.all_nil, Bool.and_true, Bool.and_eq_true] at hreads hwrites
  obtain ⟨hlow, hhigh⟩ := hreads
  obtain ⟨hwPc, hwLink⟩ := hwrites
  have hload : s.Ends (· = s.mem) (readDblMds entry) s (s.longAt (s.lengthen entry)) s (· = s.mem) :=
    ends_readDblMds hd hlow hhigh fun m hm => by rw [hm]; rfl
  have hframed : (s.framedIn (· = s.memoryWith [(s.lengthen (s.lf - 1), s.savedPC)]) s.mds frame gf cb pc) := by
    rintro _ rfl
    exact hasFrame_congr (s := s.stored (s.lengthen (s.lf - 1)) s.savedPC) 
      (t := { s with mem := s.memoryWith [(s.lengthen (s.lf - 1), s.savedPC)] })
      (fun va op => translate_stored hc hwPc va op) rfl
      (State.stored_mds s (s.lengthen (s.lf - 1)) s.savedPC).symm hframe
  subst hlink
  unfold trap
  refine ends_bind hload (ends_bind (ends_update (f := fun s => { s with pc := s.savedPC, sp := s.savedSP })) ?_)
  refine ends_bind (ends_savePC (P1 := (· = s.memoryWith [(s.lengthen (s.lf - 1), s.savedPC)])) hd hpc hwPc
    fun m hm => by rw [hm]; rfl) (ends_getState fun _ _ => ?_)
  have harm := ends_xferFrame_trap (dst := s.longAt (s.lengthen entry))
    (r := { s with pc := s.savedPC, sp := s.savedSP }) (src := s.lf)
    (P1 := (· = s.memoryWith (s.trapStores (lowHalf (s.longAt (s.lengthen entry)))))) hd hframed hwLink fun m hm => by
      rw [hm]
      rfl
  obtain ⟨-, htag, -⟩ := hframe
  exact ends_xfer_of_frame htag harm hx

/-- What a trap's taking leaves is a trap taken, with its parameters stored. -/
theorem deliver_trapped {s : State} {a : Abort} {frame gf pc : Word} {cb : LongWord} {parameters : List Word}
    (hc : s.mapCanonical = true) (ha : a.isTrap = true)
    (h : s.Ends (· = s.mem) (takeTrap a) s () (s.handler frame gf cb pc) (· = s.memoryWith (s.trapStores frame
      ++ (List.range parameters.length).map fun k =>
        (s.lengthen (frame + BitVec.ofNat 16 k), parameters.getD k 0)))) :
    ∃ t, deliver a s = .next t ∧ s.trapped t frame gf cb pc parameters := by
  obtain ⟨map, mem, hrun, hmap, hmem⟩ := h s.map s.mem (sameAccess_self hc) rfl
  refine ⟨_, deliver_trap ha hrun, ⟨rfl, rfl, rfl, rfl, rfl, rfl, ?_, ?_, hmem⟩, rfl, rfl⟩
  · simp only [State.sameProcess, State.withMemory, State.handler, and_self]
  · exact fun va op => (translate_withMemory hmap _ mem va op).symm

/-- A trap without a parameter (60_exceptions.md R764). -/
theorem deliver_trapZero {s : State} {entry frame gf pc : Word} {cb : LongWord} (hd : s.devices = [])
    (hc : s.mapCanonical = true) (h : s.trapReady entry frame gf cb pc) :
    ∃ t, deliver (.trapZero entry) s = .next t ∧ s.trapped t frame gf cb pc [] :=
  deliver_trapped hc rfl (ends_trap hd hc h)

/-- A trap with one parameter, which the handler finds in its first local (60_exceptions.md R764, R766). -/
theorem deliver_trapOne {s : State} {entry frame gf pc p : Word} {cb : LongWord} (hd : s.devices = [])
    (hc : s.mapCanonical = true) (h : s.trapReady entry frame gf cb pc) (hw : s.canWrite (s.lengthen frame) = true) :
    ∃ t, deliver (.trapOne entry p) s = .next t ∧ s.trapped t frame gf cb pc [p] := by
  have hlocal : (s.handler frame gf cb pc).lengthen (frame + 0) = s.lengthen frame := by rw [add_zero]; rfl
  refine deliver_trapped hc rfl (ends_bind (ends_trap hd hc h) (ends_getState fun _ _ => ?_))
  refine ends_memWriteMds hd (hlocal ▸ hw : s.canWrite ((s.handler frame gf cb pc).lengthen (frame + 0)) = true)
    fun m hm => ?_
  rw [hm]
  rfl

/-- Settles O47. The bytes after the break byte are the ones its instruction wants, so the fetch takes just these. -/
theorem breakpoint : Obligations.Breakpoint := by
  intro s frame gf cb pc hc
  refine ⟨fun hd hbrk hready => ?_, fun rest i hd hbrk hdecode hbytes hread => ?_, fun i hi => exec_eq_run_dispatch hi s⟩
  · have hexec : exec .brk s = deliver breakTrap s := run_error (by rw [doBrk, getState_bind, if_pos hbrk, breakTrap]; rfl)
    rw [hexec]
    exact deliver_trapZero hd hc hready
  · have hlen : rest.length ≤ 2 := by
      have := length_encode_le i
      have henc := (decodeThenEncode _ _ _ hdecode).1
      rw [List.append_nil] at henc
      rw [henc, List.length_cons] at this
      omega
    have hfetch : fetchMore 2 [s.brk] s = .ok (.instr i []) (s.fetched rest.length) := by
      rw [fetchMore_instr (pre := [s.brk]) hlen hdecode hc (holdsCode_of_bytes hbytes hread) (by simp [hd]),
        afterFetch_idle hd]
    have hbrk' : doBrk s = (dispatch i >>= fun _ => update fun s => { s with brk := 0 }) (s.fetched rest.length) := by
      rw [doBrk, getState_bind, if_neg hbrk, bind_ok hfetch]
      rfl
    refine ⟨fun t ht => run_ok ?_, fun a t ht => run_error ?_⟩
    · rw [hbrk', bind_ok ht]
      rfl
    · rw [hbrk', bind_error ht]

/-- Settles O49. Each of the instructions raises `EscOpcodeTrap` with its second byte. -/
theorem unimplementedEscapesTrap : Obligations.UnimplementedEscapesTrap := by
  intro code s frame gf cb pc hd hc hw p hp hready
  have hexec : exec p.1 s = deliver (escOpcodeTrap p.2) s := by
    clear hready
    revert p
    simp only [List.forall_mem_cons, List.not_mem_nil, false_imp_iff, implies_true, and_true]
    and_intros <;> rfl
  rw [hexec]
  exact deliver_trapOne hd hc hready hw

/-! ### Transfers to a procedure -/

theorem ends_memWriteMds_exact {s r : State} {mem : List Host.Cell} {p : Word} (v : Word) (hd : r.devices = [])
    (hw : s.canWrite (r.lengthen p) = true) :
    s.Ends (· = mem) (memWriteMds p v) r () r (· = writeReal mem (s.realAddress (r.lengthen p)) v) :=
  ends_memWriteMds hd hw fun m hm => by rw [hm]

/-- A link with its lowest bit set is a procedure descriptor (47_control_transfers.md R591). -/
theorem controlLinkType_procedure {link : LongWord} (h : link.getLsbD 0 = true) : controlLinkType link = .procedure := by
  have hbit : (link.extractLsb' 0 2).getLsbD 0 = true := by simpa using h
  have hzero : link.extractLsb' 0 2 ≠ 0#2 := fun he => by rw [he] at hbit; exact absurd hbit (by decide)
  have htwo : link.extractLsb' 0 2 ≠ 2#2 := fun he => by rw [he] at hbit; exact absurd hbit (by decide)
  rw [controlLinkType, if_neg hzero, if_neg htwo]

section

variable {s r : State} {P P1 : List Host.Cell → Prop} {dst link : LongWord} {src gf pc slot frame next fsi : Word}
  {cb : LongWord}

/-- `Alloc` with a frame at the head of the free list (47_control_transfers.md R599). -/
theorem ends_alloc {mem : List Host.Cell} (hd : r.devices = []) (hw : s.canWrite (r.lengthen (avEntry fsi)) = true)
    (hr : s.canRead (r.lengthen frame) = true) (htag : frame &&& 3 = 0)
    (hitem : readReal mem (s.realAddress (r.lengthen (avEntry fsi))) = frame)
    (hnext : readReal mem (s.realAddress (r.lengthen frame)) = next) :
    s.Ends (· = mem) (alloc fsi) r frame r
      (· = writeReal mem (s.realAddress (r.lengthen (avEntry fsi))) next) := by
  have hfind : s.Ends (· = mem) (findFrame 257 fsi) r (fsi, frame) r (· = mem) := by
    unfold findFrame
    refine ends_bind (ends_memReadMds hd (canRead_of_canWrite hw) fun m hm => by rw [hm, hitem]) ?_
    rw [htag, if_neg (by decide)]
    exact ends_pure _
  unfold alloc
  refine ends_bind hfind ?_
  dsimp only
  rw [htag, if_neg (by decide), if_neg (by decide)]
  refine ends_bind (ends_memReadMds hd hr fun m hm => by rw [hm, hnext]) ?_
  exact ends_bind (ends_memWriteMds_exact next hd hw) (ends_pure _)

/-- The stores of a procedure's entry: the free list's new head and the frame's two links (47_control_transfers.md R599,
R610). -/
def State.entryStores (s : State) (slot next frame gf src : Word) : List (LongWord × Word) :=
  [(s.lengthen slot, next), (s.lengthen (frame - 2), gf), (s.lengthen (frame - 3), src)]

/-- The procedure arm of `XFER` (47_control_transfers.md R610). -/
theorem ends_xferProcedure (hd : s.devices = []) (hgf : gf = lowHalf link &&& 0xFFFE) (hm : s.hasModule gf cb)
    (hb : s.hasBody cb (highHalf link) slot frame next) :
    s.Ends (· = s.mem) (xferProcedure dst link src) s (frame, highHalf link + 1) { s with gf := gf, cb := cb }
      (· = s.memoryWith (s.entryStores slot next frame gf src)) := by
  obtain ⟨hgf0, heven, hmodule, hcb⟩ := hm
  obtain ⟨hpc, htag, hreads, hslot, hitem, hnext, hwrites⟩ := hb
  simp only [State.canReadAll, State.canWriteAll, List.all_cons, List.all_nil, Bool.and_true, Bool.and_eq_true]
    at hmodule hreads hwrites
  obtain ⟨hlow, hhigh⟩ := hmodule
  obtain ⟨hcode, hframe⟩ := hreads
  obtain ⟨hwSlot, hwGf, hwLink⟩ := hwrites
  have hread : s.Ends (· = s.mem) (readCode (highHalf link >>> 1)) { s with gf := gf, cb := cb }
      (s.wordAt (cb + zextLong (highHalf link >>> 1))) { s with gf := gf, cb := cb } (· = s.mem) :=
    ends_getState fun _ _ => ends_memRead hd hcode fun m hm => by rw [hm]; rfl
  have hbody : s.Ends (· = s.mem) (enterProcedure (highHalf link) gf src) { s with gf := gf, cb := cb } frame
      { s with gf := gf, cb := cb } (· = s.memoryWith (s.entryStores slot next frame gf src)) := by
    rw [hslot] at hwSlot hitem ⊢
    exact ends_bind hread (ends_bind (ends_alloc (r := { s with gf := gf, cb := cb }) hd hwSlot hframe htag hitem hnext)
      (ends_bind (ends_memWriteMds_exact gf hd hwGf) (ends_bind (ends_memWriteMds_exact src hd hwLink) (ends_pure _))))
  unfold xferProcedure
  dsimp only
  rw [← hgf]
  refine ends_bind (ends_update (f := fun s => { s with gf := gf })) ?_
  rw [if_neg hgf0]
  refine ends_bind (ends_loadCodeBase (r := { s with gf := gf }) hd hlow hhigh heven fun m hm => by rw [hm]; exact hcb) ?_
  rw [if_neg hpc]
  exact ends_bind hbody (ends_pure _)

/-! ### The boot transfer -/

/-- The two links are left above the stack, in the slots of two words pushed and discarded (47_control_transfers.md R613,
10_state.md R53, R60). -/
def State.withLinks (s : State) (v w : Word) : State :=
  { s with stack := (s.stack.setIfInBounds s.sp.val v).setIfInBounds (s.sp.val + 1) w }

theorem push_push_discard_discard {α : Type} {s : State} (v w : Word) (f : Unit → M α) (h : s.sp.val < 13) :
    (push v >>= fun _ => push w >>= fun _ => discard >>= fun _ => discard >>= f) s = f () (s.withLinks v w) := by
  have hsp : (⟨min (s.sp.val + 1 + 1) 14 - 1 - 1, by omega⟩ : Fin 15) = s.sp := Fin.ext (by dsimp only; omega)
  have hslot : min (s.sp.val + 1) 14 = s.sp.val + 1 := by omega
  rw [bind_ok (push_run (by omega)), bind_ok (push_run (by rw [State.pushed_sp_val]; omega)),
    bind_ok (discard_run (by rw [State.pushed_sp_val]; omega)),
    bind_ok (discard_run (by simp only [State.dropped_sp_val, State.pushed_sp_val]; omega))]
  simp only [State.pushed, State.dropped, State.withLinks, hslot, hsp]

/-- An indirect link to a link that is not (47_control_transfers.md R613). -/
theorem ends_resolveLink {n : Nat} {type : XferType} {followed : Bool} (hd : r.devices = [])
    (hdst : controlLinkType dst = .indirect) (ht : type ≠ .trap) (hlow : s.canRead (r.lengthen (lowHalf dst)) = true)
    (hhigh : s.canRead (r.lengthen (lowHalf dst) + 1) = true)
    (hv : ∀ mem, P mem → mkLong (readReal mem (s.realAddress (r.lengthen (lowHalf dst))))
      (readReal mem (s.realAddress (r.lengthen (lowHalf dst) + 1))) = link)
    (hlink : controlLinkType link ≠ .indirect) :
    s.Ends P (resolveLink (n + 2) type dst followed) r (link, true) r P := by
  rw [resolveLink, if_pos hdst, if_neg ht]
  exact ends_bind (ends_readDblMds hd hlow hhigh hv) fun map mem hs hP => ⟨map, mem, resolveLink_direct hlink, hs, hP⟩

/-- `XFER` through an indirect link: what the arm of the link found does, the links left above the stack, and then the new
context, where no xfer trap is due (47_control_transfers.md R610, R613, 60_exceptions.md R790). -/
theorem ends_xfer_indirect {r1 : State} {type : XferType} (hd : r.devices = [])
    (hdst : controlLinkType dst = .indirect) (ht : type ≠ .trap) (hlow : s.canRead (r.lengthen (lowHalf dst)) = true)
    (hhigh : s.canRead (r.lengthen (lowHalf dst) + 1) = true)
    (hv : ∀ mem, P mem → mkLong (readReal mem (s.realAddress (r.lengthen (lowHalf dst))))
      (readReal mem (s.realAddress (r.lengthen (lowHalf dst) + 1))) = link)
    (hlink : controlLinkType link ≠ .indirect)
    (harm : s.Ends P (if controlLinkType link = .procedure then xferProcedure dst link src else xferFrame dst link src type)
      r (frame, pc) r1 P1) (hsp : r1.sp.val < 13) (hx : r1.xts.getLsbD 0 = false) :
    s.Ends P (xfer dst src type false) r ()
      { r1.withLinks (lowHalf dst) src with lf := frame, pc := pc, xts := r1.xts >>> 1 } P1 := by
  have hcheck : s.Ends P1 (checkForXferTraps dst type)
      { r1.withLinks (lowHalf dst) src with lf := frame, pc := pc } ()
      { r1.withLinks (lowHalf dst) src with lf := frame, pc := pc, xts := r1.xts >>> 1 } P1 :=
    fun map mem hs hP => ⟨map, mem, checkForXferTraps_off hx, hs, hP⟩
  have hrest : s.Ends P1 (push (lowHalf dst) >>= fun _ => push src >>= fun _ => discard >>= fun _ => discard >>= fun _ =>
      getState >>= fun _ => update (fun s => { s with lf := frame, pc := pc }) >>= fun _ => checkForXferTraps dst type)
      r1 () { r1.withLinks (lowHalf dst) src with lf := frame, pc := pc, xts := r1.xts >>> 1 } P1 := by
    intro map mem hs hP
    rw [push_push_discard_discard (s := r1.withMemory map mem) _ _ _ hsp]
    exact hcheck map mem hs hP
  unfold xfer
  refine ends_bind (ends_resolveLink hd hdst ht hlow hhigh hv hlink) ?_
  dsimp only
  by_cases hp : controlLinkType link = .procedure
  · rw [if_pos hp] at harm ⊢
    exact ends_bind harm hrest
  · rw [if_neg hp] at harm ⊢
    exact ends_bind harm hrest

end

/-- The boot transfer through a link that is not indirect, by what its arm of `XFER` does (70_reset_and_hazards.md R830,
R832). -/
theorem step_boot {r s r1 : State} {link : LongWord} {frame pc : Word} {stores : List (LongWord × Word)}
    (hs : r.afterDevices = s) (hd : s.devices = []) (hc : s.mapCanonical = true) (hboot : s.booted = false)
    (hr : s.canReadAll [s.lengthen 0x202, s.lengthen 0x202 + 1] = true) (hlong : s.longAt (s.lengthen 0x202) = link)
    (hlink : controlLinkType link ≠ .indirect)
    (harm : s.Ends (· = s.mem) (if controlLinkType link = .procedure then xferProcedure 0x202 link 0
      else xferFrame 0x202 link 0 .call) s (frame, pc) r1 (· = s.memoryWith stores))
    (hsp : r1.sp.val < 13) (hx : r1.xts.getLsbD 0 = false) :
    ∃ map mem, step r = .next ({ r1.withLinks 0x202 0 with
        lf := frame, pc := pc, xts := r1.xts >>> 1, booted := true }.withMemory map mem)
      ∧ s.sameAccess map ∧ mem = s.memoryWith stores := by
  simp only [State.canReadAll, List.all_cons, List.all_nil, Bool.and_true, Bool.and_eq_true] at hr
  have hxfer := ends_xfer_indirect (dst := 0x202) (type := .call) hd rfl (by decide) hr.1 hr.2
    (fun m hm => by rw [hm]; exact hlong) hlink harm hsp hx
  have hboot' : s.Ends (· = s.mem) bootTransfer s () _ _ :=
    ends_bind (ends_noAbort .abortInBoot hxfer) (ends_update (f := fun s => { s with booted := true }))
  obtain ⟨map, mem, hrun, hmap, hmem⟩ := hboot' s.map s.mem (sameAccess_self hc) rfl
  refine ⟨map, mem, ?_, hmap, hmem⟩
  rw [step, hs, processorStep, if_neg (by rw [hboot]; decide)]
  exact run_ok hrun

/-- Settles O60. -/
theorem bootTransferCallsProcedure : Obligations.BootTransferCallsProcedure := by
  intro r s link gf frame cb hs hd hc hboot hx hsp hr hlong
  refine ⟨fun slot next hbit hgf hmodule hbody => ?_, fun pc hframe hf => ?_⟩
  · have hlink := controlLinkType_procedure hbit
    have harm : s.Ends (· = s.mem) (if controlLinkType link = .procedure then xferProcedure 0x202 link 0
        else xferFrame 0x202 link 0 .call) s (frame, highHalf link + 1) { s with gf := gf, cb := cb }
        (· = s.memoryWith (s.entryStores slot next frame gf 0)) := by
      rw [if_pos hlink]
      exact ends_xferProcedure hd hgf hmodule hbody
    obtain ⟨map, mem, hstep, hmap, hmem⟩ :=
      step_boot hs hd hc hboot hr hlong (by rw [hlink]; decide) harm hsp hx
    exact ⟨_, hstep, rfl, rfl, rfl, rfl, rfl, rfl, rfl, rfl, rfl,
      fun va op => (translate_withMemory hmap _ mem va op).symm, hmem⟩
  · have htag : lowHalf link &&& 3 = 0 := by
      obtain ⟨-, htag, -⟩ := hf
      exact hframe ▸ htag
    have hlink : controlLinkType link = .frame := controlLinkType_frame htag
    have harm : s.Ends (· = s.mem) (if controlLinkType link = .procedure then xferProcedure 0x202 link 0
        else xferFrame 0x202 link 0 .call) s (lowHalf link, pc) { s with gf := gf, cb := cb } (· = s.memoryWith []) := by
      rw [if_neg (by rw [hlink]; decide)]
      exact ends_xferFrame hd (by rintro _ rfl; exact hframe ▸ hf) (by decide)
    obtain ⟨map, mem, hstep, hmap, hmem⟩ :=
      step_boot hs hd hc hboot hr hlong (by rw [hlink]; decide) harm hsp hx
    exact ⟨_, hstep, rfl, hframe, rfl, rfl, rfl, rfl, rfl, rfl, rfl,
      fun va op => (translate_withMemory hmap _ mem va op).symm, hmem⟩

/-! ### Fields of links, flags and conditions (48_process_instructions.md R675 to R681) -/

@[simp] theorem indexField_withIndex (w : Word) (i : BitVec 10) : indexField (withIndex w i) = i := by
  ext k hk
  simp only [indexField, withIndex, psbHandle, BitVec.getElem_extractLsb', BitVec.getLsbD_or, BitVec.getLsbD_and,
    BitVec.getLsbD_shiftLeft, BitVec.getLsbD_setWidth]
  interval_cases k <;> simp

@[simp] theorem getLsbD_withIndex (w : Word) (i : BitVec 10) {k : Nat} (hk : k < 3) :
    (withIndex w i).getLsbD k = w.getLsbD k := by
  simp only [withIndex, psbHandle, BitVec.getLsbD_or, BitVec.getLsbD_and, BitVec.getLsbD_shiftLeft]
  interval_cases k <;> simp

@[simp] theorem linkPriority_withIndex (w : Word) (i : BitVec 10) : linkPriority (withIndex w i) = linkPriority w := by
  ext k hk
  simp only [linkPriority, withIndex, psbHandle, BitVec.getElem_extractLsb', BitVec.getLsbD_or, BitVec.getLsbD_and,
    BitVec.getLsbD_shiftLeft, BitVec.getLsbD_setWidth]
  interval_cases k <;> simp

theorem getLsbD_withBit (w : Word) {k j : Nat} (b : Bool) (hj : j < 16) :
    (withBit w k b).getLsbD j = if j = k then b else w.getLsbD j := by
  have hbit : (1#16 <<< k).getLsbD j = decide (j = k) := by
    rw [BitVec.getLsbD_shiftLeft, BitVec.getLsbD_one]
    by_cases h : j = k
    · simp [h]; omega
    · have : j < k ∨ ¬ j - k = 0 := by omega
      rcases this with hlt | hne
      · simp [hlt, h]
      · simp [hne, h]
  cases b with
  | true =>
    rw [withBit, if_pos rfl, BitVec.getLsbD_or, hbit]
    by_cases h : j = k <;> simp [h]
  | false =>
    rw [withBit, if_neg Bool.false_ne_true, BitVec.getLsbD_and, BitVec.getLsbD_not, hbit]
    by_cases h : j = k <;> simp [h, hj]

theorem getLsbD_withBit_self (w : Word) {k : Nat} (b : Bool) (hk : k < 16) : (withBit w k b).getLsbD k = b := by
  rw [getLsbD_withBit w b hk, if_pos rfl]

@[simp] theorem indexField_withBit (w : Word) {k : Nat} (b : Bool) (hk : k < 3) :
    indexField (withBit w k b) = indexField w := by
  ext j hj
  rw [indexField, BitVec.getElem_extractLsb', getLsbD_withBit w b (by omega), if_neg (by omega), indexField,
    BitVec.getElem_extractLsb']

@[simp] theorem linkPriority_withBit (w : Word) {k : Nat} (b : Bool) (hk : k < 3) :
    linkPriority (withBit w k b) = linkPriority w := by
  ext j hj
  rw [linkPriority, BitVec.getElem_extractLsb', getLsbD_withBit w b (by omega), if_neg (by omega), linkPriority,
    BitVec.getElem_extractLsb']

/-! ### Addresses in the Process Data Area and in the MDS (48_process_instructions.md R671, R676, 20_memory.md R117) -/

theorem mkLong_toNat (low high : Word) : (mkLong low high).toNat = 65536 * high.toNat + low.toNat := by
  have := low.isLt
  rw [mkLong, BitVec.toNat_append, Nat.shiftLeft_eq, ← Nat.shiftLeft_eq, ← Nat.shiftLeft_add_eq_or_of_lt this]
  rw [Nat.shiftLeft_eq]
  omega

theorem pdaAddress_toNat (ptr : Word) : (pdaAddress ptr).toNat = 65536 + ptr.toNat := mkLong_toNat ptr 1

theorem lengthen_toNat (s : State) (p : Word) : (s.lengthen p).toNat = 65536 * s.mds.toNat + p.toNat :=
  mkLong_toNat p s.mds

theorem psbWord_toNat (i : BitVec 10) (k : Word) (hk : k.toNat < 8) :
    (psbWord i k).toNat = 65536 + 8 * i.toNat + k.toNat := by
  have hi := i.isLt
  rw [psbWord, pdaAddress_toNat, psbHandle, BitVec.toNat_add, BitVec.toNat_shiftLeft, BitVec.toNat_setWidth,
    Nat.shiftLeft_eq]
  omega

theorem psbLink_toNat (i : BitVec 10) : (psbLink i).toNat = 65536 + 8 * i.toNat := psbWord_toNat i 0 (by decide)
theorem psbFlags_toNat (i : BitVec 10) : (psbFlags i).toNat = 65536 + 8 * i.toNat + 1 := psbWord_toNat i 1 (by decide)
theorem psbContext_toNat (i : BitVec 10) : (psbContext i).toNat = 65536 + 8 * i.toNat + 2 := psbWord_toNat i 2 (by decide)
theorem psbTimeout_toNat (i : BitVec 10) : (psbTimeout i).toNat = 65536 + 8 * i.toNat + 3 := psbWord_toNat i 3 (by decide)
theorem psbMds_toNat (i : BitVec 10) : (psbMds i).toNat = 65536 + 8 * i.toNat + 4 := psbWord_toNat i 4 (by decide)

theorem readyQueue_toNat : readyQueue.toNat = 65536 := rfl
theorem pdaCount_toNat : pdaCount.toNat = 65537 := rfl

theorem stateList_toNat (pri : BitVec 3) : (stateList pri).toNat = 65544 + pri.toNat := by
  have hp := pri.isLt
  rw [stateList, pdaAddress_toNat, BitVec.toNat_add, BitVec.toNat_setWidth]
  simp only [BitVec.reduceToNat]
  omega

theorem interruptCondition_toNat (level : Nat) (h : level < 16) :
    (interruptCondition level).toNat = 65552 + 2 * level := by
  rw [interruptCondition, pdaAddress_toNat, BitVec.toNat_add, BitVec.toNat_mul, BitVec.toNat_ofNat]
  simp only [BitVec.reduceToNat]
  omega

theorem vectorWord_toNat (offset : Word) (k : Nat) :
    (pdaAddress (offset + BitVec.ofNat 16 k)).toNat = 65536 + (offset.toNat + k) % 65536 := by
  rw [pdaAddress_toNat, BitVec.toNat_add, BitVec.toNat_ofNat, Nat.add_mod_mod]

theorem address_ne {va va' : LongWord} (h : va.toNat ≠ va'.toNat) : va ≠ va' := fun he => h (congrArg BitVec.toNat he)

/-! ### Memory as words at virtual addresses -/

/-- Memory holds the words `w` where loads go through, and the bytes it held in `s` but for those of the words in `A`. -/
structure State.Shows (s : State) (A : Set LongWord) (w : LongWord → Word) (mem : List Host.Cell) : Prop where
  wf : Memory.wf mem = true
  words : ∀ va, s.canRead va = true → readReal mem (s.realAddress va) = w va
  bytes : ∀ key, (∀ va ∈ A, key / 2 ≠ s.realAddress va) → tableGet unlistedByte mem key = s.byteAt key

section

variable {s r : State} {A : Set LongWord} {w : LongWord → Word} {va : LongWord} {v : Word}

theorem shows_self (hi : s.Inv) : s.Shows A s.wordAt s.mem := by
  obtain ⟨hwf, -⟩ := hi
  exact ⟨hwf, fun _ _ => rfl, fun _ _ => rfl⟩

/-- A store changes the word at its address, since no other mapped address has its real address (20_memory.md R107). -/
theorem shows_write (hi : s.Inv) (hw : s.canWrite va = true) (hA : va ∈ A) {mem : List Host.Cell} (h : s.Shows A w mem) :
    s.Shows A (Function.update w va v) (writeReal mem (s.realAddress va) v) := by
  obtain ⟨-, -, -, hinj, -⟩ := hi
  have hr := canRead_of_canWrite hw
  have hbound := translate_bound (translate_of_canWrite hw)
  refine ⟨writeReal_wf v h.wf hbound, fun va' hr' => ?_, fun key hkey => ?_⟩
  · by_cases hva : va' = va
    · rw [hva, Function.update_self, readReal_writeReal_self v h.wf hbound]
    · rw [Function.update_of_ne hva, ← h.words va' hr',
        readReal_writeReal_other _ _ fun he => hva (realAddress_injective hinj hr' hr he)]
  · have hne := hkey va hA
    rw [byte_writeReal_other mem v (by omega) (by omega), h.bytes key hkey]

theorem ends_read (hd : r.devices = []) (hr : s.canRead va = true) :
    s.Ends (s.Shows A w) (memRead va) r (w va) r (s.Shows A w) :=
  ends_memRead hd hr fun _ h => h.words va hr

theorem ends_write (hi : s.Inv) (hd : r.devices = []) (hw : s.canWrite va = true) (hA : va ∈ A := by trivial) :
    s.Ends (s.Shows A w) (memWrite va v) r () r (s.Shows A (Function.update w va v)) :=
  ends_memWrite hd hw fun _ h => shows_write hi hw hA h

end

/-! ### Queues, as they change the words of memory (48_process_instructions.md R700 to R703) -/

/-- The words after `p` has entered the empty queue at `que` (48_process_instructions.md R702). -/
def joinEmpty (que : LongWord) (p : BitVec 10) (w : LongWord → Word) : LongWord → Word :=
  Function.update (Function.update w (psbLink p) (withIndex (w (psbLink p)) p)) que (withIndex (w que) p)

/-- The words after `p` has entered a queue before `q`, its only process (48_process_instructions.md R702). -/
def joinBefore (q p : BitVec 10) (w : LongWord → Word) : LongWord → Word :=
  Function.update (Function.update w (psbLink p) (withIndex (w (psbLink p)) q)) (psbLink q) (withIndex (w (psbLink q)) p)

section

variable {s r : State} {A : Set LongWord} {w : LongWord → Word} {c que : LongWord} {p q : BitVec 10}

/-- A condition that is empty, or whose tail has no cleanup link, is left as it is (48_process_instructions.md R703). -/
theorem ends_cleanupCondition (hd : r.devices = []) (hc : s.canRead c = true)
    (h : indexField (w c) = 0 ∨ s.canRead (psbFlags (indexField (w c))) = true
      ∧ indexField (w (psbFlags (indexField (w c)))) = 0) :
    s.Ends (s.Shows A w) (cleanupCondition c) r () r (s.Shows A w) := by
  unfold cleanupCondition
  refine ends_bind (ends_read hd hc) ?_
  dsimp only
  split_ifs with hempty
  · exact ends_pure ()
  · obtain ⟨hf, hflags⟩ := h.resolve_left hempty
    refine ends_bind (ends_read hd hf) ?_
    rw [if_pos hflags]
    exact ends_pure ()

/-- A process that is alone leaves its queue (48_process_instructions.md R701). -/
theorem ends_dequeue_alone (hi : s.Inv) (hd : r.devices = []) (hc0 : c ≠ 0) (hc : s.canWrite c = true)
    (hl : s.canRead (psbLink p) = true) (htail : indexField (w c) = p) (hring : indexField (w (psbLink p)) = p) :
    s.Ends (s.Shows Set.univ w) (dequeue c p) r () r (s.Shows Set.univ (Function.update w c (withIndex (w c) 0))) := by
  have hunlink : s.Ends (s.Shows Set.univ w) (unlink c p p (w (psbLink p))) r 0 r (s.Shows Set.univ w) := by
    unfold unlink
    rw [if_pos hring]
    refine ends_getState fun _ _ => ?_
    rw [if_pos (Or.inr (by simp [State.aloneOnQueue]))]
    exact ends_pure 0
  unfold dequeue
  dsimp only
  rw [if_neg hc0]
  refine ends_bind (ends_read hd (canRead_of_canWrite hc)) (ends_bind (ends_read hd hl) ?_)
  rw [htail]
  refine ends_bind hunlink ?_
  rw [if_neg hc0, if_pos rfl]
  exact ends_write hi hd hc

/-- A process that is alone leaves a queue that is not known: its cleanup link is set (48_process_instructions.md R701). -/
theorem ends_dequeue_unknown (hi : s.Inv) (hd : r.devices = []) (hl : s.canRead (psbLink p) = true)
    (hf : s.canWrite (psbFlags p) = true) (hring : indexField (w (psbLink p)) = p) :
    s.Ends (s.Shows Set.univ w) (dequeue 0 p) r () r
      (s.Shows Set.univ (Function.update w (psbFlags p) (withIndex (w (psbFlags p)) p))) := by
  have hunlink : s.Ends (s.Shows Set.univ w) (unlink 0 (indexField 0) p (w (psbLink p))) r 0 r (s.Shows Set.univ w) := by
    unfold unlink
    rw [if_pos hring]
    refine ends_getState fun _ _ => ?_
    rw [if_pos (Or.inl rfl)]
    exact ends_pure 0
  unfold dequeue
  dsimp only
  rw [if_pos rfl]
  refine ends_bind (ends_pure 0) (ends_bind (ends_read hd hl) (ends_bind hunlink ?_))
  rw [if_pos rfl]
  refine ends_bind (ends_read hd (canRead_of_canWrite hf)) ?_
  rw [hring]
  exact ends_write hi hd hf

/-- A process enters an empty queue (48_process_instructions.md R702). -/
theorem ends_enqueue_empty (hi : s.Inv) (hd : r.devices = []) (hq : s.canWrite que = true)
    (hl : s.canWrite (psbLink p) = true) (hempty : indexField (w que) = 0) :
    s.Ends (s.Shows Set.univ w) (enqueue que p) r () r (s.Shows Set.univ (joinEmpty que p w)) := by
  unfold enqueue
  refine ends_bind (ends_read hd (canRead_of_canWrite hq)) (ends_bind (ends_read hd (canRead_of_canWrite hl)) ?_)
  rw [if_pos hempty]
  exact ends_bind (ends_write hi hd hl) (ends_write hi hd hq)

/-- A process enters a queue of one process of lower priority, before it (48_process_instructions.md R702). -/
theorem ends_enqueue_before (hi : s.Inv) (hd : r.devices = []) (hq : s.canRead que = true)
    (hl : s.canWrite (psbLink p) = true) (hl' : s.canWrite (psbLink q) = true) (hq0 : q ≠ 0)
    (htail : indexField (w que) = q) (hring : indexField (w (psbLink q)) = q)
    (hpri : linkPriority (w (psbLink q)) < linkPriority (w (psbLink p))) :
    s.Ends (s.Shows Set.univ w) (enqueue que p) r () r (s.Shows Set.univ (joinBefore q p w)) := by
  have hplace : s.Ends (s.Shows Set.univ w) (findPlace ringBound (linkPriority (w (psbLink p))) q (w (psbLink q))) r
      (q, w (psbLink q)) r (s.Shows Set.univ w) := by
    unfold ringBound findPlace
    rw [hring]
    refine ends_bind (ends_read hd (canRead_of_canWrite hl')) ?_
    rw [if_pos (by simpa [BitVec.ult, BitVec.lt_def] using hpri)]
    exact ends_pure _
  unfold enqueue
  refine ends_bind (ends_read hd hq) (ends_bind (ends_read hd (canRead_of_canWrite hl)) ?_)
  dsimp only
  rw [htail, if_neg hq0]
  refine ends_bind (ends_read hd (canRead_of_canWrite hl')) ?_
  rw [if_neg (by simpa [BitVec.ule, BitVec.lt_def] using hpri)]
  refine ends_bind hplace ?_
  dsimp only
  rw [hring]
  exact ends_bind (ends_write hi hd hl) (ends_write hi hd hl')

end

/-! ### The notify of one condition (48_process_instructions.md R697, 60_exceptions.md R803) -/

theorem update_other {w : LongWord → Word} {va va' : LongWord} {v : Word} (h : va'.toNat ≠ va.toNat) :
    Function.update w va v va' = w va' := Function.update_of_ne (address_ne h) v w

/-- Where the words of a PSB are. -/
theorem psb_toNat (i : BitVec 10) :
    (psbLink i).toNat = 65536 + 8 * i.toNat ∧ (psbFlags i).toNat = 65536 + 8 * i.toNat + 1
      ∧ (psbContext i).toNat = 65536 + 8 * i.toNat + 2 ∧ (psbTimeout i).toNat = 65536 + 8 * i.toNat + 3
      ∧ (psbMds i).toNat = 65536 + 8 * i.toNat + 4 :=
  ⟨psbLink_toNat i, psbFlags_toNat i, psbContext_toNat i, psbTimeout_toNat i, psbMds_toNat i⟩

/-- By the words `w`, the process `p` is alone in the queue at `que`, which stands before the PSBs, and no cleanup link of its
is set (48_process_instructions.md R671, R675, R703). -/
structure State.AloneAt (s : State) (w : LongWord → Word) (que : LongWord) (p : BitVec 10) : Prop where
  psb : 8 ≤ p.toNat
  area : 65536 ≤ que.toNat
  below : que.toNat < 65600
  queue : s.canWrite que = true
  link : s.canWrite (psbLink p) = true
  flags : s.canWrite (psbFlags p) = true
  timeout : s.canWrite (psbTimeout p) = true
  tail : indexField (w que) = p
  ring : indexField (w (psbLink p)) = p
  noCleanup : indexField (w (psbFlags p)) = 0

/-- The words after the waiting process `p` has left the condition at `c`, before it is ready (48_process_instructions.md
R697). -/
def wakeWords (c : LongWord) (p : BitVec 10) (w : LongWord → Word) : LongWord → Word :=
  Function.update (Function.update (Function.update w (psbFlags p) (withBit (w (psbFlags p)) waitingBit false))
    (psbTimeout p) 0) c (withIndex (w c) 0)

section

variable {s r : State} {w : LongWord → Word} {c : LongWord} {p : BitVec 10} {A : Set LongWord} {P : List Host.Cell → Prop}

theorem ends_wakeHead (hi : s.Inv) (hd : r.devices = []) (h : s.AloneAt w c p)
    (henq : s.Ends (s.Shows Set.univ (wakeWords c p w)) (enqueue readyQueue p) r () r P) :
    s.Ends (s.Shows Set.univ w) (wakeHead c) r () r P := by
  obtain ⟨hp, harea, hbelow, hq, hl, hf, ht, htail, hring, -⟩ := h
  have hpsb := psb_toNat p
  have hc0 : c ≠ 0 := by rintro rfl; exact absurd harea (by decide)
  have hp0 : p ≠ 0 := by rintro rfl; exact absurd hp (by decide)
  unfold wakeHead
  refine ends_bind (ends_read hd (canRead_of_canWrite hq)) ?_
  rw [htail]
  refine ends_bind (ends_read hd (canRead_of_canWrite hl)) ?_
  dsimp only
  rw [hring]
  refine ends_bind (ends_read hd (canRead_of_canWrite hf)) (ends_bind (ends_write hi hd hf)
    (ends_bind (ends_write hi hd ht) ?_))
  unfold requeue
  rw [if_neg hp0]
  refine ends_bind (ends_dequeue_alone hi hd hc0 hq (canRead_of_canWrite hl) ?_ ?_) ?_
  · rw [update_other (by omega), update_other (by omega), htail]
  · rw [update_other (by omega), update_other (by omega), hring]
  · rw [update_other (by omega), update_other (by omega)]
    exact henq

/-- A wakeup of a condition on which one process waits makes it ready (60_exceptions.md R803). -/
theorem ends_notifyWakeup_wakes (hi : s.Inv) (hd : r.devices = []) (h : s.AloneAt w c p)
    (henq : s.Ends (s.Shows Set.univ (wakeWords c p w)) (enqueue readyQueue p) r () r P) :
    s.Ends (s.Shows Set.univ w) (notifyWakeup c) r true r P := by
  have hp0 : p ≠ 0 := by rintro rfl; exact absurd h.psb (by decide)
  have hr := canRead_of_canWrite h.queue
  have hcleanup := ends_cleanupCondition (w := w) (A := Set.univ) hd hr
    (Or.inr ⟨by rw [h.tail]; exact canRead_of_canWrite h.flags, by rw [h.tail]; exact h.noCleanup⟩)
  unfold notifyWakeup
  refine ends_bind hcleanup (ends_bind (ends_read hd hr) ?_)
  rw [h.tail, if_neg hp0]
  exact ends_bind (ends_wakeHead hi hd h henq) (ends_pure true)

/-- A wakeup of a condition on which no process waits is kept in its `wakeup` bit (60_exceptions.md R803). -/
theorem ends_notifyWakeup_idle (hi : s.Inv) (hd : r.devices = []) (hc : s.canWrite c = true) (hA : c ∈ A)
    (hempty : indexField (w c) = 0) :
    s.Ends (s.Shows A w) (notifyWakeup c) r false r (s.Shows A (Function.update w c (withBit (w c) wakeupBit true))) := by
  have hr := canRead_of_canWrite hc
  unfold notifyWakeup
  refine ends_bind (ends_cleanupCondition hd hr (Or.inl hempty)) (ends_bind (ends_read hd hr) ?_)
  rw [if_pos hempty]
  exact ends_bind (ends_write hi hd hc hA) (ends_pure false)

end

/-! ### The notifies of an interrupt (60_exceptions.md R803) -/

theorem interruptCondition_ne {level level' : Nat} (hl : level < 16) (hl' : level' < 16) (h : level ≠ level') :
    interruptCondition level ≠ interruptCondition level' :=
  address_ne (by rw [interruptCondition_toNat level hl, interruptCondition_toNat level' hl']; omega)

/-- The words after the notify of one level on whose condition no process waits. -/
def markLevel (level : Nat) (wakeups : Word) (w : LongWord → Word) : LongWord → Word :=
  if wakeups.getLsbD (15 - level) then
    Function.update w (interruptCondition level) (withBit (w (interruptCondition level)) wakeupBit true)
  else w

theorem markLevel_self (level : Nat) (wakeups : Word) (w : LongWord → Word) :
    markLevel level wakeups w (interruptCondition level) = if wakeups.getLsbD (15 - level) then
      withBit (w (interruptCondition level)) wakeupBit true else w (interruptCondition level) := by
  unfold markLevel
  split
  · exact Function.update_self ..
  · rfl

theorem markLevel_other {level : Nat} (wakeups : Word) (w : LongWord → Word) {va : LongWord}
    (h : va ≠ interruptCondition level) : markLevel level wakeups w va = w va := by
  unfold markLevel
  split
  · exact Function.update_of_ne h _ _
  · rfl

/-- The words after the notifies of the levels below `n`, on whose conditions no process waits. -/
def markWakeups (n : Nat) (wakeups : Word) (w : LongWord → Word) : LongWord → Word :=
  match n with
  | 0 => w
  | level + 1 => markWakeups level wakeups (markLevel level wakeups w)

/-- Words other than the conditions below level `n` are as before. -/
theorem markWakeups_other {n : Nat} (wakeups : Word) {w : LongWord → Word} {va : LongWord}
    (h : ∀ level < n, va ≠ interruptCondition level) : markWakeups n wakeups w va = w va := by
  induction n generalizing w with
  | zero => rfl
  | succ level ih =>
    rw [markWakeups, ih fun l hl => h l (by omega), markLevel_other _ _ (h level (by omega))]

/-- The condition of a level has its `wakeup` bit set exactly where the level has a wakeup. -/
theorem markWakeups_condition {n : Nat} (wakeups : Word) {w : LongWord → Word} {level : Nat} (hn : n ≤ 16)
    (h : level < n) : markWakeups n wakeups w (interruptCondition level) =
      if wakeups.getLsbD (15 - level) then withBit (w (interruptCondition level)) wakeupBit true
      else w (interruptCondition level) := by
  induction n generalizing w with
  | zero => omega
  | succ m ih =>
    rw [markWakeups]
    by_cases hlevel : level = m
    · rw [hlevel, markWakeups_other _ fun l hl => interruptCondition_ne (by omega) (by omega) (by omega), markLevel_self]
    · rw [ih (by omega) (by omega), markLevel_other _ _ (interruptCondition_ne (by omega) (by omega) hlevel)]

/-- The two agree but for the conditions of levels other than `level`. -/
def sameBut (level : Nat) (w w' : LongWord → Word) : Prop :=
  ∀ va, (∀ l < 16, l ≠ level → va ≠ interruptCondition l) → w' va = w va

section

variable {level : Nat} {w w' w'' : LongWord → Word}

theorem sameBut_trans (h : sameBut level w w') (h' : sameBut level w' w'') : sameBut level w w'' :=
  fun va hva => (h' va hva).trans (h va hva)

theorem sameBut_update (h : sameBut level w w') (va : LongWord) {v v' : Word} (hv : v' = v) :
    sameBut level (Function.update w va v) (Function.update w' va v') := by
  intro va' hva'
  by_cases he : va' = va
  · rw [he, Function.update_self, Function.update_self, hv]
  · rw [Function.update_of_ne he, Function.update_of_ne he, h va' hva']

theorem sameBut_markLevel {l : Nat} (wakeups : Word) (hl : l < 16) (hne : l ≠ level) :
    sameBut level w (markLevel l wakeups w) := fun _ hva => markLevel_other _ _ (hva l hl hne)

theorem sameBut_markWakeups {n : Nat} (wakeups : Word) (hn : n ≤ 16) (h : n ≤ level) :
    sameBut level w (markWakeups n wakeups w) :=
  fun _ hva => markWakeups_other _ fun l hl => hva l (by omega) (by omega)

theorem sameBut_condition (h : sameBut level w w') (hl : level < 16) :
    w' (interruptCondition level) = w (interruptCondition level) :=
  h _ fun _ hl' hne => interruptCondition_ne hl hl' fun he => hne he.symm

theorem not_condition {va : LongWord} (h : va.toNat < 65552 ∨ 65584 ≤ va.toNat) {l : Nat} (hl : l < 16) :
    va ≠ interruptCondition l := address_ne (by rw [interruptCondition_toNat l hl]; omega)

theorem sameBut_outside (h : sameBut level w w') {va : LongWord} (hva : va.toNat < 65552 ∨ 65584 ≤ va.toNat) :
    w' va = w va := h va fun _ hl _ => not_condition hva hl

end

section

variable {s r : State} {w : LongWord → Word} {A : Set LongWord}

/-- The notifies of levels on whose conditions no process waits (60_exceptions.md R803). -/
theorem ends_notifyLevels_idle (hi : s.Inv) (hd : r.devices = []) {n : Nat} {wakeups : Word} {woken : Bool} (hn : n ≤ 16)
    (hw : ∀ level < n, s.canWrite (interruptCondition level) = true ∧ interruptCondition level ∈ A)
    (hempty : ∀ level < n, indexField (w (interruptCondition level)) = 0) :
    s.Ends (s.Shows A w) (notifyLevels n wakeups woken) r woken r (s.Shows A (markWakeups n wakeups w)) := by
  induction n generalizing w with
  | zero => exact ends_pure woken
  | succ level ih =>
    have hrest : s.Ends (s.Shows A (markLevel level wakeups w)) (notifyLevels level wakeups woken) r woken r
        (s.Shows A (markWakeups level wakeups (markLevel level wakeups w))) := by
      refine ih (by omega) (fun l hl => hw l (by omega)) fun l hl => ?_
      rw [markLevel_other _ _ (interruptCondition_ne (by omega) (by omega) (by omega))]
      exact hempty l (by omega)
    obtain ⟨hc, hA⟩ := hw level (by omega)
    unfold notifyLevels markWakeups
    by_cases hbit : wakeups.getLsbD (15 - level) = true
    · rw [markLevel, if_pos hbit] at hrest ⊢
      rw [if_pos hbit]
      exact ends_bind (ends_notifyWakeup_idle hi hd hc hA (hempty level (by omega))) hrest
    · rw [markLevel, if_neg hbit] at hrest ⊢
      rw [if_neg hbit]
      exact hrest

/-- The notifies, where on the condition of one level with a wakeup alone a process waits; `wake` is what its notify makes of
the words (60_exceptions.md R803). -/
theorem ends_notifyLevels_wakes (hi : s.Inv) (hd : r.devices = []) {n level : Nat} {wakeups : Word} {woken : Bool}
    {wake : (LongWord → Word) → LongWord → Word} (hn : n ≤ 16) (hlevel : level < n)
    (hbit : wakeups.getLsbD (15 - level) = true) (hw : ∀ l < n, s.canWrite (interruptCondition l) = true)
    (hempty : ∀ l < n, l ≠ level → indexField (w (interruptCondition l)) = 0)
    (hwake : ∀ w', sameBut level w w' → sameBut level (wake w) (wake w')
      ∧ (∀ l < 16, l ≠ level → wake w' (interruptCondition l) = w' (interruptCondition l))
      ∧ s.Ends (s.Shows Set.univ w') (notifyWakeup (interruptCondition level)) r true r (s.Shows Set.univ (wake w'))) :
    ∃ w', sameBut level (wake w) w'
      ∧ s.Ends (s.Shows Set.univ w) (notifyLevels n wakeups woken) r true r (s.Shows Set.univ w') := by
  induction n generalizing w with
  | zero => omega
  | succ m ih =>
    unfold notifyLevels
    by_cases hm : level = m
    · subst hm
      obtain ⟨-, hkeep, hends⟩ := hwake w fun _ _ => rfl
      refine ⟨_, sameBut_markWakeups wakeups (by omega) (le_refl _), ?_⟩
      rw [if_pos hbit]
      refine ends_bind hends (ends_notifyLevels_idle hi hd (by omega) (fun l hl => ⟨hw l (by omega), trivial⟩)
        fun l hl => ?_)
      rw [hkeep l (by omega) (by omega)]
      exact hempty l (by omega) (by omega)
    · have hmark : sameBut level w (markLevel m wakeups w) := sameBut_markLevel wakeups (by omega) (Ne.symm hm)
      obtain ⟨hfirst, -, -⟩ := hwake _ hmark
      obtain ⟨w', hw', hends⟩ := ih (w := markLevel m wakeups w) (by omega) (by omega) (fun l hl => hw l (by omega))
        (fun l hl hne => by
          rw [markLevel_other _ _ (interruptCondition_ne (by omega) (by omega) (by omega))]
          exact hempty l (by omega) hne)
        fun w' hw' => by
          obtain ⟨hsame, hkeep, hends⟩ := hwake w' (sameBut_trans hmark hw')
          exact ⟨fun va hva => (hsame va hva).trans (hfirst va hva).symm, hkeep, hends⟩
      refine ⟨w', sameBut_trans hfirst hw', ?_⟩
      by_cases hbit' : wakeups.getLsbD (15 - m) = true
      · rw [if_pos hbit']
        rw [markLevel, if_pos hbit'] at hends
        exact ends_bind (ends_notifyWakeup_idle hi hd (hw m (by omega)) trivial (hempty m (by omega) (Ne.symm hm))) hends
      · rw [if_neg hbit']
        rw [markLevel, if_neg hbit'] at hends
        exact hends

end

/-! ### The checks of the main loop with interrupts enabled (60_exceptions.md R802, R803, R812) -/

section

variable {s r r1 r2 : State} {P P1 P2 : List Host.Cell → Prop} {wakeups : Word} {now : LongWord}

theorem ends_interruptPending (hw : r.wdc = 0) (hwk : wakeups = r.wp ||| Config.wakeups r.draw) :
    s.Ends P interruptPending r (wakeups != 0) { r with wp := wakeups, draw := r.draw + 1 } P := by
  have hsample : s.Ends P sampleWakeups r wakeups { r with wp := wakeups, draw := r.draw + 1 } P := by
    subst hwk
    exact fun map mem hs hP => ⟨map, mem, rfl, hs, hP⟩
  refine ends_getState fun map mem => ?_
  rw [if_pos (show (r.withMemory map mem).wdc = 0 from hw)]
  exact ends_bind hsample (ends_pure _)

/-- Where a wakeup is pending, `WP` is cleared and its levels are notified. -/
theorem ends_checkForInterrupts {b : Bool} (hw : r.wdc = 0) (hwk : wakeups = r.wp ||| Config.wakeups r.draw)
    (hne : wakeups ≠ 0) (hn : s.Ends P (notifyLevels 16 wakeups false) { r with wp := 0, draw := r.draw + 1 } b
      { r with wp := 0, draw := r.draw + 1 } P1) :
    s.Ends P checkForInterrupts r b { r with wp := 0, draw := r.draw + 1 } P1 := by
  refine ends_bind (ends_interruptPending hw hwk) ?_
  rw [if_pos (bne_iff_ne.mpr hne)]
  exact ends_getState fun _ _ => ends_bind (ends_update (f := fun s => { s with wp := 0 })) hn

theorem markWakeups_zero (n : Nat) (w : LongWord → Word) : markWakeups n 0 w = w := by
  induction n with
  | zero => rfl
  | succ level ih => rw [markWakeups, markLevel, if_neg (by simp), ih]

/-- Where no process waits on an interrupt condition, the wakeups are kept in the conditions. -/
theorem ends_checkForInterrupts_idle {A : Set LongWord} {w : LongWord → Word} (hi : s.Inv) (hd : r.devices = [])
    (hw : r.wdc = 0) (hwk : wakeups = r.wp ||| Config.wakeups r.draw)
    (hwrite : ∀ level < 16, s.canWrite (interruptCondition level) = true ∧ interruptCondition level ∈ A)
    (hempty : ∀ level < 16, indexField (w (interruptCondition level)) = 0) :
    s.Ends (s.Shows A w) checkForInterrupts r false { r with wp := 0, draw := r.draw + 1 }
      (s.Shows A (markWakeups 16 wakeups w)) := by
  by_cases hne : wakeups = 0
  · rw [hne, markWakeups_zero]
    refine ends_bind (ends_interruptPending hw (hne ▸ hwk)) ?_
    exact ends_pure false
  · exact ends_checkForInterrupts hw hwk hne (ends_notifyLevels_idle (r := { r with wp := 0, draw := r.draw + 1 })
      hi hd (le_refl _) hwrite hempty)

theorem ends_sampleTimer (hnow : now = r.it + Config.pulses r.draw) :
    s.Ends P sampleTimer r now { r with it := now, draw := r.draw + 1 } P := by
  subst hnow
  exact fun map mem hs hP => ⟨map, mem, rfl, hs, hP⟩

/-- Where no tick is due, the check of the timeouts samples `IT` alone. -/
theorem ends_checkForTimeouts_early (hw : r.wdc = 0) (hnow : now = r.it + Config.pulses r.draw)
    (hearly : (now - r.time).toNat < Config.timeOutInterval) :
    s.Ends P checkForTimeouts r false { r with it := now, draw := r.draw + 1 } P := by
  refine ends_getState fun map mem => ?_
  rw [if_pos (show (r.withMemory map mem).wdc = 0 from hw)]
  refine ends_bind (ends_sampleTimer hnow) ?_
  rw [if_neg (show ¬ Config.timeOutInterval ≤ (now - (r.withMemory map mem).time).toNat from Nat.not_le.mpr hearly)]
  exact ends_pure false

theorem ends_checkEvents {a b : Bool} (hI : s.Ends P checkForInterrupts r a r1 P1) (hT : s.Ends P1 checkForTimeouts r1 b r2 P2) :
    s.Ends P checkEvents r (a || b) r2 P2 := ends_bind hI (ends_bind hT (ends_pure _))

end

/-! ### The scan of the timeouts (60_exceptions.md R812) -/

/-- The words after the process `p`, alone on its ring, has timed out and is ready, the only one: the queue it leaves is not
known, so its cleanup link is set (48_process_instructions.md R701, R702). -/
def timeoutWords (p : BitVec 10) (w : LongWord → Word) : LongWord → Word :=
  joinEmpty readyQueue p (Function.update (Function.update w (psbFlags p)
    (withIndex (withBit (w (psbFlags p)) waitingBit false) p)) (psbTimeout p) 0)

section

variable {s r : State} {w : LongWord → Word}

/-- A process that times out. -/
theorem ends_timeout {β : Type} {b : β} {r1 : State} {P1 : List Host.Cell → Prop} {p : BitVec 10} {f : Unit → M β}
    (hi : s.Inv) (hd : r.devices = []) (hp : 8 ≤ p.toNat) (hq : s.canWrite readyQueue = true)
    (hl : s.canWrite (psbLink p) = true) (hfl : s.canWrite (psbFlags p) = true) (ht : s.canWrite (psbTimeout p) = true)
    (hempty : indexField (w readyQueue) = 0) (hring : indexField (w (psbLink p)) = p)
    (hf : s.Ends (s.Shows Set.univ (timeoutWords p w)) (f ()) r b r1 P1) :
    s.Ends (s.Shows Set.univ w) (memRead (psbFlags p) >>= fun flags =>
      memWrite (psbFlags p) (withBit flags waitingBit false) >>= fun _ => memWrite (psbTimeout p) 0 >>= fun _ =>
      requeue 0 readyQueue p >>= f) r b r1 P1 := by
  have hp0 : p ≠ 0 := by rintro rfl; exact absurd hp (by decide)
  have hpsb := psb_toNat p
  have hready := readyQueue_toNat
  have hrequeue : s.Ends (s.Shows Set.univ (Function.update (Function.update w (psbFlags p)
      (withBit (w (psbFlags p)) waitingBit false)) (psbTimeout p) 0)) (requeue 0 readyQueue p) r () r
      (s.Shows Set.univ (timeoutWords p w)) := by
    have hflags : Function.update (Function.update w (psbFlags p) (withBit (w (psbFlags p)) waitingBit false))
        (psbTimeout p) 0 (psbFlags p) = withBit (w (psbFlags p)) waitingBit false := by
      rw [update_other (by omega), Function.update_self]
    unfold requeue
    rw [if_neg hp0]
    refine ends_bind (ends_dequeue_unknown hi hd (canRead_of_canWrite hl) hfl ?_) ?_
    · rw [update_other (by omega), update_other (by omega), hring]
    · rw [hflags, Function.update_comm (address_ne (by omega)), Function.update_idem]
      refine ends_enqueue_empty hi hd hq hl ?_
      rw [update_other (by omega), update_other (by omega), hempty]
  exact ends_bind (ends_read hd (canRead_of_canWrite hfl)) (ends_bind (ends_write hi hd hfl)
    (ends_bind (ends_write hi hd ht) (ends_bind hrequeue hf)))

theorem ofNat_toNat_psb {n : Nat} (h : n < 1024) : (BitVec.ofNat 10 n).toNat = n := by
  rw [BitVec.toNat_ofNat]
  omega

/-- A process whose timeout it is not is passed over. -/
theorem ends_timeoutScan_pass {n psb : Nat} {woken b : Bool} {r1 : State} {P1 : List Host.Cell → Prop} (hd : r.devices = [])
    (hr : s.canRead (psbTimeout (BitVec.ofNat 10 psb)) = true) (hne : w (psbTimeout (BitVec.ofNat 10 psb)) ≠ r.ptc)
    (h : s.Ends (s.Shows Set.univ w) (timeoutScan n (psb + 1) woken) r b r1 P1) :
    s.Ends (s.Shows Set.univ w) (timeoutScan (n + 1) psb woken) r b r1 P1 := by
  refine ends_bind (ends_read hd hr) (ends_getState fun map mem => ?_)
  rw [if_neg fun hdue => hne hdue.2]
  exact h

/-- The scan where it is no process's timeout. -/
theorem ends_timeoutScan_none {n psb : Nat} {woken : Bool} (hd : r.devices = []) (hn : psb + n ≤ 1024)
    (h : ∀ q : BitVec 10, psb ≤ q.toNat → q.toNat < psb + n →
      s.canRead (psbTimeout q) = true ∧ w (psbTimeout q) ≠ r.ptc) :
    s.Ends (s.Shows Set.univ w) (timeoutScan n psb woken) r woken r (s.Shows Set.univ w) := by
  induction n generalizing psb with
  | zero => exact ends_pure woken
  | succ n ih =>
    have hpsb := ofNat_toNat_psb (n := psb) (by omega)
    obtain ⟨hr, hne⟩ := h (BitVec.ofNat 10 psb) (by omega) (by omega)
    exact ends_timeoutScan_pass hd hr hne (ih (by omega) fun q h1 h2 => h q (by omega) (by omega))

/-- The scan where it is the timeout of one process alone. -/
theorem ends_timeoutScan_one {n psb : Nat} {woken : Bool} {p : BitVec 10} (hi : s.Inv) (hd : r.devices = [])
    (hn : psb + n ≤ 1024) (hp : 8 ≤ p.toNat) (hfrom : psb ≤ p.toNat) (hto : p.toNat < psb + n) (hptc : r.ptc ≠ 0)
    (hdue : w (psbTimeout p) = r.ptc)
    (h : ∀ q : BitVec 10, psb ≤ q.toNat → q.toNat < psb + n →
      s.canRead (psbTimeout q) = true ∧ (q ≠ p → w (psbTimeout q) ≠ r.ptc))
    (hq : s.canWrite readyQueue = true) (hl : s.canWrite (psbLink p) = true) (hfl : s.canWrite (psbFlags p) = true)
    (ht : s.canWrite (psbTimeout p) = true) (hempty : indexField (w readyQueue) = 0)
    (hring : indexField (w (psbLink p)) = p) :
    s.Ends (s.Shows Set.univ w) (timeoutScan n psb woken) r true r (s.Shows Set.univ (timeoutWords p w)) := by
  induction n generalizing psb with
  | zero => omega
  | succ n ih =>
    have hpsb := ofNat_toNat_psb (n := psb) (by omega)
    obtain ⟨hr, hne⟩ := h (BitVec.ofNat 10 psb) (by omega) (by omega)
    by_cases hbegin : psb = p.toNat
    · have hip : BitVec.ofNat 10 psb = p := BitVec.eq_of_toNat_eq (by omega)
      rw [hip] at hr
      have hready := readyQueue_toNat
      have hpa := psb_toNat p
      refine ends_bind (by rw [hip]; exact ends_read hd hr) (ends_getState fun map mem => ?_)
      rw [hip, if_pos ⟨hdue ▸ hptc, hdue⟩]
      refine ends_timeout hi hd hp hq hl hfl ht hempty hring (ends_timeoutScan_none hd (by omega) fun q h1 h2 => ?_)
      obtain ⟨hrq, hneq⟩ := h q (by omega) (by omega)
      have hqa := psb_toNat q
      refine ⟨hrq, ?_⟩
      rw [timeoutWords, joinEmpty, update_other (by omega), update_other (by omega), update_other (by omega),
        update_other (by omega)]
      exact hneq fun he => by rw [he] at h1; omega
    · exact ends_timeoutScan_pass hd hr (hne fun he => hbegin (by rw [← he, hpsb]))
        (ih (by omega) (by omega) (by omega) fun q h1 h2 => h q (by omega) (by omega))

/-- The check of the timeouts where a tick is due, and it is the timeout of one process alone (60_exceptions.md R812). -/
theorem ends_checkForTimeouts_due {p : BitVec 10} {now : LongWord} {count ptc : Word} (hd : r.devices = [])
    (hw : r.wdc = 0) (hnow : now = r.it + Config.pulses r.draw) (hlate : Config.timeOutInterval ≤ (now - r.time).toNat)
    (hptc : ptc = if r.ptc + 1 = 0 then 1 else r.ptc + 1) (hrcount : s.canRead pdaCount = true)
    (hcount : w pdaCount = count) (hbound : 8 + count.toNat ≤ 1024)
    (hscan : s.Ends (s.Shows Set.univ w) (timeoutScan count.toNat 8 false)
      { r with it := now, draw := r.draw + 1, time := now, ptc := ptc } true
      { r with it := now, draw := r.draw + 1, time := now, ptc := ptc } (s.Shows Set.univ (timeoutWords p w))) :
    s.Ends (s.Shows Set.univ w) checkForTimeouts r true
      { r with it := now, draw := r.draw + 1, time := now, ptc := ptc } (s.Shows Set.univ (timeoutWords p w)) := by
  refine ends_getState fun map mem => ?_
  rw [if_pos (show (r.withMemory map mem).wdc = 0 from hw)]
  refine ends_bind (ends_sampleTimer hnow) ?_
  rw [if_pos (show Config.timeOutInterval ≤ (now - (r.withMemory map mem).time).toNat from hlate)]
  refine ends_bind (ends_update (r := { r with it := now, draw := r.draw + 1 })
    (f := fun s => { s with time := now, ptc := if s.ptc + 1 = 0 then 1 else s.ptc + 1 })) ?_
  dsimp only
  rw [← hptc]
  refine ends_bind (ends_read hd hrcount) ?_
  rw [hcount, if_neg (by omega)]
  exact hscan

end

/-! ### A transfer leaves the machine running (48_process_instructions.md R720) -/

/-- The processor runs a process. -/
def Runs (s : State) : Prop := s.running = true

theorem runs_mapAddress (va : LongWord) (op : Access) : Keeps Runs (mapAddress va op) := by
  intro s h
  have hafter : Runs s.afterDevices := (State.afterDevices_running s).trans h
  rcases mapAddress_cases va op s with ⟨a, ht, he⟩ | ⟨e, ht, he⟩ <;> rw [he]
  · rw [State.mark_eq]
    exact hafter
  · exact hafter

theorem runs_memRead (va : LongWord) : Keeps Runs (memRead va) := keeps_bind (runs_mapAddress _ _) fun _ _ h => h

theorem runs_memWrite (va : LongWord) (v : Word) : Keeps Runs (memWrite va v) :=
  keeps_bind (runs_mapAddress _ _) fun _ => keeps_update fun _ h => h

theorem runs_memReadMds (p : Word) : Keeps Runs (memReadMds p) := keeps_bind (keeps_getState _) fun _ => runs_memRead _

theorem runs_memWriteMds (p v : Word) : Keeps Runs (memWriteMds p v) :=
  keeps_bind (keeps_getState _) fun _ => runs_memWrite _ _

theorem runs_readDblMds (p : Word) : Keeps Runs (readDblMds p) :=
  keeps_bind (keeps_getState _) fun _ => keeps_bind (runs_memRead _) fun _ => keeps_bind (runs_memRead _) fun _ => keeps_pure _ _

theorem runs_push (v : Word) : Keeps Runs (push v) := by
  intro s h
  rcases push_cases v s with ⟨_, he⟩ | ⟨_, he⟩ <;> rw [he] <;> exact h

theorem runs_discard : Keeps Runs discard := by
  intro s h
  unfold discard
  by_cases hsp : 0 < s.sp.val
  · rw [if_pos hsp]
    exact h
  · rw [if_neg hsp]
    exact h

theorem runs_findFrame (n : Nat) (slot : Word) : Keeps Runs (findFrame n slot) := by
  induction n generalizing slot with
  | zero => exact keeps_raise _ _
  | succ n ih =>
    exact keeps_bind (runs_memReadMds _) fun _ => keeps_ite (keeps_ite (keeps_raise _ _) (ih _)) (keeps_pure _ _)

theorem runs_alloc (fsi : Word) : Keeps Runs (alloc fsi) :=
  keeps_bind (runs_findFrame _ _) fun (_, _) => keeps_ite (keeps_raise _ _) (keeps_ite (keeps_raise _ _)
    (keeps_bind (runs_memReadMds _) fun _ => keeps_bind (runs_memWriteMds _ _) fun _ => keeps_pure _ _))

theorem runs_freeFrame (frame : Word) : Keeps Runs (freeFrame frame) :=
  keeps_bind (runs_memReadMds _) fun _ => keeps_bind (runs_memReadMds _) fun _ =>
    keeps_bind (runs_memWriteMds _ _) fun _ => runs_memWriteMds _ _

theorem runs_checkForXferTraps (dst : LongWord) (type : XferType) : Keeps Runs (checkForXferTraps dst type) :=
  keeps_bind (keeps_getState _) fun _ => keeps_ite
    (keeps_bind (runs_memReadMds _) fun _ =>
      keeps_ite (keeps_bind (keeps_update fun _ h => h) fun _ => keeps_raise _ _) (keeps_pure _ _))
    (keeps_update fun _ h => h)

theorem runs_resolveLink (n : Nat) (type : XferType) (link : LongWord) (followed : Bool) :
    Keeps Runs (resolveLink n type link followed) := by
  induction n generalizing link followed with
  | zero => exact keeps_raise _ _
  | succ n ih =>
    exact keeps_ite (keeps_ite (keeps_raise _ _) (keeps_bind (runs_readDblMds _) fun _ => ih _ _)) (keeps_pure _ _)

theorem runs_loadCodeBase (gf : Word) : Keeps Runs (loadCodeBase gf) :=
  keeps_bind (runs_readDblMds _) fun _ => keeps_bind (keeps_update fun _ h => h) fun _ =>
    keeps_ite (keeps_raise _ _) (keeps_pure _ _)

theorem runs_enterProcedure (pc gf returnLink : Word) : Keeps Runs (enterProcedure pc gf returnLink) :=
  keeps_bind (keeps_bind (keeps_getState _) fun _ => runs_memRead _) fun _ => keeps_bind (runs_alloc _) fun _ =>
    keeps_bind (runs_memWriteMds _ _) fun _ => keeps_bind (runs_memWriteMds _ _) fun _ => keeps_pure _ _

theorem runs_xferProcedure (dst link : LongWord) (src : Word) : Keeps Runs (xferProcedure dst link src) :=
  keeps_bind (keeps_update fun _ h => h) fun _ => keeps_when (keeps_raise _ _) (keeps_bind (runs_loadCodeBase _) fun _ =>
    keeps_when (keeps_raise _ _) (keeps_bind (runs_enterProcedure _ _ _) fun _ => keeps_pure _ _))

theorem runs_xferFrame (dst link : LongWord) (src : Word) (type : XferType) : Keeps Runs (xferFrame dst link src type) := by
  unfold xferFrame
  dsimp only
  exact keeps_when (keeps_raise _ _) (keeps_bind (runs_memReadMds _) fun _ => keeps_bind (keeps_update fun _ h => h) fun _ =>
    keeps_when (keeps_raise _ _) (keeps_bind (runs_loadCodeBase _) fun _ => keeps_bind (runs_memReadMds _) fun _ =>
    keeps_when (keeps_raise _ _) (keeps_ite
      (keeps_bind (runs_memWriteMds _ _) fun _ => keeps_bind (keeps_update fun _ h => h) fun _ => keeps_pure _ _)
      (keeps_pure _ _))))

theorem runs_xfer (dst : LongWord) (src : Word) (type : XferType) (free : Bool) : Keeps Runs (xfer dst src type free) := by
  have hlast : ∀ frame pc : Word, Keeps Runs (do
      let s ← getState
      if free then freeFrame s.lf
      update fun s => { s with lf := frame, pc := pc }
      checkForXferTraps dst type) :=
    fun _ _ => keeps_bind (keeps_getState _) fun _ => keeps_when (runs_freeFrame _)
      (keeps_bind (keeps_update fun _ h => h) fun _ => runs_checkForXferTraps _ _)
  have hrest : ∀ (followed : Bool) (p : Word × Word), Keeps Runs (do
      if followed then do
        push (lowHalf dst)
        push src
        discard
        discard
      let s ← getState
      if free then freeFrame s.lf
      update fun s => { s with lf := p.1, pc := p.2 }
      checkForXferTraps dst type) :=
    fun _ p => keeps_ite (keeps_bind (runs_push _) fun _ => keeps_bind (runs_push _) fun _ => keeps_bind runs_discard fun _ =>
      keeps_bind runs_discard fun _ => hlast p.1 p.2) (hlast p.1 p.2)
  exact keeps_bind (runs_resolveLink _ _ _ _) fun (_, followed) =>
    keeps_ite (keeps_bind (runs_xferProcedure _ _ _) (hrest followed)) (keeps_bind (runs_xferFrame _ _ _ _) (hrest followed))

/-- What `Reschedule` does with the process it has chosen (48_process_instructions.md R720). -/
def resume (chosen : Option (BitVec 10)) : M Unit :=
  match chosen with
  | some psb => do
    update fun s => { s with psb := psb, pc := 0, savedPC := 0 }
    let frame ← loadProcess
    update fun s => { s with lf := frame, running := true }
    xfer (zextLong frame) 0 .processSwitch false
  | none => do
    let s ← getState
    if s.wdc = 0 then update fun s => { s with running := false } else raise rescheduleError

theorem reschedule_eq (preemption : Bool) : reschedule preemption =
    (getState >>= fun s => if s.running then saveProcess preemption >>= fun _ => chooseProcess >>= resume
      else chooseProcess >>= resume) := rfl

/-- A process is resumed and runs, or none was chosen and interrupts are enabled. -/
theorem resume_running {chosen : Option (BitVec 10)} {s t : State} (h : resume chosen s = .ok () t) :
    t.running = true ∨ t.wdc = 0 := by
  cases chosen with
  | some psb =>
    obtain ⟨_, _, -, h⟩ := bind_eq_ok.mp h
    obtain ⟨frame, s2, -, h⟩ := bind_eq_ok.mp h
    obtain ⟨_, s3, hset, h⟩ := bind_eq_ok.mp h
    cases hset
    have hruns := runs_xfer (zextLong frame) 0 .processSwitch false { s2 with lf := frame, running := true } rfl
    rw [h] at hruns
    exact .inl hruns
  | none =>
    rw [resume, getState_bind] at h
    by_cases hw : s.wdc = 0
    · rw [if_pos hw] at h
      cases h
      exact .inr hw
    · rw [if_neg hw] at h
      cases h

/-- `Reschedule` stops the processor only with interrupts enabled (48_process_instructions.md R720). -/
theorem reschedule_running {preemption : Bool} {s t : State} (h : reschedule preemption s = .ok () t) :
    t.running = true ∨ t.wdc = 0 := by
  rw [reschedule_eq, getState_bind] at h
  by_cases hrun : s.running = true
  · rw [if_pos hrun] at h
    obtain ⟨_, _, -, h⟩ := bind_eq_ok.mp h
    obtain ⟨_, _, -, h⟩ := bind_eq_ok.mp h
    exact resume_running h
  · rw [if_neg hrun] at h
    obtain ⟨_, _, -, h⟩ := bind_eq_ok.mp h
    exact resume_running h

/-! ### The process that `Reschedule` resumes (48_process_instructions.md R720, R723) -/

/-- By the words `w`, the process `p` heads the ready queue and, where it comes to run, begins in the frame `frame` of the MDS
`mds`: it has no state vector, none is needed at once, and it has not failed. -/
structure State.FreshAt (s : State) (w : LongWord → Word) (p : BitVec 10) (mds frame : Word) : Prop where
  queue : s.canRead readyQueue = true
  some : indexField (w readyQueue) ≠ 0
  tail : s.canRead (psbLink (indexField (w readyQueue))) = true
  head : indexField (w (psbLink (indexField (w readyQueue)))) = p
  link : s.canRead (psbLink p) = true
  context : s.canRead (psbContext p) = true
  data : s.canRead (psbMds p) = true
  list : s.canRead (stateList (linkPriority (w (psbLink p)))) = true
  permanent : (w (psbLink p)).getLsbD permanentBit = false
  preempted : (w (psbLink p)).getLsbD preemptedBit = false
  failed : (w (psbLink p)).getLsbD failedBit = false
  vector : w (stateList (linkPriority (w (psbLink p)))) ≠ 0
  frameWord : w (psbContext p) = frame
  mdsWord : w (psbMds p) = mds

/-- The registers where the process `p` has been resumed in the given context. -/
def State.resumed (r : State) (p : BitVec 10) (mds frame gf : Word) (cb : LongWord) (pc : Word) : State :=
  { r with psb := p, savedPC := 0, mds := mds, lf := frame, running := true, gf := gf, cb := cb, pc := pc, xts := r.xts >>> 1 }

section

variable {s r : State} {w : LongWord → Word} {p : BitVec 10} {mds frame gf pc : Word} {cb : LongWord}

theorem ends_chooseProcess (hd : r.devices = []) (h : s.FreshAt w p mds frame) :
    s.Ends (s.Shows Set.univ w) chooseProcess r (some p) r (s.Shows Set.univ w) := by
  have hvector : s.Ends (s.Shows Set.univ w) (emptyState (linkPriority (w (psbLink p)))) r false r (s.Shows Set.univ w) := by
    rw [← beq_false_of_ne h.vector]
    exact ends_bind (ends_read hd h.list) (ends_pure _)
  have hrunnable : s.Ends (s.Shows Set.univ w) (findRunnable ringBound (indexField (w readyQueue))
      (w (psbLink (indexField (w readyQueue))))) r (some p) r (s.Shows Set.univ w) := by
    unfold ringBound findRunnable
    dsimp only
    rw [h.head]
    refine ends_bind (ends_read hd h.link) ?_
    rw [h.permanent, h.preempted]
    exact ends_bind hvector (ends_bind (ends_pure true) (ends_pure (some p)))
  unfold chooseProcess
  refine ends_bind (ends_read hd h.queue) ?_
  rw [if_neg h.some]
  exact ends_bind (ends_read hd h.tail) hrunnable

/-- A process with neither a state vector nor the failed bit: its frame and MDS are in its PSB (48_process_instructions.md
R723). -/
theorem ends_loadProcess (hd : r.devices = []) (hp : r.psb = p) (h : s.FreshAt w p mds frame) :
    s.Ends (s.Shows Set.univ w) loadProcess r frame { r with mds := mds } (s.Shows Set.univ w) := by
  refine ends_noAbort _ (ends_getState fun map mem => ?_)
  have hpsb : (r.withMemory map mem).psb = p := hp
  rw [hpsb]
  refine ends_bind (ends_read hd h.link) (ends_bind (ends_read hd h.context) ?_)
  rw [h.preempted, h.failed, h.permanent, h.frameWord]
  refine ends_bind (ends_pure frame) (ends_bind (ends_read hd h.data) ?_)
  rw [h.mdsWord]
  exact ends_bind (ends_update (f := fun s => { s with mds := mds })) (ends_pure frame)

theorem lowHalf_zextLong (v : Word) : lowHalf (zextLong v) = v := by
  refine BitVec.eq_of_toNat_eq ?_
  have := v.isLt
  simp only [lowHalf, zextLong, BitVec.toNat_setWidth]
  omega

theorem ends_resume (hd : r.devices = []) (hx : r.xts.getLsbD 0 = false) (h : s.FreshAt w p mds frame)
    (hf : s.framedIn (s.Shows Set.univ w) mds frame gf cb pc) (htag : frame &&& 3 = 0) :
    s.Ends (s.Shows Set.univ w) (chooseProcess >>= resume) r () (r.resumed p mds frame gf cb pc) (s.Shows Set.univ w) := by
  have hlow : lowHalf (zextLong frame) = frame := lowHalf_zextLong frame
  have hload := ends_loadProcess (r := { r with psb := p, pc := 0, savedPC := 0 }) hd rfl h
  have harm := ends_xferFrame (dst := zextLong frame) (link := zextLong frame) (src := 0) (type := .processSwitch)
    (r := { r with psb := p, pc := 0, savedPC := 0, mds := mds, lf := frame, running := true }) hd
    (hlow.symm ▸ hf) (by decide)
  have hxfer := ends_xfer_of_frame (by rw [hlow]; exact htag) harm hx
  rw [hlow] at hxfer
  exact ends_bind (ends_chooseProcess hd h)
    (ends_bind (ends_update (f := fun s => { s with psb := p, pc := 0, savedPC := 0 })) (ends_bind hload
      (ends_bind (ends_update (f := fun s => { s with lf := frame, running := true })) hxfer)))

/-- With no process running nothing is saved (48_process_instructions.md R720). -/
theorem ends_reschedule_stopped {preemption : Bool} {P P1 : List Host.Cell → Prop} {r1 : State} (hrun : r.running = false)
    (h : s.Ends P (chooseProcess >>= resume) r () r1 P1) : s.Ends P (reschedule preemption) r () r1 P1 := by
  rw [reschedule_eq]
  refine ends_getState fun map mem => ?_
  rw [if_neg (show ¬ (r.withMemory map mem).running = true from fun h => Bool.false_ne_true (hrun.symm.trans h))]
  exact h

theorem ends_reschedule_running {preemption : Bool} {P P1 P2 : List Host.Cell → Prop} {r1 r2 : State}
    (hrun : r.running = true) (hsave : s.Ends P (saveProcess preemption) r () r1 P1) (h : s.Ends P1 (chooseProcess >>= resume) r1 () r2 P2) :
    s.Ends P (reschedule preemption) r () r2 P2 := by
  rw [reschedule_eq]
  refine ends_getState fun map mem => ?_
  rw [if_pos (show (r.withMemory map mem).running = true from hrun)]
  exact ends_bind hsave h

/-! ### The frame of the process, in an MDS of its own -/

theorem mkLong_succ {low : Word} (high : Word) (h : low ≠ 0xFFFF) : mkLong low high + 1 = mkLong (low + 1) high := by
  have hlow := low.isLt
  have hne : low.toNat ≠ 65535 := fun he => h (BitVec.eq_of_toNat_eq he)
  have hhigh := high.isLt
  refine BitVec.eq_of_toNat_eq ?_
  rw [BitVec.toNat_add, mkLong_toNat, mkLong_toNat, BitVec.toNat_add]
  simp only [BitVec.reduceToNat]
  omega

/-- A context in an MDS other than the one of the Process Data Area is not touched by stores there. -/
theorem framedIn_of_hasFrame {b : State} (htrans : b.sameTranslation s) (hmds : mds ≠ 1) (hgf : gf ≠ 1)
    (hf : State.hasFrame { b with mds := mds } frame gf cb pc)
    (hw : ∀ va, s.canRead va = true → va.toNat / 65536 ≠ 1 → w va = b.wordAt va) :
    s.framedIn (s.Shows Set.univ w) mds frame gf cb pc := by
  intro mem hm
  have hone : mds.toNat ≠ 1 := fun he => hmds (BitVec.eq_of_toNat_eq he)
  have hread : ∀ va, State.canRead { s with mds := mds, mem := mem } va = State.canRead { b with mds := mds } va :=
    fun va => congrArg Except.isOk (htrans va .read).symm
  have hword : ∀ p, State.canRead { b with mds := mds } (mkLong p mds) = true →
      State.wordAt { s with mds := mds, mem := mem } (mkLong p mds) = State.wordAt { b with mds := mds } (mkLong p mds) := by
    intro p hr
    have hp := p.isLt
    have hout : (mkLong p mds).toNat / 65536 ≠ 1 := by rw [mkLong_toNat]; omega
    exact (hm.words _ ((hread _).trans hr)).trans (hw _ ((hread _).trans hr) hout)
  have hnext : mkLong (gf - 2) mds + 1 = mkLong (gf - 2 + 1) mds :=
    mkLong_succ mds fun he => hgf (by bv_omega)
  obtain ⟨hframe, htag, hgf0, hpc, heven, hreads, hgfAt, hcbAt, hpcAt⟩ := hf
  have hreads' := hreads
  simp only [State.canReadAll, List.all_cons, List.all_nil, Bool.and_true, Bool.and_eq_true] at hreads'
  obtain ⟨hrGf, hrLow, hrHigh, hrPc⟩ := hreads'
  refine ⟨hframe, htag, hgf0, hpc, heven, ?_, (hword _ hrGf).trans hgfAt, ?_, (hword _ hrPc).trans hpcAt⟩
  · rw [← hreads]
    simp only [State.canReadAll, List.all_cons, List.all_nil, hread]
    rfl
  · rw [← hcbAt]
    have hlow := hword _ hrLow
    have hhigh : State.wordAt { s with mds := mds, mem := mem } (mkLong (gf - 2) mds + 1)
        = State.wordAt { b with mds := mds } (mkLong (gf - 2) mds + 1) := by
      rw [hnext]
      exact hword _ (hnext ▸ hrHigh)
    exact congrArg₂ mkLong hlow hhigh

end

/-! ### The save of a process that is preempted (48_process_instructions.md R722, R725, 47_control_transfers.md R652) -/

theorem pdaAddress_add {offset : Word} {k : Nat} (h : offset.toNat + k < 65536) :
    pdaAddress offset + BitVec.ofNat 32 k = pdaAddress (offset + BitVec.ofNat 16 k) := by
  refine BitVec.eq_of_toNat_eq ?_
  rw [BitVec.toNat_add, pdaAddress_toNat, pdaAddress_toNat, BitVec.toNat_add, BitVec.toNat_ofNat, BitVec.toNat_ofNat]
  omega

theorem vectorWord_toNat_eq {offset : Word} {k : Nat} (h : offset.toNat + k < 65536) :
    (pdaAddress (offset + BitVec.ofNat 16 k)).toNat = 65536 + offset.toNat + k := by
  rw [vectorWord_toNat]
  omega

/-- The words after words `i`, `i + 1`, ..., `n` of them, are stored at a state vector. -/
def vectorWords (offset : Word) (slot : Nat → Word) (n i : Nat) (w : LongWord → Word) : LongWord → Word :=
  match n with
  | 0 => w
  | n + 1 => vectorWords offset slot n (i + 1) (Function.update w (pdaAddress (offset + BitVec.ofNat 16 i)) (slot i))

theorem vectorWords_other {offset : Word} {slot : Nat → Word} {n i : Nat} {w : LongWord → Word} {va : LongWord}
    (h : offset.toNat + i + n ≤ 65536)
    (hva : va.toNat < 65536 + offset.toNat + i ∨ 65536 + offset.toNat + i + n ≤ va.toNat) :
    vectorWords offset slot n i w va = w va := by
  induction n generalizing i w with
  | zero => rfl
  | succ n ih =>
    have hi := vectorWord_toNat_eq (offset := offset) (k := i) (by omega)
    rw [vectorWords, ih (by omega) (by omega), update_other (by omega)]

theorem vectorWords_slot {offset : Word} {slot : Nat → Word} {n i k : Nat} {w : LongWord → Word}
    (h : offset.toNat + i + n ≤ 65536) (hfrom : i ≤ k) (hto : k < i + n) :
    vectorWords offset slot n i w (pdaAddress (offset + BitVec.ofNat 16 k)) = slot k := by
  induction n generalizing i w with
  | zero => omega
  | succ n ih =>
    rw [vectorWords]
    by_cases hk : k = i
    · have hi := vectorWord_toNat_eq (offset := offset) (k := i) (by omega)
      rw [hk, vectorWords_other (by omega) (by omega), Function.update_self]
    · exact ih (by omega) (by omega) (by omega)

/-- By the words `w`, the current process can be saved in a state vector at `offset`, beyond the PSBs. -/
structure State.PreemptibleAt (s r : State) (w : LongWord → Word) (offset next : Word) : Prop where
  psb : 8 ≤ r.psb.toNat
  mds : r.mds ≠ 1
  pc : 8 ≤ r.pc.toNat
  link : s.canWrite (psbLink r.psb) = true
  context : s.canWrite (psbContext r.psb) = true
  frame : s.canWrite (s.lengthen (r.lf - 1)) = true
  permanent : (w (psbLink r.psb)).getLsbD permanentBit = false
  list : s.canWrite (stateList (linkPriority (w (psbLink r.psb)))) = true
  head : w (stateList (linkPriority (w (psbLink r.psb)))) = offset
  beyond : 0x2000 ≤ offset.toNat
  within : offset.toNat ≤ 0xFFEE
  vector : ∀ k < 16, s.canWrite (pdaAddress (offset + BitVec.ofNat 16 k)) = true
  nextWord : w (pdaAddress offset) = next

/-- The words after the current process is saved in the state vector at `offset`. -/
def State.preemptWords (r : State) (offset next : Word) (w : LongWord → Word) : LongWord → Word :=
  Function.update (Function.update (Function.update (Function.update (vectorWords offset r.slot (min (r.sp.val + 2) 14) 0
    (Function.update (Function.update w (r.lengthen (r.lf - 1)) r.pc) (stateList (linkPriority (w (psbLink r.psb)))) next))
    (pdaAddress (offset + 14)) (bytePair r.brk (BitVec.ofNat 8 r.sp.val))) (pdaAddress (offset + 15)) r.lf)
    (psbContext r.psb) offset) (psbLink r.psb) (withBit (w (psbLink r.psb)) preemptedBit true)

section

variable {s r : State} {w : LongWord → Word} {offset next : Word}

theorem ends_saveWords (hi : s.Inv) (hd : r.devices = []) {n i : Nat} (h : offset.toNat + i + n ≤ 65536)
    (hw : ∀ k < i + n, s.canWrite (pdaAddress (offset + BitVec.ofNat 16 k)) = true) :
    s.Ends (s.Shows Set.univ w) (saveWords (pdaAddress offset) n i) r () r
      (s.Shows Set.univ (vectorWords offset r.slot n i w)) := by
  induction n generalizing i w with
  | zero => exact ends_pure ()
  | succ n ih =>
    refine ends_getState fun map mem => ?_
    rw [pdaAddress_add (by omega)]
    exact ends_bind (ends_write hi hd (hw i (by omega))) (ih (by omega) fun k hk => hw k (by omega))

theorem ends_allocState {pri : BitVec 3} (hi : s.Inv) (hd : r.devices = []) (hl : s.canWrite (stateList pri) = true)
    (hr : s.canRead (pdaAddress offset) = true) (hne : offset ≠ 0) (hhead : w (stateList pri) = offset)
    (hnext : w (pdaAddress offset) = next) :
    s.Ends (s.Shows Set.univ w) (allocState pri) r (pdaAddress offset) r
      (s.Shows Set.univ (Function.update w (stateList pri) next)) := by
  unfold allocState
  refine ends_bind (ends_read hd (canRead_of_canWrite hl)) ?_
  rw [hhead, if_neg hne]
  refine ends_bind (ends_read hd hr) ?_
  rw [hnext]
  exact ends_bind (ends_write hi hd hl) (ends_pure _)

theorem highHalf_mkLong (low high : Word) : highHalf (mkLong low high) = high := by
  refine BitVec.eq_of_toNat_eq ?_
  have hlow := low.isLt
  have hhigh := high.isLt
  rw [highHalf, BitVec.extractLsb'_toNat, mkLong_toNat, Nat.shiftRight_eq_div_pow]
  omega

theorem lowHalf_mkLong (low high : Word) : lowHalf (mkLong low high) = low := by
  refine BitVec.eq_of_toNat_eq ?_
  have hlow := low.isLt
  have hhigh := high.isLt
  rw [lowHalf, BitVec.toNat_setWidth, mkLong_toNat]
  omega

theorem offsetPda_pdaAddress (offset : Word) : offsetPda (pdaAddress offset) = pure offset := by
  rw [offsetPda, pdaAddress, if_pos (highHalf_mkLong _ _), lowHalf_mkLong]

theorem ends_saveStack (hi : s.Inv) (hd : r.devices = []) (h : offset.toNat ≤ 0xFFEE)
    (hw : ∀ k < 16, s.canWrite (pdaAddress (offset + BitVec.ofNat 16 k)) = true) :
    s.Ends (s.Shows Set.univ w) (saveStack (pdaAddress offset)) r () { r with sp := 0, savedSP := 0, brk := 0 }
      (s.Shows Set.univ (Function.update (vectorWords offset r.slot (min (r.sp.val + 2) 14) 0 w) (pdaAddress (offset + 14))
        (bytePair r.brk (BitVec.ofNat 8 r.sp.val)))) := by
  have hword : pdaAddress offset + 14 = pdaAddress (offset + 14) := pdaAddress_add (k := 14) (by omega)
  refine ends_getState fun map mem => ends_bind (ends_saveWords hi hd ?_ ?_) ?_
  · have : min ((r.withMemory map mem).sp.val + 2) 14 ≤ 14 := Nat.min_le_right _ _
    omega
  · have : min ((r.withMemory map mem).sp.val + 2) 14 ≤ 14 := Nat.min_le_right _ _
    exact fun k hk => hw k (by omega)
  · rw [hword]
    exact ends_bind (ends_write hi hd (hw 14 (by omega)))
      (ends_update (f := fun s => { s with sp := 0, savedSP := 0, brk := 0 }))

/-- A process without a state vector of its own is saved in the one that heads the list of its priority. -/
theorem ends_saveProcess (hi : s.Inv) (hd : r.devices = []) (hmds : s.mds = r.mds) (h : s.PreemptibleAt r w offset next) :
    s.Ends (s.Shows Set.univ w) (saveProcess true) r () { r with sp := 0, savedSP := 0, brk := 0 }
      (s.Shows Set.univ (r.preemptWords offset next w)) := by
  have hbeyond := h.beyond
  have hwithin := h.within
  have hlen : s.lengthen (r.lf - 1) = r.lengthen (r.lf - 1) := congrArg (mkLong _) hmds
  have hlenNat := lengthen_toNat r (r.lf - 1)
  have hone : r.mds.toNat ≠ 1 := fun he => h.mds (BitVec.eq_of_toNat_eq he)
  have hlf := (r.lf - 1).isLt
  have hlistNat := stateList_toNat (linkPriority (w (psbLink r.psb)))
  have hpri := (linkPriority (w (psbLink r.psb))).isLt
  have hoffsetNat := pdaAddress_toNat offset
  have hword15 : pdaAddress offset + 15 = pdaAddress (offset + 15) := pdaAddress_add (k := 15) (by omega)
  have hsave : s.Ends (s.Shows Set.univ w) savePC r () r
      (s.Shows Set.univ (Function.update w (r.lengthen (r.lf - 1)) r.pc)) :=
    ends_savePC hd h.pc (hlen ▸ h.frame) fun mem hm => shows_write hi (hlen ▸ h.frame) (Set.mem_univ _) hm
  have halloc := ends_allocState (w := Function.update w (r.lengthen (r.lf - 1)) r.pc) (r := r) (offset := offset)
    (next := next) hi hd h.list (canRead_of_canWrite (by simpa using h.vector 0 (by omega)))
    (by rintro rfl; exact absurd hbeyond (by decide)) (by rw [update_other (by omega), h.head])
    (by rw [update_other (by omega), h.nextWord])
  refine ends_noAbort _ (ends_getState fun map mem => ends_bind (ends_read hd (canRead_of_canWrite h.link)) ?_)
  refine ends_bind hsave ?_
  dsimp only [State.withMemory]
  rw [if_pos rfl, h.permanent]
  refine ends_bind halloc (ends_bind (ends_saveStack hi hd hwithin h.vector) ?_)
  rw [hword15]
  refine ends_bind (ends_write hi hd (h.vector 15 (by omega))) ?_
  rw [if_neg Bool.false_ne_true, offsetPda_pdaAddress]
  exact ends_bind (ends_pure offset) (ends_bind (ends_write hi hd h.context) (ends_write hi hd h.link))

end

/-! ### A step that begins with an event (30_encoding.md R170) -/

section

variable {s r r1 r2 b : State} {A : Set LongWord} {w w1 w2 : LongWord → Word} {p : BitVec 10} {mds frame gf pc : Word}
  {cb : LongWord}

theorem wordAt_of_shows {map : List (Nat × MapEntry)} {mem : List Host.Cell} {va : LongWord} (hs : s.sameAccess map)
    (h : s.Shows A w mem) (hr : s.canRead va = true) : (r.withMemory map mem).wordAt va = w va :=
  (wordAt_withMemory hs r mem va).trans (h.words va hr)

/-- An event brings the processor to `Reschedule` (30_encoding.md R170). -/
theorem step_event (hs : r.afterDevices = s) (hi : s.Inv) (hb : s.booted = true)
    (hevents : s.Ends (s.Shows Set.univ s.wordAt) checkEvents s true r1 (s.Shows Set.univ w1))
    (hresched : s.Ends (s.Shows Set.univ w1) (reschedule true) r1 () r2 (s.Shows Set.univ w2)) :
    ∃ map mem, step r = .next (r2.withMemory map mem) ∧ s.sameAccess map ∧ s.Shows Set.univ w2 mem := by
  have hc : s.mapCanonical = true := by obtain ⟨-, hc, -⟩ := hi; exact hc
  obtain ⟨map1, mem1, hrun1, hmap1, hmem1⟩ := hevents s.map s.mem (sameAccess_self hc) (shows_self hi)
  obtain ⟨map2, mem2, hrun2, hmap2, hmem2⟩ := hresched map1 mem1 hmap1 hmem1
  have hself : checkEvents s = .ok true (r1.withMemory map1 mem1) := hrun1
  refine ⟨map2, mem2, ?_, hmap2, hmem2⟩
  rw [step, hs, processorStep, if_pos hb, iterate, hself]
  exact run_ok hrun2

/-- The process that heads the ready queue is resumed where it can be started in `b`, whose words are those of `w` but for
links and words of the Process Data Area that its start does not look at. -/
theorem ends_resume_startable (hd : r.devices = []) (hx : r.xts.getLsbD 0 = false) (htrans : b.sameTranslation s)
    (hst : b.startable p false mds frame gf cb pc) (hqueue : s.canRead readyQueue = true)
    (hsome : indexField (w readyQueue) ≠ 0) (htail : s.canRead (psbLink (indexField (w readyQueue))) = true)
    (hhead : indexField (w (psbLink (indexField (w readyQueue)))) = p) (hlink : s.canRead (psbLink p) = true)
    {i : BitVec 10} (hlinkWord : w (psbLink p) = withIndex (b.wordAt (psbLink p)) i)
    (hcontext : w (psbContext p) = b.wordAt (psbContext p)) (hdata : w (psbMds p) = b.wordAt (psbMds p))
    (hlist : w (stateList (b.priorityOf p)) = b.wordAt (stateList (b.priorityOf p)))
    (hout : ∀ va, s.canRead va = true → va.toNat / 65536 ≠ 1 → w va = b.wordAt va) :
    s.Ends (s.Shows Set.univ w) (chooseProcess >>= resume) r () (r.resumed p mds frame gf cb pc) (s.Shows Set.univ w) := by
  obtain ⟨hreads, hperm, hpre, hfail, hvector, hframe, hmdsWord, hmds, hgf, hf⟩ := hst
  simp only [State.canReadAll, List.all_cons, List.all_nil, Bool.and_true, Bool.and_eq_true] at hreads
  obtain ⟨hrContext, hrMds, hrList⟩ := hreads
  have hread : ∀ va, b.canRead va = true → s.canRead va = true := fun va h =>
    (congrArg Except.isOk (htrans va .read)).symm.trans h
  have hpriority : linkPriority (w (psbLink p)) = b.priorityOf p := by rw [hlinkWord, linkPriority_withIndex]; rfl
  have hfresh : s.FreshAt w p mds frame :=
    { queue := hqueue, some := hsome, tail := htail, head := hhead, link := hlink
      context := hread _ hrContext, data := hread _ hrMds, list := by rw [hpriority]; exact hread _ hrList
      permanent := by rw [hlinkWord, getLsbD_withIndex _ _ (by decide), hperm]
      preempted := by rw [hlinkWord, getLsbD_withIndex _ _ (by decide), hpre]
      failed := by rw [hlinkWord, getLsbD_withIndex _ _ (by decide), hfail]
      vector := by rw [hpriority, hlist]; exact hvector
      frameWord := hcontext.trans hframe, mdsWord := hdata.trans hmdsWord }
  have htag : frame &&& 3 = 0 := by obtain ⟨-, htag, -⟩ := hf; exact htag
  exact ends_resume hd hx hfresh (framedIn_of_hasFrame htrans hmds hgf hf hout) htag

end

/-! ### Polling with interrupts enabled (60_exceptions.md R802, R803) -/

/-- The registers after the checks of the main loop. -/
def State.polled (s : State) (now : LongWord) : State := { s with wp := 0, it := now, draw := s.draw + 1 + 1 }

/-- The checks of the main loop find interrupts enabled, and no device acts within the step; `now` is what `IT` holds when it is
sampled (60_exceptions.md R802, R812). -/
structure State.Checks (s : State) (now : LongWord) : Prop where
  devices : s.devices = []
  inv : s.Inv
  enabled : s.wdc = 0
  timer : now = s.it + Config.pulses (s.draw + 1)

/-- `WP` holds a wakeup of the level, on whose condition at `c` the process `p` alone waits; no process waits on another
condition, and no tick is due. -/
structure State.Wakes (s : State) (level : Nat) (c : LongWord) (p : BitVec 10) (now : LongWord) : Prop where
  level_lt : level < 16
  condition : c = interruptCondition level
  wakeup : s.wp.getLsbD (15 - level) = true
  waiters : s.noWaiter level
  alone : s.aloneIn c p
  early : (now - s.time).toNat < Config.timeOutInterval

/-- A tick is due, and of the `count` processes it is the timeout of `p` alone; `ptc` is the new tick (60_exceptions.md
R812). -/
structure State.TimesOut (s : State) (p : BitVec 10) (count ptc : Word) (now : LongWord) : Prop where
  late : Config.timeOutInterval ≤ (now - s.time).toNat
  tick : ptc = if s.ptc + 1 = 0 then 1 else s.ptc + 1
  count_read : s.canRead pdaCount = true
  count_eq : count = s.wordAt pdaCount
  bound : 8 + count.toNat ≤ 1024
  psb : 8 ≤ p.toNat
  psb_lt : p.toNat < 8 + count.toNat
  due : s.wordAt (psbTimeout p) = ptc
  others : ∀ q : BitVec 10, 8 ≤ q.toNat → q.toNat < 8 + count.toNat →
    s.canRead (psbTimeout q) = true ∧ (q ≠ p → s.wordAt (psbTimeout q) ≠ ptc)

/-- The conditions of the interrupt levels. -/
def conditions : Set LongWord := { va | ∃ level < 16, va = interruptCondition level }

section

variable {s r : State} {now : LongWord}

/-- No process waits on an interrupt condition and no tick is due. -/
theorem checkEvents_polls (hs : s.Checks now) (hidle : s.noWaiter 16)
    (hearly : (now - s.time).toNat < Config.timeOutInterval) :
    ∃ map mem, checkEvents s = .ok false ((s.polled now).withMemory map mem) ∧ s.sameAccess map
      ∧ s.Shows conditions (markWakeups 16 (s.wp ||| Config.wakeups s.draw) s.wordAt) mem := by
  obtain ⟨hd, hi, hw, hnow⟩ := hs
  have hc : s.mapCanonical = true := by obtain ⟨-, hc, -⟩ := hi; exact hc
  have hwrite : ∀ level < 16, s.canWrite (interruptCondition level) = true ∧ interruptCondition level ∈ conditions :=
    fun level hl => ⟨(hidle level hl).1, level, hl, rfl⟩
  have hempty : ∀ level < 16, indexField (s.wordAt (interruptCondition level)) = 0 :=
    fun level hl => (hidle level hl).2 (by omega)
  have hI := ends_checkForInterrupts_idle (r := s) hi hd hw rfl hwrite hempty
  have hT := ends_checkForTimeouts_early (s := s) (P := s.Shows conditions
    (markWakeups 16 (s.wp ||| Config.wakeups s.draw) s.wordAt)) (r := { s with wp := 0, draw := s.draw + 1 }) hw hnow hearly
  exact ends_checkEvents hI hT s.map s.mem (sameAccess_self hc) (shows_self hi)

/-- One waiting process is made ready by its wakeup; `join` is what its entry in the ready queue makes of the words. -/
theorem ends_checkEvents_wakes {level : Nat} {c : LongWord} {p : BitVec 10} {join : (LongWord → Word) → LongWord → Word}
    (hs : s.Checks now) (hwakes : s.Wakes level c p now)
    (hsame : ∀ w w', sameBut level w w' → sameBut level (join w) (join w'))
    (hkeep : ∀ w, ∀ l < 16, join w (interruptCondition l) = w (interruptCondition l))
    (hjoin : ∀ w', sameBut level s.wordAt w' → s.Ends (s.Shows Set.univ (wakeWords c p w')) (enqueue readyQueue p)
      { s with wp := 0, draw := s.draw + 1 } () { s with wp := 0, draw := s.draw + 1 }
      (s.Shows Set.univ (join (wakeWords c p w')))) :
    ∃ w', sameBut level (join (wakeWords c p s.wordAt)) w'
      ∧ s.Ends (s.Shows Set.univ s.wordAt) checkEvents s true (s.polled now) (s.Shows Set.univ w') := by
  obtain ⟨hd, hi, hw, hnow⟩ := hs
  obtain ⟨hlevel, hlc, hwp, hwait, halone, hearly⟩ := hwakes
  obtain ⟨hp, hwrites, htail, hring, hcleanup⟩ := halone
  simp only [State.canWriteAll, List.all_cons, List.all_nil, Bool.and_true, Bool.and_eq_true] at hwrites
  obtain ⟨hq, hl, hf, ht⟩ := hwrites
  have hcNat : c.toNat = 65552 + 2 * level := hlc ▸ interruptCondition_toNat level hlevel
  have hpsb := psb_toNat p
  have hbit : (s.wp ||| Config.wakeups s.draw).getLsbD (15 - level) = true := by
    rw [BitVec.getLsbD_or, hwp, Bool.true_or]
  have hnotify := ends_notifyLevels_wakes (s := s) (r := { s with wp := 0, draw := s.draw + 1 }) (w := s.wordAt)
    (wakeups := s.wp ||| Config.wakeups s.draw) (woken := false) (wake := fun w => join (wakeWords c p w)) (n := 16) hi hd
    (le_refl _) hlevel hbit (fun l hl => (hwait l hl).1) (fun l hl hne => (hwait l hl).2 hne) fun w' hw' => ?_
  · obtain ⟨w', hw', hn⟩ := hnotify
    refine ⟨w', hw', ends_checkEvents (ends_checkForInterrupts hw rfl (fun h0 => ?_) hn) (ends_checkForTimeouts_early
      (r := { s with wp := 0, draw := s.draw + 1 }) hw hnow hearly)⟩
    rw [h0] at hbit
    simp at hbit
  · have hwc : w' c = s.wordAt c := hlc ▸ sameBut_condition hw' hlevel
    have hwl : w' (psbLink p) = s.wordAt (psbLink p) := sameBut_outside hw' (by omega)
    have hwf : w' (psbFlags p) = s.wordAt (psbFlags p) := sameBut_outside hw' (by omega)
    refine ⟨hsame _ _ ?_, fun l hl hne => ?_, ?_⟩
    · unfold wakeWords
      exact sameBut_update (sameBut_update (sameBut_update hw' _ (by rw [hwf])) _ rfl) _ (by rw [hwc])
    · have hlNat := interruptCondition_toNat l hl
      rw [hkeep _ l hl, wakeWords, update_other (by omega), update_other (by omega), update_other (by omega)]
    · rw [← hlc]
      refine ends_notifyWakeup_wakes (r := { s with wp := 0, draw := s.draw + 1 }) hi hd ?_ (hjoin w' hw')
      exact { psb := hp, area := by omega, below := by omega, queue := hq, link := hl, flags := hf, timeout := ht
              tail := by rw [hwc, htail], ring := by rw [hwl, hring], noCleanup := by rw [hwf, hcleanup] }

end

/-! ### The events of the main loop (60_exceptions.md R802 to R804, R812) -/

section

variable {r s : State} {now : LongWord} {p : BitVec 10} {mds frame gf pc : Word} {cb : LongWord} {c : LongWord} {level : Nat}

/-- A step with no event. -/
theorem step_polls (hs : r.afterDevices = s) (hchecks : s.Checks now) (hb : s.booted = true) (hidle : s.noWaiter 16)
    (hearly : (now - s.time).toNat < Config.timeOutInterval) :
    ∃ t, checkEvents s = .ok false t ∧ step r = (if s.running then execute t else .next t)
      ∧ t.wp = 0 ∧ t.it = now ∧ s.sameProcess { t with wp := s.wp, it := s.it, draw := s.draw } ∧ s.sameContext t
      ∧ t.stack = s.stack ∧ t.sp = s.sp ∧ s.sameTranslation t
      ∧ (∀ level, level < 16 → t.wordAt (interruptCondition level) =
          if (s.wp ||| Config.wakeups s.draw).getLsbD (15 - level) then
            withBit (s.wordAt (interruptCondition level)) wakeupBit true
          else s.wordAt (interruptCondition level))
      ∧ ∀ key, (∀ level, level < 16 → key / 2 ≠ s.realAddress (interruptCondition level)) →
          t.byteAt key = s.byteAt key := by
  obtain ⟨map, mem, hrun, hmap, hshows⟩ := checkEvents_polls hchecks hidle hearly
  refine ⟨_, hrun, ?_, rfl, rfl, ?_, ?_, rfl, rfl, fun va op => (translate_withMemory hmap _ mem va op).symm,
    fun l hl => ?_, fun key hkey => hshows.bytes key ?_⟩
  · rw [step, hs, processorStep, if_pos hb, iterate, hrun]
    rfl
  · exact ⟨rfl, rfl, rfl, rfl, rfl, rfl, rfl, rfl, rfl, rfl, rfl, rfl, rfl, rfl, rfl, rfl⟩
  · exact ⟨rfl, rfl, rfl, rfl, rfl, rfl⟩
  · obtain ⟨hwrite, -⟩ := hidle l hl
    rw [wordAt_of_shows hmap hshows (canRead_of_canWrite hwrite), markWakeups_condition _ (le_refl _) hl]
  · rintro va ⟨l, hl, rfl⟩
    exact hkey l hl

/-- A process is in the ready queue of `t` alone (48_process_instructions.md R675). -/
theorem holdsQueue_one {t : State} {que : LongWord} (hq : t.canWrite que = true) (hp : 8 ≤ p.toNat)
    (hl : t.canWrite (psbLink p) = true) (hqueue : indexField (t.wordAt que) = p)
    (hring : indexField (t.wordAt (psbLink p)) = p) : t.holdsQueue que [p] := by
  refine ⟨hq, hqueue, List.nodup_singleton p, fun k hk => ?_⟩
  obtain rfl : k = 0 := by rw [List.length_singleton] at hk; omega
  exact ⟨hp, hl, by simpa using hring⟩

/-- Two processes are in the queue at `que` of `t`, `p` at its head. -/
theorem holdsQueue_two {t : State} {que : LongWord} {q : BitVec 10} (hne : p ≠ q) (hq : t.canWrite que = true)
    (hp : 8 ≤ p.toNat) (hp' : 8 ≤ q.toNat) (hl : t.canWrite (psbLink p) = true) (hl' : t.canWrite (psbLink q) = true)
    (hqueue : indexField (t.wordAt que) = q) (hring : indexField (t.wordAt (psbLink p)) = q)
    (hring' : indexField (t.wordAt (psbLink q)) = p) : t.holdsQueue que [p, q] := by
  refine ⟨hq, hqueue, by simp [hne], fun k hk => ?_⟩
  have hk : k = 0 ∨ k = 1 := by simp only [List.length_cons, List.length_nil] at hk; omega
  rcases hk with rfl | rfl
  · exact ⟨hp, hl, hring⟩
  · exact ⟨hp', hl', by simpa using hring'⟩

/-- An event that leaves one process ready, with none running, starts it. -/
theorem step_starts {r1 : State} {w : LongWord → Word} (hs : r.afterDevices = s) (hi : s.Inv) (hb : s.booted = true)
    (hd : r1.devices = []) (hx : r1.xts.getLsbD 0 = false) (hrun : r1.running = false) (hp : 8 ≤ p.toNat)
    (hevents : s.Ends (s.Shows Set.univ s.wordAt) checkEvents s true r1 (s.Shows Set.univ w))
    (hst : s.startable p false mds frame gf cb pc) (hq : s.canWrite readyQueue = true)
    (hl : s.canWrite (psbLink p) = true) (hqueue : indexField (w readyQueue) = p)
    (hlink : w (psbLink p) = withIndex (s.wordAt (psbLink p)) p) (hcontext : w (psbContext p) = s.wordAt (psbContext p))
    (hdata : w (psbMds p) = s.wordAt (psbMds p))
    (hlist : w (stateList (s.priorityOf p)) = s.wordAt (stateList (s.priorityOf p)))
    (hout : ∀ va, va.toNat / 65536 ≠ 1 → w va = s.wordAt va) :
    ∃ map mem t, t = (r1.resumed p mds frame gf cb pc).withMemory map mem ∧ step r = .next t ∧ s.sameAccess map
      ∧ s.Shows Set.univ w mem ∧ t.holdsQueue readyQueue [p] := by
  have hp0 : p ≠ 0 := by rintro rfl; exact absurd hp (by decide)
  have hresume := ends_resume_startable (r := r1) (w := w) hd hx (fun _ _ => rfl) hst (canRead_of_canWrite hq)
    (by rw [hqueue]; exact hp0) (by rw [hqueue]; exact canRead_of_canWrite hl)
    (by rw [hqueue, hlink, indexField_withIndex]) (canRead_of_canWrite hl) hlink hcontext hdata hlist
    fun va _ => hout va
  obtain ⟨map, mem, hstep, hmap, hshows⟩ := step_event hs hi hb hevents (ends_reschedule_stopped hrun hresume)
  refine ⟨map, mem, _, rfl, hstep, hmap, hshows, holdsQueue_one ((canWrite_withMemory hmap _ _ _).trans hq) hp
    ((canWrite_withMemory hmap _ _ _).trans hl) ?_ ?_⟩
  · rw [wordAt_of_shows hmap hshows (canRead_of_canWrite hq), hqueue]
  · rw [wordAt_of_shows hmap hshows (canRead_of_canWrite hl), hlink, indexField_withIndex]

/-- A wakeup on an idle machine starts the process that waits for it. -/
theorem step_wakes_idle (hs : r.afterDevices = s) (hchecks : s.Checks now) (hb : s.booted = true)
    (hx : s.xts.getLsbD 0 = false) (hwakes : s.Wakes level c p now) (hrun : s.running = false)
    (hq : s.canWrite readyQueue = true) (hempty : indexField (s.wordAt readyQueue) = 0)
    (hst : s.startable p false mds frame gf cb pc) :
    ∃ t, step r = .next t ∧ t.started p mds frame gf cb pc ∧ t.wp = 0 ∧ t.sp = s.sp ∧ t.stack = s.stack
      ∧ t.holdsQueue readyQueue [p] ∧ indexField (t.wordAt c) = 0 ∧ t.wordAt (psbTimeout p) = 0
      ∧ (t.wordAt (psbFlags p)).getLsbD waitingBit = false := by
  obtain ⟨hd, hi, -, -⟩ := id hchecks
  obtain ⟨hlevel, hlc, -, -, halone, -⟩ := id hwakes
  have hcNat : c.toNat = 65552 + 2 * level := hlc ▸ interruptCondition_toNat level hlevel
  have hready := readyQueue_toNat
  have hpsb := psb_toNat p
  have hlistNat := stateList_toNat (s.priorityOf p)
  have hpri := (s.priorityOf p).isLt
  obtain ⟨hp, hwrites, -, -, -⟩ := halone
  simp only [State.canWriteAll, List.all_cons, List.all_nil, Bool.and_true, Bool.and_eq_true] at hwrites
  obtain ⟨hqc, hl, hf, ht⟩ := hwrites
  have hp0 : p ≠ 0 := by rintro rfl; exact absurd hp (by decide)
  obtain ⟨w, hsame, hevents⟩ := ends_checkEvents_wakes (join := joinEmpty readyQueue p) hchecks hwakes
    (fun w w' h => sameBut_update (sameBut_update h _ (by rw [sameBut_outside h (by omega)])) _
      (by rw [sameBut_outside h (by omega)]))
    (fun w l hl => by
      have hlNat := interruptCondition_toNat l hl
      rw [joinEmpty, update_other (by omega), update_other (by omega)])
    (fun w' hw' => ends_enqueue_empty hi hd hq hl (by
      rw [wakeWords, update_other (by omega), update_other (by omega), update_other (by omega),
        sameBut_outside hw' (by omega), hempty]))
  have hword : ∀ va, va.toNat < 65552 ∨ 65584 ≤ va.toNat → w va = joinEmpty readyQueue p (wakeWords c p s.wordAt) va :=
    fun va => sameBut_outside hsame
  have hqueueWord : w readyQueue = withIndex (s.wordAt readyQueue) p := by
    rw [hword _ (by omega)]
    simp (disch := omega) only [joinEmpty, wakeWords, update_other, Function.update_self]
  have hlinkWord : w (psbLink p) = withIndex (s.wordAt (psbLink p)) p := by
    rw [hword _ (by omega)]
    simp (disch := omega) only [joinEmpty, wakeWords, update_other, Function.update_self]
  have hflagsWord : w (psbFlags p) = withBit (s.wordAt (psbFlags p)) waitingBit false := by
    rw [hword _ (by omega)]
    simp (disch := omega) only [joinEmpty, wakeWords, update_other, Function.update_self]
  have htimeoutWord : w (psbTimeout p) = 0 := by
    rw [hword _ (by omega)]
    simp (disch := omega) only [joinEmpty, wakeWords, update_other, Function.update_self]
  have hcWord : w c = withIndex (s.wordAt c) 0 := by
    rw [hlc, sameBut_condition hsame hlevel, ← hlc]
    simp (disch := omega) only [joinEmpty, wakeWords, update_other, Function.update_self]
  have hother : ∀ va, va.toNat < 65536 ∨ 65536 < va.toNat ∧ va.toNat < 65552 ∨ 65584 ≤ va.toNat →
      (va.toNat < 65536 + 8 * p.toNat ∨ va.toNat = 65536 + 8 * p.toNat + 2 ∨ 65536 + 8 * p.toNat + 4 ≤ va.toNat) →
      w va = s.wordAt va := by
    intro va h h'
    rw [hword _ (by omega)]
    simp (disch := omega) only [joinEmpty, wakeWords, update_other]
  have hpBound := p.isLt
  obtain ⟨map, mem, t, rfl, hstep, hmap, hshows, hholds⟩ := step_starts (r1 := s.polled now) hs hi hb hd hx hrun hp hevents
    hst hq hl (by rw [hqueueWord, indexField_withIndex]) hlinkWord (hother _ (by omega) (by omega)) (hother _ (by omega) (by omega))
    (hother _ (by omega) (by omega)) fun va hva => hother va (by omega) (by omega)
  refine ⟨_, hstep, ⟨rfl, rfl, rfl, rfl, rfl, rfl, rfl⟩, rfl, rfl, rfl, hholds, ?_, ?_, ?_⟩
  · rw [wordAt_of_shows hmap hshows (canRead_of_canWrite hqc), hcWord, indexField_withIndex]
  · rw [wordAt_of_shows hmap hshows (canRead_of_canWrite ht), htimeoutWord]
  · rw [wordAt_of_shows hmap hshows (canRead_of_canWrite hf), hflagsWord, getLsbD_withBit_self _ _ (by decide)]

/-- The registers after the checks of the main loop where a tick is due. -/
def State.ticked (s : State) (now : LongWord) (ptc : Word) : State := { s.polled now with time := now, ptc := ptc }

/-- A tick on an idle machine starts the process whose timeout it is. -/
theorem step_times_out {count ptc : Word} (hs : r.afterDevices = s) (hchecks : s.Checks now) (hb : s.booted = true)
    (hx : s.xts.getLsbD 0 = false) (hidle : s.noWaiter 16) (htimes : s.TimesOut p count ptc now)
    (hrun : s.running = false) (hwrites : s.canWriteAll [readyQueue, psbLink p, psbFlags p, psbTimeout p] = true)
    (hempty : indexField (s.wordAt readyQueue) = 0) (hring : indexField (s.wordAt (psbLink p)) = p)
    (hst : s.startable p false mds frame gf cb pc) :
    ∃ t, step r = .next t ∧ t.started p mds frame gf cb pc ∧ t.ptc = ptc ∧ t.time = now ∧ t.wp = 0 ∧ t.sp = s.sp
      ∧ t.stack = s.stack ∧ t.holdsQueue readyQueue [p] ∧ indexField (t.wordAt (psbFlags p)) = p
      ∧ (t.wordAt (psbFlags p)).getLsbD waitingBit = false ∧ t.wordAt (psbTimeout p) = 0 := by
  obtain ⟨hd, hi, hw, hnow⟩ := hchecks
  obtain ⟨hlate, hptc, hrcount, hcount, hbound, hp, hto, hdue, hscan⟩ := htimes
  simp only [State.canWriteAll, List.all_cons, List.all_nil, Bool.and_true, Bool.and_eq_true] at hwrites
  obtain ⟨hq, hl, hf, ht⟩ := hwrites
  have hready := readyQueue_toNat
  have hcountNat := pdaCount_toNat
  have hpsb := psb_toNat p
  have hlistNat := stateList_toNat (s.priorityOf p)
  have hpri := (s.priorityOf p).isLt
  have hpBound := p.isLt
  have hptc0 : ptc ≠ 0 := by
    rw [hptc]
    by_cases h0 : s.ptc + 1 = 0
    · rw [if_pos h0]
      decide
    · rw [if_neg h0]
      exact h0
  have hI := ends_checkForInterrupts_idle (s := s) (r := s) (A := Set.univ) (w := s.wordAt) hi hd hw rfl
    (fun level hl => ⟨(hidle level hl).1, trivial⟩) fun level hl => (hidle level hl).2 (by omega)
  have hmark : ∀ va, va.toNat < 65552 ∨ 65584 ≤ va.toNat →
      markWakeups 16 (s.wp ||| Config.wakeups s.draw) s.wordAt va = s.wordAt va :=
    fun va h => markWakeups_other _ fun _ hl => not_condition h hl
  generalize markWakeups 16 (s.wp ||| Config.wakeups s.draw) s.wordAt = w at hI hmark
  have hevents := ends_checkEvents hI (ends_checkForTimeouts_due (r := { s with wp := 0, draw := s.draw + 1 }) (p := p) hd hw
    hnow hlate hptc hrcount (by rw [hmark _ (by omega), ← hcount]) hbound
    (ends_timeoutScan_one hi hd (by omega) hp hp hto hptc0 (by rw [hmark _ (by omega), hdue]) (fun q h1 h2 => by
      have hqNat := psb_toNat q
      rw [hmark _ (by omega)]
      exact hscan q h1 h2) hq hl hf ht (by rw [hmark _ (by omega), hempty]) (by rw [hmark _ (by omega), hring])))
  have hqueueWord : timeoutWords p w readyQueue = withIndex (s.wordAt readyQueue) p := by
    simp (disch := omega) only [timeoutWords, joinEmpty, update_other, Function.update_self, hmark]
  have hlinkWord : timeoutWords p w (psbLink p) = withIndex (s.wordAt (psbLink p)) p := by
    simp (disch := omega) only [timeoutWords, joinEmpty, update_other, Function.update_self, hmark]
  have hflagsWord : timeoutWords p w (psbFlags p) = withIndex (withBit (s.wordAt (psbFlags p)) waitingBit false) p := by
    simp (disch := omega) only [timeoutWords, joinEmpty, update_other, Function.update_self, hmark]
  have htimeoutWord : timeoutWords p w (psbTimeout p) = 0 := by
    simp (disch := omega) only [timeoutWords, joinEmpty, update_other, Function.update_self]
  have hother : ∀ va, va.toNat < 65536 ∨ 65536 < va.toNat ∧ va.toNat < 65552 ∨ 65584 ≤ va.toNat →
      (va.toNat < 65536 + 8 * p.toNat ∨ va.toNat = 65536 + 8 * p.toNat + 2 ∨ 65536 + 8 * p.toNat + 4 ≤ va.toNat) →
      timeoutWords p w va = s.wordAt va := by
    intro va h h'
    simp (disch := omega) only [timeoutWords, joinEmpty, update_other, hmark]
  obtain ⟨map, mem, t, rfl, hstep, hmap, hshows, hholds⟩ := step_starts (r1 := s.ticked now ptc) hs hi hb hd hx hrun hp
    hevents hst hq hl (by rw [hqueueWord, indexField_withIndex]) hlinkWord (hother _ (by omega) (by omega))
    (hother _ (by omega) (by omega)) (hother _ (by omega) (by omega)) fun va hva => hother va (by omega) (by omega)
  refine ⟨_, hstep, ⟨rfl, rfl, rfl, rfl, rfl, rfl, rfl⟩, rfl, rfl, rfl, rfl, rfl, hholds, ?_, ?_, ?_⟩
  · rw [wordAt_of_shows hmap hshows (canRead_of_canWrite hf), hflagsWord, indexField_withIndex]
  · rw [wordAt_of_shows hmap hshows (canRead_of_canWrite hf), hflagsWord, getLsbD_withIndex _ _ (by decide),
      getLsbD_withBit_self _ _ (by decide)]
  · rw [wordAt_of_shows hmap hshows (canRead_of_canWrite ht), htimeoutWord]

/-- What a program sees of memory after one store. -/
theorem wordAt_stored_update {va va' : LongWord} {v : Word} (hi : s.Inv) (hw : s.canWrite va = true)
    (hr : s.canRead va' = true) : (s.stored va v).wordAt va' = Function.update s.wordAt va v va' := by
  have hc : s.mapCanonical = true := by obtain ⟨-, hc, -⟩ := hi; exact hc
  rw [wordAt_memoryAfter (memoryAfter_stored hc hw)]
  exact (shows_write (A := Set.univ) hi hw (Set.mem_univ va) (shows_self hi)).words va' hr

section

variable {w : LongWord → Word} {offset next : Word} (hmds : s.mds ≠ 1) (hbeyond : 0x2000 ≤ offset.toNat)
  (hwithin : offset.toNat ≤ 0xFFEE)
include hmds hbeyond hwithin

/-- Words of the Process Data Area that the save of a preempted process does not store to. -/
theorem preemptWords_other {va : LongWord} (harea : va.toNat / 65536 = 1) (hbelow : va.toNat < 65536 + 0x2000)
    (hlist : va.toNat ≠ 65544 + (linkPriority (w (psbLink s.psb))).toNat) (hlink : va.toNat ≠ 65536 + 8 * s.psb.toNat)
    (hcontext : va.toNat ≠ 65536 + 8 * s.psb.toNat + 2) : s.preemptWords offset next w va = w va := by
  have hpsb := psb_toNat s.psb
  have hlistNat := stateList_toNat (linkPriority (w (psbLink s.psb)))
  have hlenNat := lengthen_toNat s (s.lf - 1)
  have hone : s.mds.toNat ≠ 1 := fun he => hmds (BitVec.eq_of_toNat_eq he)
  have hlf := (s.lf - 1).isLt
  have h14 : (pdaAddress (offset + 14)).toNat = 65536 + offset.toNat + 14 := vectorWord_toNat_eq (k := 14) (by omega)
  have h15 : (pdaAddress (offset + 15)).toNat = 65536 + offset.toNat + 15 := vectorWord_toNat_eq (k := 15) (by omega)
  simp (disch := omega) only [State.preemptWords, update_other, vectorWords_other]

omit hmds in
/-- Words outside the Process Data Area change at the one where `PC` is saved alone. -/
theorem preemptWords_outside (hpsb0 : 8 ≤ s.psb.toNat) {va : LongWord} (hout : va.toNat / 65536 ≠ 1) :
    s.preemptWords offset next w va = Function.update w (s.lengthen (s.lf - 1)) s.pc va := by
  have hpsb := psb_toNat s.psb
  have hpsbBound := s.psb.isLt
  have hlistNat := stateList_toNat (linkPriority (w (psbLink s.psb)))
  have hpri := (linkPriority (w (psbLink s.psb))).isLt
  have h14 : (pdaAddress (offset + 14)).toNat = 65536 + offset.toNat + 14 := vectorWord_toNat_eq (k := 14) (by omega)
  have h15 : (pdaAddress (offset + 15)).toNat = 65536 + offset.toNat + 15 := vectorWord_toNat_eq (k := 15) (by omega)
  simp (disch := omega) only [State.preemptWords, update_other, vectorWords_other]

/-- What the save of a preempted process stores (48_process_instructions.md R722, R725, 47_control_transfers.md R652). -/
theorem preemptWords_saved (hpsb0 : 8 ≤ s.psb.toNat) :
    s.preemptWords offset next w (psbLink s.psb) = withBit (w (psbLink s.psb)) preemptedBit true
      ∧ s.preemptWords offset next w (psbContext s.psb) = offset
      ∧ s.preemptWords offset next w (stateList (linkPriority (w (psbLink s.psb)))) = next
      ∧ s.preemptWords offset next w (s.lengthen (s.lf - 1)) = s.pc
      ∧ (∀ k, k < min (s.sp.val + 2) 14 →
        s.preemptWords offset next w (pdaAddress (offset + BitVec.ofNat 16 k)) = s.slot k)
      ∧ s.preemptWords offset next w (pdaAddress (offset + 14)) = bytePair s.brk (BitVec.ofNat 8 s.sp.val)
      ∧ s.preemptWords offset next w (pdaAddress (offset + 15)) = s.lf := by
  have hpsb := psb_toNat s.psb
  have hpsbBound := s.psb.isLt
  have hlistNat := stateList_toNat (linkPriority (w (psbLink s.psb)))
  have hpri := (linkPriority (w (psbLink s.psb))).isLt
  have hlenNat := lengthen_toNat s (s.lf - 1)
  have hone : s.mds.toNat ≠ 1 := fun he => hmds (BitVec.eq_of_toNat_eq he)
  have hlf := (s.lf - 1).isLt
  have h14 : (pdaAddress (offset + 14)).toNat = 65536 + offset.toNat + 14 := vectorWord_toNat_eq (k := 14) (by omega)
  have h15 : (pdaAddress (offset + 15)).toNat = 65536 + offset.toNat + 15 := vectorWord_toNat_eq (k := 15) (by omega)
  have hslots : ∀ k, k < min (s.sp.val + 2) 14 →
      s.preemptWords offset next w (pdaAddress (offset + BitVec.ofNat 16 k)) = s.slot k := by
    intro k hk
    have hkNat : (pdaAddress (offset + BitVec.ofNat 16 k)).toNat = 65536 + offset.toNat + k :=
      vectorWord_toNat_eq (by omega)
    simp (disch := omega) only [State.preemptWords, update_other, vectorWords_slot]
  refine ⟨?_, ?_, ?_, ?_, hslots, ?_, ?_⟩ <;>
    simp (disch := omega) only [State.preemptWords, update_other, vectorWords_other, Function.update_self]

end

end

/-! ### A wakeup that preempts (60_exceptions.md R803, 48_process_instructions.md R720, R722) -/

/-- The words `w` are those of `s` but that the process `p` has left the condition at `c` and stands in the ready queue
before the current process, which was alone there. Of conditions other than `c` nothing is said. -/
structure State.WokenAt (s : State) (w : LongWord → Word) (c : LongWord) (p : BitVec 10) : Prop where
  link : w (psbLink p) = withIndex (s.wordAt (psbLink p)) s.psb
  current : w (psbLink s.psb) = withIndex (s.wordAt (psbLink s.psb)) p
  flags : w (psbFlags p) = withBit (s.wordAt (psbFlags p)) waitingBit false
  timeout : w (psbTimeout p) = 0
  condition : w c = withIndex (s.wordAt c) 0
  other : ∀ va, va.toNat < 65552 ∨ 65584 ≤ va.toNat → va.toNat ≠ 65536 + 8 * s.psb.toNat →
    (va.toNat < 65536 + 8 * p.toNat ∨ va.toNat = 65536 + 8 * p.toNat + 2 ∨ 65536 + 8 * p.toNat + 4 ≤ va.toNat) →
    w va = s.wordAt va

section

variable {r s : State} {now : LongWord} {p : BitVec 10} {mds frame gf pc offset next : Word} {cb c : LongWord} {level : Nat}

/-- Where a process of lower priority runs, the checks of the main loop put the woken process before it. -/
theorem ends_checkEvents_preempts (hchecks : s.Checks now) (hwakes : s.Wakes level c p now) (hsole : s.soleProcess)
    (hne : p ≠ s.psb) (hpri : s.priorityOf s.psb < s.priorityOf p) :
    ∃ w, s.WokenAt w c p ∧ s.Ends (s.Shows Set.univ s.wordAt) checkEvents s true (s.polled now) (s.Shows Set.univ w) := by
  obtain ⟨hd, hi, -, -⟩ := id hchecks
  obtain ⟨hlevel, hlc, -, -, halone, -⟩ := id hwakes
  have hcNat : c.toNat = 65552 + 2 * level := hlc ▸ interruptCondition_toNat level hlevel
  have hready := readyQueue_toNat
  have hpsb := psb_toNat p
  have hqsb := psb_toNat s.psb
  have hneNat : p.toNat ≠ s.psb.toNat := fun he => hne (BitVec.eq_of_toNat_eq he)
  obtain ⟨hp, hwrites, -, -, -⟩ := halone
  obtain ⟨⟨-, hq8, -, -, hwrites', -⟩, hqueue, hring⟩ := hsole
  simp only [State.canWriteAll, List.all_cons, List.all_nil, Bool.and_true, Bool.and_eq_true] at hwrites hwrites'
  obtain ⟨-, hl, -⟩ := hwrites
  obtain ⟨hq, hl', -⟩ := hwrites'
  have hq0 : s.psb ≠ 0 := fun he => by rw [he] at hq8; exact absurd hq8 (by decide)
  obtain ⟨w, hsame, hevents⟩ := ends_checkEvents_wakes (join := joinBefore s.psb p) hchecks hwakes
    (fun w w' h => sameBut_update (sameBut_update h _ (by rw [sameBut_outside h (by omega)])) _
      (by rw [sameBut_outside h (by omega)]))
    (fun w l hl => by
      have hlNat := interruptCondition_toNat l hl
      rw [joinBefore, update_other (by omega), update_other (by omega)])
    (fun w' hw' => by
      have hsee : ∀ va, va.toNat < 65552 ∨ 65584 ≤ va.toNat → va.toNat ≠ 65536 + 8 * p.toNat + 1 →
          va.toNat ≠ 65536 + 8 * p.toNat + 3 → wakeWords c p w' va = s.wordAt va := by
        intro va h h1 h3
        rw [wakeWords, update_other (by omega), update_other (by omega), update_other (by omega), sameBut_outside hw' h]
      refine ends_enqueue_before hi hd (canRead_of_canWrite hq) hl hl' hq0 ?_ ?_ ?_
      · rw [hsee _ (by omega) (by omega) (by omega), hqueue]
      · rw [hsee _ (by omega) (by omega) (by omega), hring]
      · rw [hsee _ (by omega) (by omega) (by omega), hsee _ (by omega) (by omega) (by omega)]
        exact hpri)
  have hword : ∀ va, va.toNat < 65552 ∨ 65584 ≤ va.toNat → w va = joinBefore s.psb p (wakeWords c p s.wordAt) va :=
    fun va => sameBut_outside hsame
  have hcondition : w c = withIndex (s.wordAt c) 0 := by
    rw [hlc, sameBut_condition hsame hlevel, ← hlc]
    simp (disch := omega) only [joinBefore, wakeWords, update_other, Function.update_self]
  refine ⟨w, ⟨?_, ?_, ?_, ?_, hcondition, fun va h hq h' => ?_⟩, hevents⟩
  all_goals
    rw [hword _ (by omega)]
    simp (disch := omega) only [joinBefore, wakeWords, update_other, Function.update_self]

section

variable {w : LongWord → Word} (hwoken : s.WokenAt w c p) (hp : 8 ≤ p.toNat) (hne : p ≠ s.psb) (hsole : s.soleProcess)
  (hvector : s.hasStateVector offset next 16)
include hwoken

theorem linkPriority_wokenAt : linkPriority (w (psbLink s.psb)) = s.priorityOf s.psb := by
  rw [hwoken.current, linkPriority_withIndex]
  rfl

include hsole hvector

include hp in
/-- The current process can be saved after the wakeup as it could before. -/
theorem preemptibleAt_of_wokenAt : s.PreemptibleAt (s.polled now) w offset next := by
  obtain ⟨⟨-, hq8, hmds, hpc, hwrites, hperm⟩, -⟩ := hsole
  obtain ⟨hlist, hhead, hbeyond, hwithin, hvw, hnext⟩ := hvector
  simp only [State.canWriteAll, List.all_cons, List.all_nil, Bool.and_true, Bool.and_eq_true] at hwrites
  obtain ⟨-, hl, -, hx, -, hframe⟩ := hwrites
  have hpsb : (s.polled now).psb = s.psb := rfl
  have hpBound := p.isLt
  have hqBound := s.psb.isLt
  have hlistNat := stateList_toNat (s.priorityOf s.psb)
  have hpri := (s.priorityOf s.psb).isLt
  have hoffsetNat := pdaAddress_toNat offset
  exact
    { psb := hq8, mds := hmds, pc := hpc, link := hl, context := hx, frame := hframe
      permanent := by rw [hpsb, hwoken.current, getLsbD_withIndex _ _ (by decide), hperm]
      list := by rw [hpsb, linkPriority_wokenAt hwoken]; exact hlist
      head := by rw [hpsb, linkPriority_wokenAt hwoken, hwoken.other _ (by omega) (by omega) (by omega), hhead]
      beyond := hbeyond, within := hwithin, vector := hvw
      nextWord := by rw [hwoken.other _ (by omega) (by omega) (by omega), hnext] }

/-- Words of the Process Data Area that the save of the preempted process does not change. -/
theorem savedWord_kept {va : LongWord} (harea : va.toNat / 65536 = 1) (hbelow : va.toNat < 65536 + 0x2000)
    (hlist : va.toNat ≠ 65544 + (s.priorityOf s.psb).toNat) (hlink : va.toNat ≠ 65536 + 8 * s.psb.toNat)
    (hcontext : va.toNat ≠ 65536 + 8 * s.psb.toNat + 2) : s.preemptWords offset next w va = w va := by
  obtain ⟨⟨-, -, hmds, -⟩, -⟩ := hsole
  obtain ⟨-, -, hbeyond, hwithin, -⟩ := hvector
  exact preemptWords_other hmds hbeyond hwithin harea hbelow (by rw [linkPriority_wokenAt hwoken]; exact hlist) hlink hcontext

/-- Words that neither the wakeup nor the save of the preempted process changes. -/
theorem savedWord_other {va : LongWord} (harea : va.toNat = 65536 ∨ 65544 ≤ va.toNat ∧ va.toNat < 65552
      ∨ 65600 ≤ va.toNat ∧ va.toNat < 65536 + 0x2000) (hlist : va.toNat ≠ 65544 + (s.priorityOf s.psb).toNat)
    (hlink : va.toNat ≠ 65536 + 8 * s.psb.toNat) (hcontext : va.toNat ≠ 65536 + 8 * s.psb.toNat + 2)
    (hpsb : va.toNat < 65536 + 8 * p.toNat ∨ va.toNat = 65536 + 8 * p.toNat + 2 ∨ 65536 + 8 * p.toNat + 4 ≤ va.toNat) :
    s.preemptWords offset next w va = s.wordAt va := by
  rw [savedWord_kept hwoken hsole hvector (by omega) (by omega) hlist hlink hcontext,
    hwoken.other _ (by omega) hlink hpsb]

include hp in
/-- Outside the Process Data Area the wakeup and the save change the word of `PC` alone. -/
theorem savedWord_outside (hi : s.Inv) {va : LongWord} (hr : s.canRead va = true) (hout : va.toNat / 65536 ≠ 1) :
    s.preemptWords offset next w va = (s.stored (s.lengthen (s.lf - 1)) s.pc).wordAt va := by
  obtain ⟨⟨-, hq8, -, -, hwrites, -⟩, -⟩ := hsole
  obtain ⟨-, -, hbeyond, hwithin, -⟩ := hvector
  simp only [State.canWriteAll, List.all_cons, List.all_nil, Bool.and_true, Bool.and_eq_true] at hwrites
  obtain ⟨-, -, -, -, -, hframe⟩ := hwrites
  have hpBound := p.isLt
  have hqBound := s.psb.isLt
  rw [preemptWords_outside hbeyond hwithin hq8 hout, wordAt_stored_update hi hframe hr, Function.update_apply,
    Function.update_apply, hwoken.other va (by omega) (by omega) (by omega)]

include hp in
/-- The woken process runs, after the current one is saved. -/
theorem ends_reschedule_preempts (hd : s.devices = []) (hi : s.Inv) (hx : s.xts.getLsbD 0 = false) (hne : p ≠ s.psb)
    (hl : s.canWrite (psbLink p) = true) (hpri : s.priorityOf s.psb < s.priorityOf p)
    (hst : (s.stored (s.lengthen (s.lf - 1)) s.pc).startable p false mds frame gf cb pc) :
    s.Ends (s.Shows Set.univ w) (reschedule true) (s.polled now) ()
      ({ s.polled now with sp := 0, savedSP := 0, brk := 0 }.resumed p mds frame gf cb pc)
      (s.Shows Set.univ (s.preemptWords offset next w)) := by
  have hpreemptible := preemptibleAt_of_wokenAt (now := now) hwoken hp hsole hvector
  have hout := fun va => savedWord_outside (va := va) hwoken hp hsole hvector hi
  have hother := fun va => savedWord_other (va := va) hwoken hsole hvector
  have hkept := fun va => savedWord_kept (va := va) hwoken hsole hvector
  have hc : s.mapCanonical = true := by obtain ⟨-, hc, -⟩ := hi; exact hc
  obtain ⟨⟨hrun, hq8, hmds, -, hwrites, -⟩, hqueue, -⟩ := hsole
  simp only [State.canWriteAll, List.all_cons, List.all_nil, Bool.and_true, Bool.and_eq_true] at hwrites
  obtain ⟨hq, hl', -, -, -, hframe⟩ := hwrites
  obtain ⟨-, -, hbeyond, hwithin, -⟩ := hvector
  have hq0 : s.psb ≠ 0 := fun he => by rw [he] at hq8; exact absurd hq8 (by decide)
  have hready := readyQueue_toNat
  have hpsb := psb_toNat p
  have hpBound := p.isLt
  have hneNat : p.toNat ≠ s.psb.toNat := fun he => hne (BitVec.eq_of_toNat_eq he)
  have hlistNat := stateList_toNat (s.priorityOf p)
  have hpriNat := BitVec.lt_def.mp hpri
  have hpriBound := (s.priorityOf p).isLt
  have hlenNat := lengthen_toNat s (s.lf - 1)
  have hone : s.mds.toNat ≠ 1 := fun he => hmds (BitVec.eq_of_toNat_eq he)
  have hlf := (s.lf - 1).isLt
  have hstored : ∀ va, s.canRead va = true → va.toNat / 65536 = 1 →
      (s.stored (s.lengthen (s.lf - 1)) s.pc).wordAt va = s.wordAt va := by
    intro va hr harea
    rw [wordAt_stored_update hi hframe hr, update_other (by omega)]
  have hstoredLink := hstored (psbLink p) (canRead_of_canWrite hl) (by omega)
  have hstoredPri : (s.stored (s.lengthen (s.lf - 1)) s.pc).priorityOf p = s.priorityOf p :=
    congrArg linkPriority hstoredLink
  have hreads : s.canRead (psbContext p) = true ∧ s.canRead (psbMds p) = true
      ∧ s.canRead (stateList (s.priorityOf p)) = true := by
    obtain ⟨hreads, -⟩ := hst
    simp only [State.canReadAll, List.all_cons, List.all_nil, Bool.and_true, Bool.and_eq_true, hstoredPri,
      canRead_stored hc hframe] at hreads
    exact hreads
  obtain ⟨hrContext, hrMds, hrList⟩ := hreads
  have hqueueWord : indexField (s.preemptWords offset next w readyQueue) = s.psb := by
    rw [hother _ (by omega) (by omega) (by omega) (by omega) (by omega), hqueue]
  obtain ⟨hcurrent, -⟩ := preemptWords_saved (s := s) (w := w) (next := next) hmds hbeyond hwithin hq8
  have hheadWord : indexField (s.preemptWords offset next w (psbLink s.psb)) = p := by
    rw [hcurrent, indexField_withBit _ _ (by decide), hwoken.current, indexField_withIndex]
  refine ends_reschedule_running hrun (ends_saveProcess hi hd rfl hpreemptible)
    (ends_resume_startable (i := s.psb) hd hx (translate_stored hc hframe) hst (canRead_of_canWrite hq) ?_ ?_ ?_
      (canRead_of_canWrite hl) ?_ ?_ ?_ ?_ hout)
  · exact hqueueWord.trans_ne hq0
  · exact hqueueWord.symm ▸ canRead_of_canWrite hl'
  · exact hqueueWord.symm ▸ hheadWord
  · rw [hstoredLink, ← hwoken.link]
    exact hkept _ (by omega) (by omega) (by omega) (by omega) (by omega)
  · rw [hstored _ hrContext (by omega)]
    exact hother _ (by omega) (by omega) (by omega) (by omega) (by omega)
  · rw [hstored _ hrMds (by omega)]
    exact hother _ (by omega) (by omega) (by omega) (by omega) (by omega)
  · rw [hstoredPri, hstored _ hrList (by omega)]
    exact hother _ (by omega) (by omega) (by omega) (by omega) (by omega)

end

/-- A wakeup starts the process that waits for it in place of a running process of lower priority, which is preempted. -/
theorem step_wakes_preempts (hs : r.afterDevices = s) (hchecks : s.Checks now) (hb : s.booted = true)
    (hx : s.xts.getLsbD 0 = false) (hwakes : s.Wakes level c p now) (hsole : s.soleProcess) (hne : p ≠ s.psb)
    (hpri : s.priorityOf s.psb < s.priorityOf p) (hvector : s.hasStateVector offset next 16)
    (hst : (s.stored (s.lengthen (s.lf - 1)) s.pc).startable p false mds frame gf cb pc) :
    ∃ t, step r = .next t ∧ t.started p mds frame gf cb pc ∧ s.preemptedTo t offset next s.pc s.sp ∧ t.wp = 0
      ∧ t.sp = 0 ∧ t.brk = 0 ∧ t.holdsQueue readyQueue [p, s.psb] ∧ indexField (t.wordAt c) = 0
      ∧ t.wordAt (psbTimeout p) = 0 ∧ (t.wordAt (psbFlags p)).getLsbD waitingBit = false := by
  obtain ⟨w, hwoken, hevents⟩ := ends_checkEvents_preempts hchecks hwakes hsole hne hpri
  obtain ⟨hd, hi, -, -⟩ := hchecks
  obtain ⟨hlevel, hlc, -, -, halone, -⟩ := hwakes
  have hkept := fun va => savedWord_kept (va := va) hwoken hsole hvector
  have hother := fun va => savedWord_other (va := va) hwoken hsole hvector
  obtain ⟨hp, hwrites, -, -, -⟩ := halone
  simp only [State.canWriteAll, List.all_cons, List.all_nil, Bool.and_true, Bool.and_eq_true] at hwrites
  obtain ⟨hqc, hl, hf, ht⟩ := hwrites
  obtain ⟨map, mem, hstep, hmap, hshows⟩ := step_event hs hi hb hevents
    (ends_reschedule_preempts hwoken hp hsole hvector hd hi hx hne hl hpri hst)
  obtain ⟨⟨-, hq8, hmds, -, hwrites', -⟩, hqueue, -⟩ := hsole
  simp only [State.canWriteAll, List.all_cons, List.all_nil, Bool.and_true, Bool.and_eq_true] at hwrites'
  obtain ⟨hq, hl', -, hx', -, hframe⟩ := hwrites'
  obtain ⟨hlist, -, hbeyond, hwithin, hvw, -⟩ := hvector
  have hcNat : c.toNat = 65552 + 2 * level := hlc ▸ interruptCondition_toNat level hlevel
  have hready := readyQueue_toNat
  have hpsb := psb_toNat p
  have hpBound := p.isLt
  have hneNat : p.toNat ≠ s.psb.toNat := fun he => hne (BitVec.eq_of_toNat_eq he)
  have hpriBound := (s.priorityOf s.psb).isLt
  have hsee : ∀ va, s.canRead va = true →
      (({ s.polled now with sp := 0, savedSP := 0, brk := 0 }.resumed p mds frame gf cb pc).withMemory map mem).wordAt va =
        s.preemptWords offset next w va := fun va hr => wordAt_of_shows hmap hshows hr
  have hwrite : ∀ va, s.canWrite va = true →
      (({ s.polled now with sp := 0, savedSP := 0, brk := 0 }.resumed p mds frame gf cb pc).withMemory map mem).canWrite va
        = true := fun va h => (canWrite_withMemory hmap _ _ va).trans h
  have hsaved := preemptWords_saved (s := s) (w := w) (next := next) hmds hbeyond hwithin hq8
  rw [linkPriority_wokenAt hwoken] at hsaved
  obtain ⟨hsLink, hsContext, hsList, hsFrame, hsSlots, hsSp, hsLf⟩ := hsaved
  refine ⟨_, hstep, ⟨rfl, rfl, rfl, rfl, rfl, rfl, rfl⟩, ⟨?_, ?_, ?_, ?_, fun k hk => ?_, ?_, ?_⟩, rfl, rfl, rfl,
    holdsQueue_two hne (hwrite _ hq) hp hq8 (hwrite _ hl) (hwrite _ hl') ?_ ?_ ?_, ?_, ?_, ?_⟩
  · rw [hsee _ (canRead_of_canWrite hl'), hsLink, getLsbD_withBit_self _ _ (by decide)]
  · exact (hsee _ (canRead_of_canWrite hx')).trans hsContext
  · exact (hsee _ (canRead_of_canWrite hlist)).trans hsList
  · exact (hsee _ (canRead_of_canWrite hframe)).trans hsFrame
  · exact (hsee _ (canRead_of_canWrite (hvw k (by omega)))).trans (hsSlots k hk)
  · exact (hsee _ (canRead_of_canWrite (hvw 14 (by omega)))).trans hsSp
  · exact (hsee _ (canRead_of_canWrite (hvw 15 (by omega)))).trans hsLf
  · rw [hsee _ (canRead_of_canWrite hq), hother _ (by omega) (by omega) (by omega) (by omega) (by omega), hqueue]
  · rw [hsee _ (canRead_of_canWrite hl), hkept _ (by omega) (by omega) (by omega) (by omega) (by omega), hwoken.link,
      indexField_withIndex]
  · rw [hsee _ (canRead_of_canWrite hl'), hsLink, indexField_withBit _ _ (by decide), hwoken.current, indexField_withIndex]
  · rw [hsee _ (canRead_of_canWrite hqc), hkept _ (by omega) (by omega) (by omega) (by omega) (by omega), hwoken.condition,
      indexField_withIndex]
  · rw [hsee _ (canRead_of_canWrite ht), hkept _ (by omega) (by omega) (by omega) (by omega) (by omega), hwoken.timeout]
  · rw [hsee _ (canRead_of_canWrite hf), hkept _ (by omega) (by omega) (by omega) (by omega) (by omega), hwoken.flags,
      getLsbD_withBit_self _ _ (by decide)]

end

/-- Settles O6. -/
theorem disabledEventsAndIdleLoop : Obligations.DisabledEventsAndIdleLoop := by
  refine ⟨fun s h => checkEvents_disabled h, fun preemption s t h => reschedule_running h, ?_⟩
  intro r s now hs hd hi hb hw hnow
  have hchecks : s.Checks now := ⟨hd, hi, hw, hnow⟩
  refine ⟨fun hidle hearly => step_polls hs hchecks hb hidle hearly, fun p mds frame gf cb pc hx => ⟨?_, ?_⟩⟩
  · intro level c hlevel hlc hwp hwait halone hearly
    have hwakes : s.Wakes level c p now := ⟨hlevel, hlc, hwp, hwait, halone, hearly⟩
    exact ⟨fun hrun hq hempty hst => step_wakes_idle hs hchecks hb hx hwakes hrun hq hempty hst,
      fun offset next hsole hne hpri hvector hst => step_wakes_preempts hs hchecks hb hx hwakes hsole hne hpri hvector hst⟩
  · intro count ptc hidle hlate hptc hrcount hcount hbound hp hto hdue hscan hrun hwrites hempty hring hst
    have htimes : s.TimesOut p count ptc now := ⟨hlate, hptc, hrcount, hcount, hbound, hp, hto, hdue, hscan⟩
    exact step_times_out hs hchecks hb hx hidle htimes hrun hwrites hempty hring hst

end Sys2Proof.Machine

namespace Sys2Proof.Machine

-- As in the tests: many kernel checks at once need more threads than a compile of the whole text may have.
set_option Elab.async false

/-! ### The register instructions -/

/-- An instruction that pushes what a register holds (40_map_register_instructions.md R215 to R218, R220). -/
theorem run_pushRegister {register : State → Word} {s : State} (h : s.sp.val < 14) :
    run (getState >>= fun s => push (register s)) s = .next (s.pushed (register s)) :=
  run_ok ((getState_bind _ s).trans (push_run h))

/-- An instruction that pops a word into a register (40_map_register_instructions.md R224 to R231). -/
theorem run_popRegister {assign : Word → State → State} {s : State} (h : 1 ≤ s.sp.val) :
    run (pop >>= fun v => update (assign v)) s = .next (assign (s.top 0) (s.dropped 1)) :=
  run_ok ((bind_ok (pop_run h)).trans (update_run _ _))

/-- The state after `WP` is read: the wakeups posted since are in it (60_exceptions.md R800, log entry 6). -/
theorem sampleWakeups_run (s : State) : sampleWakeups s = .ok (s.wp ||| Config.wakeups s.draw)
    { s with wp := s.wp ||| Config.wakeups s.draw, draw := s.draw + 1 } := rfl

/-- The state after `IT` is read: it has advanced (10_state.md R64, log entry 5). -/
theorem sampleTimer_run (s : State) : sampleTimer s = .ok (s.it + Config.pulses s.draw)
    { s with it := s.it + Config.pulses s.draw, draw := s.draw + 1 } := rfl

theorem exec_rrwp {s : State} (h : s.sp.val < 14) :
    exec .rrwp s = .next (State.pushed { s with wp := s.wp ||| Config.wakeups s.draw, draw := s.draw + 1 }
      (s.wp ||| Config.wakeups s.draw)) :=
  run_ok ((bind_ok (sampleWakeups_run s)).trans (push_run h))

theorem exec_rrit {s : State} (h : s.sp.val < 13) :
    exec .rrit s = .next (State.pushedLong { s with it := s.it + Config.pulses s.draw, draw := s.draw + 1 }
      (s.it + Config.pulses s.draw)) :=
  run_ok ((bind_ok (sampleTimer_run s)).trans (pushLong_pushedLong h))

/-- `WRPTC` restarts the interval: it reads `IT` into `time` (40_map_register_instructions.md R228). -/
theorem exec_wrptc {s : State} (h : 1 ≤ s.sp.val) :
    exec .wrptc s = .next { s.dropped 1 with
      ptc := s.top 0, it := s.it + Config.pulses s.draw, time := s.it + Config.pulses s.draw, draw := s.draw + 1 } :=
  run_ok ((bind_ok (pop_run h)).trans (bind_ok (sampleTimer_run (s.dropped 1))))

theorem exec_writ {s : State} (h : 2 ≤ s.sp.val) : exec .writ s = .next { s.dropped 2 with it := s.topLong 0 } :=
  run_ok (bind_ok (popLong_topLong h))

/-- Settles O56. -/
theorem registerInstructions : Obligations.RegisterInstructions := by
  refine fun s => ⟨fun h => ⟨?_, exec_rrwp h⟩, exec_rrit, fun h => ?_, exec_writ⟩
  · simp only [List.forall_mem_cons, List.not_mem_nil, false_imp_iff, implies_true, and_true]
    and_intros <;> exact run_pushRegister h
  · exact ⟨run_popRegister h, run_popRegister h, run_popRegister h, run_popRegister h, run_popRegister h,
      run_popRegister h, exec_wrptc h⟩

/-! ### `LP` and the overhead of a frame -/

theorem exec_lp {s : State} (h : 1 ≤ s.sp.val) (hfree : s.sp.val < 14) :
    exec .lp s = .next ((s.dropped 1).pushedLong (if s.top 0 = 0 then 0 else s.lengthen (s.top 0))) := by
  refine run_ok ((bind_ok (pop_run h)).trans ((getState_bind _ _).trans ?_))
  exact pushLong_pushedLong (by rw [State.dropped_sp_val]; omega)

/-- The overhead words of a frame are 1 to 4 (40_map_register_instructions.md R205, R206). -/
theorem overheadIndexLegal_iff (alpha : Byte) : overheadIndexLegal alpha = true ↔ 1 ≤ alpha.toNat ∧ alpha.toNat ≤ 4 := by
  simp only [overheadIndexLegal, Bool.and_eq_true, decide_eq_true_eq]

section

variable {alpha : Byte} {s : State}

/-- `ROB` up to its check of the index. -/
theorem doRob_run (h : 1 ≤ s.sp.val) : doRob alpha s =
    (if overheadIndexLegal alpha then memReadMds (s.top 0 - zextByte alpha) >>= push
      else refuse (.overheadIndex alpha)) (s.dropped 1) :=
  bind_ok (pop_run h)

/-- `WOB` up to its check of the index. -/
theorem doWob_run (h : 1 ≤ s.sp.val) : doWob alpha s =
    (if overheadIndexLegal alpha then memWritePopMds (s.top 0 - zextByte alpha)
      else refuse (.overheadIndex alpha)) (s.dropped 1) :=
  bind_ok (pop_run h)

theorem exec_rob (hlegal : overheadIndexLegal alpha = true) (hd : s.devices = []) (h : 1 ≤ s.sp.val)
    (hr : s.canRead (s.lengthen (s.top 0 - zextByte alpha)) = true) :
    exec (.rob alpha) s = .next (((s.dropped 1).loaded (s.lengthen (s.top 0 - zextByte alpha))).pushed
      (s.wordAt (s.lengthen (s.top 0 - zextByte alpha)))) := by
  have := s.sp.isLt
  refine run_ok ((doRob_run h).trans ?_)
  rw [if_pos hlegal, bind_ok (memReadMds_run (s := s.dropped 1) hd hr),
    push_run (by rw [State.loaded_sp, State.dropped_sp_val]; omega)]
  rfl

theorem exec_wob (hlegal : overheadIndexLegal alpha = true) (hd : s.devices = []) (h : 2 ≤ s.sp.val)
    (hw : s.canWrite (s.lengthen (s.top 0 - zextByte alpha)) = true) :
    exec (.wob alpha) s = .next ((s.stored (s.lengthen (s.top 0 - zextByte alpha)) (s.top 1)).dropped 2) := by
  refine run_ok ((doWob_run (by omega)).trans ?_)
  rw [if_pos hlegal, memWritePopMds_run (s := s.dropped 1) hd hw (by rw [State.dropped_sp_val]; omega),
    State.lengthen_dropped, State.dropped_top, stored_dropped, State.dropped_dropped]

theorem exec_rob_refused (hlegal : ¬ overheadIndexLegal alpha = true) (h : 1 ≤ s.sp.val) :
    exec (.rob alpha) s = .refused (.overheadIndex alpha) :=
  (run_error ((doRob_run h).trans (by rw [if_neg hlegal, refuse_run]))).trans (deliver_refuse _ _)

theorem exec_wob_refused (hlegal : ¬ overheadIndexLegal alpha = true) (h : 1 ≤ s.sp.val) :
    exec (.wob alpha) s = .refused (.overheadIndex alpha) :=
  (run_error ((doWob_run h).trans (by rw [if_neg hlegal, refuse_run]))).trans (deliver_refuse _ _)

end

/-- Settles O57. -/
theorem lengthenAndOverhead : Obligations.LengthenAndOverhead := by
  rintro alpha s va rfl
  refine ⟨exec_lp, fun hd hlow hhigh => ?_, fun hillegal h => ?_⟩
  · have hlegal : overheadIndexLegal alpha = true := (overheadIndexLegal_iff alpha).mpr ⟨hlow, hhigh⟩
    exact ⟨exec_rob hlegal hd, exec_wob hlegal hd⟩
  · have hlegal : ¬ overheadIndexLegal alpha = true := by
      rw [overheadIndexLegal_iff]
      omega
    exact ⟨exec_rob_refused hlegal h, exec_wob_refused hlegal h⟩

/-! ### The map instructions -/

/-- A word popped, and then a long. -/
theorem popThenLong_run {α : Type} {f : Word → LongWord → M α} {s : State} (h : 3 ≤ s.sp.val) :
    (pop >>= fun v => popLong >>= fun u => f v u) s = f (s.top 0) (s.topLong 1) (s.dropped 3) := by
  rw [bind_ok (pop_run (by omega)), bind_ok (popLong_topLong (by rw [State.dropped_sp_val]; omega)),
    State.dropped_dropped]
  simp only [State.topLong, State.dropped_top]

section

variable {vp rp : LongWord} {flags : Word} {e : MapEntry} {s : State}

/-- A vacant entry is set whatever real page was given (20_memory.md R107(c)). -/
theorem setEntry_vacant (hin : vp.toNat < Config.vmPages) (he : e = entryOfFlags flags (rp.setWidth 24))
    (hv : e.vacant = true) : setEntry vp flags rp s = .ok () (s.writeMap vp.toNat e) := by
  unfold setEntry
  rw [getState_bind, ← he, if_pos hin, if_pos hv, update_run]

/-- An entry that is not vacant is set where its real page exists and is free (20_memory.md R107(a)). -/
theorem setEntry_mapped (hin : vp.toNat < Config.vmPages) (he : e = entryOfFlags flags (rp.setWidth 24))
    (hv : e.vacant = false) (hreal : rp.toNat < Config.realPages) (hfree : s.realPageTaken vp.toNat e.real = false) :
    setEntry vp flags rp s = .ok () (s.writeMap vp.toNat e) := by
  unfold setEntry
  rw [getState_bind, ← he, if_pos hin, if_neg (Bool.eq_false_iff.mp hv), if_neg (Nat.not_le.mpr hreal),
    if_neg (Bool.eq_false_iff.mp hfree), update_run]

/-- A page out of bounds has no entry to set (decision D8). -/
theorem setEntry_outside (hout : Config.vmPages ≤ vp.toNat) : setEntry vp flags rp s = .ok () s := by
  unfold setEntry
  rw [getState_bind, if_neg (Nat.not_lt.mpr hout), pure_run]

theorem pushEntry_mapped (hv : e.vacant = false) (h : s.sp.val < 12) :
    pushEntry e s = .ok () ((s.pushed e.flagsWord).pushedLong (e.real.setWidth 32)) := by
  unfold pushEntry
  rw [bind_ok (push_run (by omega)), if_neg (Bool.eq_false_iff.mp hv),
    pushLong_pushedLong (by rw [State.pushed_sp_val]; omega)]

/-- The real page pushed for a vacant entry is a free value (20_memory.md R107(b), log entry 22). -/
theorem pushEntry_vacant (hv : e.vacant = true) (h : s.sp.val < 12) :
    pushEntry e s = .ok () (State.pushedLong { s.pushed e.flagsWord with draw := s.draw + 1 }
      ((Config.vacantRealPage s.draw).setWidth 32)) := by
  have hdraw : drawRealPage (s.pushed e.flagsWord) =
      .ok (Config.vacantRealPage s.draw) { s.pushed e.flagsWord with draw := s.draw + 1 } := rfl
  unfold pushEntry
  rw [bind_ok (push_run (by omega)), if_pos hv, bind_ok hdraw,
    pushLong_pushedLong (by rw [State.pushed_sp_val]; omega)]

end

section

variable {r s : State} (hs : r.afterDevices = s)
include hs

/-- A map instruction begins with the turn of the devices (20_memory.md R112). -/
theorem afterDevices_bind {α : Type} (f : Unit → M α) : (update State.afterDevices >>= f) r = f () s := by
  rw [update_bind, hs]

/-- `SM` up to the operation on the map (40_map_register_instructions.md R201). -/
theorem doSm_run (h : 5 ≤ s.sp.val) : doSm r = setEntry (s.topLong 3) (s.top 0) (s.topLong 1) (s.dropped 5) := by
  unfold doSm
  rw [afterDevices_bind hs, popThenLong_run (by omega), bind_ok (popLong_topLong (by rw [State.dropped_sp_val]; omega)),
    State.dropped_dropped]
  simp only [State.topLong, State.dropped_top]

/-- `GMF` up to its pushes (40_map_register_instructions.md R202). -/
theorem doGmf_run (h : 2 ≤ s.sp.val) : doGmf r = pushEntry (s.readMap (s.topLong 0).toNat) (s.dropped 2) := by
  unfold doGmf
  rw [afterDevices_bind hs, bind_ok (popLong_topLong h), getState_bind]
  rfl

/-- `SMF` up to its pushes, and what follows them (40_map_register_instructions.md R203). -/
theorem doSmf_run {e : MapEntry} (h : 3 ≤ s.sp.val) (he : e = s.readMap (s.topLong 1).toNat) :
    doSmf r = (pushEntry e >>= fun _ => if e.vacant then pure ()
      else update fun t => t.writeMap (s.topLong 1).toNat (entryOfFlags (s.top 0) e.real)) (s.dropped 3) := by
  unfold doSmf
  rw [afterDevices_bind hs, popThenLong_run h, getState_bind, he]
  rfl

theorem exec_smf_mapped {e : MapEntry} (h : 3 ≤ s.sp.val) (he : e = s.readMap (s.topLong 1).toNat) (hv : e.vacant = false) :
    exec .smf r = .next ((((s.dropped 3).pushed e.flagsWord).pushedLong (e.real.setWidth 32)).writeMap
      (s.topLong 1).toNat (entryOfFlags (s.top 0) e.real)) := by
  have := s.sp.isLt
  refine run_ok ((doSmf_run hs h he).trans ?_)
  rw [bind_ok (pushEntry_mapped hv (by rw [State.dropped_sp_val]; omega)), if_neg (Bool.eq_false_iff.mp hv), update_run]

theorem exec_smf_vacant {e : MapEntry} (h : 3 ≤ s.sp.val) (he : e = s.readMap (s.topLong 1).toNat) (hv : e.vacant = true) :
    exec .smf r = .next (State.pushedLong { (s.dropped 3).pushed e.flagsWord with draw := s.draw + 1 }
      ((Config.vacantRealPage s.draw).setWidth 32)) := by
  have := s.sp.isLt
  refine run_ok ((doSmf_run hs h he).trans ?_)
  rw [bind_ok (pushEntry_vacant hv (by rw [State.dropped_sp_val]; omega)), if_pos hv]
  rfl

end

/-- Settles O55. The pops of each instruction lead to one operation on the map entry, whose cases are those of the statement. -/
theorem mapInstructions : Obligations.MapInstructions := by
  intro r s e hs
  refine ⟨fun h he => ⟨fun hin hv => ?_, fun hin hv hreal hfree => ?_, fun hout => ?_⟩,
    fun h hfree he => ⟨fun hv => ?_, fun hv => ?_⟩, fun h he => ⟨exec_smf_mapped hs h he, exec_smf_vacant hs h he⟩⟩
  · exact run_ok ((doSm_run hs h).trans (setEntry_vacant hin he hv))
  · exact run_ok ((doSm_run hs h).trans (setEntry_mapped hin he hv hreal hfree))
  · exact run_ok ((doSm_run hs h).trans (setEntry_outside hout))
  all_goals have hsp : (s.dropped 2).sp.val < 12 := by rw [State.dropped_sp_val]; omega
  · exact run_ok ((doGmf_run hs h).trans (he ▸ pushEntry_mapped hv hsp))
  · exact run_ok ((doGmf_run hs h).trans (he ▸ pushEntry_vacant hv hsp))

end Sys2Proof.Machine

namespace Sys2Proof.Machine

-- As in the tests: many kernel checks at once need more threads than a compile of the whole text may have.
set_option Elab.async false

/-! ### Runs of an instruction that end, trap or are refused on a condition -/

/-- An instruction runs on as the rest of its routine does. -/
theorem run_eq_run {m m' : M Unit} {s s' : State} (h : m s = m' s') : run m s = run m' s' := by
  unfold run
  rw [h]

theorem run_ite (p : Prop) [Decidable p] (m n : M Unit) (s : State) :
    run (if p then m else n) s = if p then run m s else run n s := by
  split <;> rfl

/-- A trap on a condition, before the rest of the routine. -/
theorem run_raiseWhen (p : Prop) [Decidable p] (a : Abort) (f : Unit → M Unit) (s : State) :
    run (if p then raise a >>= f else f ()) s = if p then deliver a s else run (f ()) s :=
  run_ite p _ _ s

theorem run_raiseWhen_ok {p : Prop} [Decidable p] {a : Abort} {f : Unit → M Unit} {s t : State} (h : f () s = .ok () t) :
    run (if p then raise a >>= f else f ()) s = if p then deliver a s else .next t := by
  rw [run_raiseWhen, run_ok h]

/-! ### A push after enough words are popped never fills the stack -/

theorem push_dropped_run (v : Word) (s : State) (n : Nat) :
    push v (s.dropped (n + 1)) = .ok () ((s.dropped (n + 1)).pushed v) := by
  have := s.sp.isLt
  exact push_run (by rw [State.dropped_sp_val]; omega)

theorem pushLong_dropped_run (v : LongWord) (s : State) (n : Nat) :
    pushLong v (s.dropped (n + 2)) = .ok () ((s.dropped (n + 2)).pushedLong v) := by
  have := s.sp.isLt
  exact pushLong_pushedLong (by rw [State.dropped_sp_val]; omega)

/-- A quotient, and a remainder left above the top (41_stack_instructions.md R289). -/
theorem pushDivision_dropped_run (quotient remainder : Word) (s : State) (n : Nat) :
    pushDivision quotient remainder (s.dropped (n + 2)) =
      .ok () ((((s.dropped (n + 2)).pushed quotient).pushed remainder).dropped 1) := by
  have := s.sp.isLt
  unfold pushDivision
  rw [bind_ok (push_dropped_run quotient s (n + 1)),
    bind_ok (push_run (by rw [State.pushed_sp_val, State.dropped_sp_val]; omega)),
    discard_run (by rw [State.pushed_sp_val]; omega)]

/-- A long quotient, and a long remainder left above the top (41_stack_instructions.md R292). -/
theorem pushLongDivision_dropped_run (quotient remainder : LongWord) (s : State) (n : Nat) :
    pushLongDivision quotient remainder (s.dropped (n + 4)) =
      .ok () ((((s.dropped (n + 4)).pushedLong quotient).pushedLong remainder).dropped 2) := by
  have := s.sp.isLt
  unfold pushLongDivision
  rw [bind_ok (pushLong_dropped_run quotient s (n + 2)),
    bind_ok (pushLong_pushedLong (by rw [State.pushedLong_sp_val, State.dropped_sp_val]; omega)),
    bind_ok (discard_run (by rw [State.pushedLong_sp_val]; omega)),
    discard_run (by rw [State.dropped_sp_val, State.pushedLong_sp_val]; omega), State.dropped_dropped]

/-! ### A result in place of the operands (41_stack_instructions.md R240) -/

section

variable {s : State}

theorem run_unary {f : Word → Word} {v : Word} (h : 1 ≤ s.sp.val) (hv : f (s.top 0) = v) :
    run (unary f) s = .next ((s.dropped 1).pushed v) := by
  subst hv
  exact run_ok ((bind_ok (pop_run h)).trans (push_dropped_run _ s 0))

theorem run_unaryLong {f : LongWord → LongWord} {v : LongWord} (h : 2 ≤ s.sp.val) (hv : f (s.topLong 0) = v) :
    run (unaryLong f) s = .next ((s.dropped 2).pushedLong v) := by
  subst hv
  exact run_ok ((bind_ok (popLong_topLong h)).trans (pushLong_dropped_run _ s 0))

theorem run_binary {f : Word → Word → Word} {v : Word} (h : 2 ≤ s.sp.val) (hv : f (s.top 1) (s.top 0) = v) :
    run (binary f) s = .next ((s.dropped 2).pushed v) := by
  subst hv
  exact run_ok ((popTwo_run h).trans (push_dropped_run _ s 1))

theorem run_binaryLong {f : LongWord → LongWord → LongWord} {v : LongWord} (h : 4 ≤ s.sp.val)
    (hv : f (s.topLong 2) (s.topLong 0) = v) : run (binaryLong f) s = .next ((s.dropped 4).pushedLong v) := by
  subst hv
  exact run_ok ((popTwoLongs_run h).trans (pushLong_dropped_run _ s 2))

theorem run_compareLong {f : LongWord → LongWord → Word} {v : Word} (h : 4 ≤ s.sp.val)
    (hv : f (s.topLong 2) (s.topLong 0) = v) : run (compareLong f) s = .next ((s.dropped 4).pushed v) := by
  subst hv
  exact run_ok ((popTwoLongs_run h).trans (push_dropped_run _ s 3))

end

/-! ### The checks -/

section

variable {s : State}

theorem exec_bndck (h : 2 ≤ s.sp.val) :
    exec .bndck s = if s.top 1 < s.top 0 then .next ((s.dropped 2).pushed (s.top 1))
      else deliver boundsTrap ((s.dropped 2).pushed (s.top 1)) := by
  refine (run_eq_run ((popTwo_run h).trans (bind_ok (push_dropped_run _ s 1)))).trans ((run_ite _ _ _ _).trans ?_)
  simp only [← BitVec.not_lt, ite_not]
  rfl

theorem exec_bndckl (h : 4 ≤ s.sp.val) :
    exec .bndckl s = if s.topLong 2 < s.topLong 0 then .next ((s.dropped 4).pushedLong (s.topLong 2))
      else deliver boundsTrap ((s.dropped 4).pushedLong (s.topLong 2)) := by
  refine (run_eq_run ((popTwoLongs_run h).trans (bind_ok (pushLong_dropped_run _ s 2)))).trans
    ((run_ite _ _ _ _).trans ?_)
  simp only [← BitVec.not_lt, ite_not]
  rfl

theorem exec_nilckl (h : 2 ≤ s.sp.val) :
    exec .nilckl s = if s.topLong 0 = 0 then deliver pointerTrap ((s.dropped 2).pushedLong (s.topLong 0))
      else .next ((s.dropped 2).pushedLong (s.topLong 0)) :=
  (run_eq_run ((bind_ok (popLong_topLong h)).trans (bind_ok (pushLong_dropped_run _ s 0)))).trans (run_ite _ _ _ _)

end

/-- Settles O29. The parameter is pushed again before the condition is looked at, so that both outcomes find it restored. -/
theorem checks : Obligations.Checks := fun _ => ⟨exec_bndck, exec_bndckl, exec_nilckl⟩

/-! ### Shifts and rotations by a signed count (00_scope.md R18, R19) -/

theorem toNat_toInt_of_nonneg {w : Nat} {x : BitVec w} (h : 0 ≤ x.toInt) : x.toInt.toNat = x.toNat :=
  BitVec.toNat_toInt_of_sle (BitVec.sle_iff_toInt_le.mpr (by rwa [BitVec.toInt_zero]))

/-- A count that is not negative is the same number signed and unsigned. -/
theorem shift_toNat_eq_shift_toInt {w : Nat} (data : BitVec w) (count : Word) :
    (if 0 ≤ count.toInt then data <<< count.toNat else data >>> (-count.toInt).toNat) =
      if 0 ≤ count.toInt then data <<< count.toInt.toNat else data >>> (-count.toInt).toNat := by
  split
  next h => rw [toNat_toInt_of_nonneg h]
  next => rfl

theorem shiftWord_eq (data count : Word) : shiftWord data count =
    if 0 ≤ count.toInt then data <<< count.toInt.toNat else data >>> (-count.toInt).toNat :=
  shift_toNat_eq_shift_toInt data count

theorem shiftLong_eq (data : LongWord) (count : Word) : shiftLong data count =
    if 0 ≤ count.toInt then data <<< count.toInt.toNat else data >>> (-count.toInt).toNat :=
  shift_toNat_eq_shift_toInt data count

/-- A signed byte as a count (41_stack_instructions.md R266). -/
theorem shiftWord_signExtendByte (data : Word) (alpha : Byte) : shiftWord data (signExtendByte alpha) =
    if 0 ≤ alpha.toInt then data <<< alpha.toInt.toNat else data >>> (-alpha.toInt).toNat := by
  rw [shiftWord_eq, signExtendByte, BitVec.toInt_signExtend_of_le (by omega)]

theorem shiftLeft_one_eq_two_mul {w : Nat} (x : BitVec w) : x <<< 1 = 2 * x := by
  refine BitVec.eq_of_toNat_eq (Eq.trans ?_ (congrArg BitVec.toNat BitVec.two_mul.symm))
  rw [BitVec.toNat_shiftLeft, BitVec.toNat_add, Nat.shiftLeft_eq, pow_one, Nat.mul_two]

theorem shiftWord_one (data : Word) : shiftWord data 1 = 2 * data := shiftLeft_one_eq_two_mul data

theorem shiftLong_one (data : LongWord) : shiftLong data 1 = 2 * data := shiftLeft_one_eq_two_mul data

/-- The period of a rotation is sixteen, so that a count may be read signed or unsigned (00_scope.md R19). -/
theorem rotateWord_eq (data count : Word) : rotateWord data count = data.rotateLeft (count.toInt % 16).toNat := by
  have hcount : (count.toInt % 16).toNat = count.toNat % 16 := by
    rw [BitVec.toInt_eq_toNat_cond]
    split <;> omega
  rw [hcount, rotateWord]

theorem shiftCountLegal_iff (alpha : Byte) : shiftCountLegal alpha = true ↔ -15 ≤ alpha.toInt ∧ alpha.toInt ≤ 15 := by
  simp [shiftCountLegal]

theorem signWord_eq (i : Word) : signWord i = if i.toInt < 0 then 0xFFFF else 0 :=
  if_congr BitVec.slt_iff_toInt_lt rfl rfl

/-! ### The word operations -/

theorem zextLong_toNat (u : Word) : (zextLong u).toNat = u.toNat := BitVec.toNat_setWidth_of_le (by omega)

/-- The product of two words, which fits a long (41_stack_instructions.md R286). -/
theorem zextLong_mul (u v : Word) : zextLong u * zextLong v = BitVec.ofNat 32 (u.toNat * v.toNat) := by
  refine BitVec.eq_of_toNat_eq ?_
  rw [BitVec.toNat_mul, BitVec.toNat_ofNat, zextLong_toNat, zextLong_toNat]

section

variable {s : State}

theorem exec_shiftsb {alpha : Byte} (h : 1 ≤ s.sp.val) :
    exec (.shiftsb alpha) s =
      if -15 ≤ alpha.toInt ∧ alpha.toInt ≤ 15 then
        .next ((s.dropped 1).pushed (if 0 ≤ alpha.toInt then s.top 0 <<< alpha.toInt.toNat
          else s.top 0 >>> (-alpha.toInt).toNat))
      else .refused (.shiftCount alpha) := by
  refine (run_eq_run (bind_ok (pop_run h))).trans ((run_ite _ _ _ _).trans ?_)
  rw [shiftWord_signExtendByte, run_ok (push_dropped_run _ s 0)]
  exact if_congr (shiftCountLegal_iff alpha) rfl rfl

theorem exec_lint (h : 1 ≤ s.sp.val) (hfree : s.sp.val < 14) :
    exec .lint s = .next (((s.dropped 1).pushed (s.top 0)).pushed (if (s.top 0).toInt < 0 then 0xFFFF else 0)) := by
  refine run_ok ((bind_ok (pop_run h)).trans ((bind_ok (push_dropped_run _ s 0)).trans ?_))
  rw [signWord_eq, push_run (by rw [State.pushed_sp_val, State.dropped_sp_val]; omega)]

theorem exec_mul (h : 2 ≤ s.sp.val) :
    exec .mul s = .next (((s.dropped 2).pushedLong (BitVec.ofNat 32 ((s.top 1).toNat * (s.top 0).toNat))).dropped 1) := by
  refine run_ok ((popTwo_run h).trans ((bind_ok (pushLong_dropped_run _ s 0)).trans ?_))
  rw [zextLong_mul, discard_run (by rw [State.pushedLong_sp_val]; omega)]

end

/-- Settles O30. -/
theorem wordOperations : Obligations.WordOperations := by
  intro alpha s
  refine ⟨fun h => ⟨?_, exec_shiftsb h⟩, exec_lint, fun h => ⟨?_, exec_mul h⟩⟩
  all_goals simp only [List.forall_mem_cons, List.not_mem_nil, false_imp_iff, implies_true, and_true]
  · exact ⟨run_unary h (BitVec.zero_sub _).symm, run_unary h rfl, run_unary h rfl, run_unary h rfl,
      run_unary h (shiftWord_one _), run_unary h (BitVec.mul_comm _ _)⟩
  · exact ⟨run_binary h rfl, run_binary h rfl, run_binary h rfl, run_binary h rfl, run_binary h rfl,
      run_binary h (shiftWord_eq _ _), run_binary h (rotateWord_eq _ _)⟩

/-! ### The long operations -/

theorem compareSigned_eq (j k : LongWord) :
    compareSigned j k = if k.toInt < j.toInt then 1 else if j.toInt < k.toInt then 0xFFFF else 0 :=
  if_congr BitVec.slt_iff_toInt_lt rfl (if_congr BitVec.slt_iff_toInt_lt rfl rfl)

theorem compareUnsigned_eq (j k : LongWord) :
    compareUnsigned j k = if k.toNat < j.toNat then 1 else if j.toNat < k.toNat then 0xFFFF else 0 :=
  if_congr BitVec.ult_iff_toNat_lt rfl (if_congr BitVec.ult_iff_toNat_lt rfl rfl)

/-- A long popped, and then a word. -/
theorem popLongThenPop_run {α : Type} {f : LongWord → Word → M α} {s : State} (h : 3 ≤ s.sp.val) :
    (popLong >>= fun v => pop >>= fun u => f v u) s = f (s.topLong 0) (s.top 2) (s.dropped 3) := by
  rw [bind_ok (popLong_topLong (by omega)), bind_ok (pop_run (by rw [State.dropped_sp_val]; omega)), State.dropped_top,
    State.dropped_dropped]

section

variable {s : State}

theorem exec_dshift (h : 3 ≤ s.sp.val) :
    exec .dshift s = .next ((s.dropped 3).pushedLong (if 0 ≤ (s.top 0).toInt then
      s.topLong 1 <<< (s.top 0).toInt.toNat else s.topLong 1 >>> (-(s.top 0).toInt).toNat)) := by
  rw [← shiftLong_eq]
  exact run_ok ((popThenLong_run h).trans (pushLong_dropped_run _ s 1))

theorem exec_adc (h : 3 ≤ s.sp.val) :
    exec .adc s = .next ((s.dropped 3).pushedLong (zextLong (s.top 2) + s.topLong 0)) :=
  run_ok ((popLongThenPop_run h).trans (pushLong_dropped_run _ s 1))

theorem exec_acd (h : 3 ≤ s.sp.val) :
    exec .acd s = .next ((s.dropped 3).pushedLong (s.topLong 1 + zextLong (s.top 0))) :=
  run_ok ((popThenLong_run h).trans (pushLong_dropped_run _ s 1))

end

/-- Settles O31. -/
theorem longOperations : Obligations.LongOperations := by
  intro s
  refine ⟨fun h => ⟨run_unaryLong h rfl, run_unaryLong h (shiftLong_one _)⟩,
    fun h => ⟨exec_dshift h, exec_adc h, exec_acd h⟩,
    fun h => ⟨?_, run_compareLong h (compareSigned_eq _ _), run_compareLong h (compareUnsigned_eq _ _)⟩⟩
  simp only [List.forall_mem_cons, List.not_mem_nil, false_imp_iff, implies_true, and_true]
  and_intros <;> exact run_binaryLong h rfl

/-! ### The divisions -/

/-- The quotient of a long by a word, reduced to a word. -/
theorem lowHalf_div_zextLong (x : LongWord) (y : Word) :
    lowHalf (x / zextLong y) = BitVec.ofNat 16 (x.toNat / y.toNat) := by
  rw [lowHalf, ← BitVec.ofNat_toNat, BitVec.toNat_udiv, zextLong_toNat]

theorem lowHalf_mod_zextLong (x : LongWord) (y : Word) :
    lowHalf (x % zextLong y) = BitVec.ofNat 16 (x.toNat % y.toNat) := by
  rw [lowHalf, ← BitVec.ofNat_toNat, BitVec.toNat_umod, zextLong_toNat]

section

variable {s : State}

theorem exec_sdiv (h : 2 ≤ s.sp.val) :
    exec .sdiv s = if s.top 0 = 0 then deliver divZeroTrap (s.dropped 2) else
      .next ((((s.dropped 2).pushed (signedQuotient (s.top 1) (s.top 0))).pushed
        (signedRemainder (s.top 1) (s.top 0))).dropped 1) :=
  (run_eq_run (popTwo_run h)).trans (run_raiseWhen_ok (pushDivision_dropped_run _ _ s 0))

theorem exec_udiv (h : 2 ≤ s.sp.val) :
    exec .udiv s = if s.top 0 = 0 then deliver divZeroTrap (s.dropped 2) else
      .next ((((s.dropped 2).pushed (s.top 1 / s.top 0)).pushed (s.top 1 % s.top 0)).dropped 1) :=
  (run_eq_run (popTwo_run h)).trans (run_raiseWhen_ok (pushDivision_dropped_run _ _ s 0))

/-- The quotient fits a word exactly when the divisor exceeds the high word of the dividend (41_stack_instructions.md R291). -/
theorem exec_ludiv (h : 3 ≤ s.sp.val) :
    exec .ludiv s = if s.top 0 = 0 then deliver divZeroTrap (s.dropped 3)
      else if (s.top 0).toNat ≤ (s.top 1).toNat then deliver divCheckTrap (s.dropped 3)
      else .next ((((s.dropped 3).pushed (BitVec.ofNat 16 ((s.topLong 1).toNat / (s.top 0).toNat))).pushed
        (BitVec.ofNat 16 ((s.topLong 1).toNat % (s.top 0).toNat))).dropped 1) := by
  rw [← lowHalf_div_zextLong, ← lowHalf_mod_zextLong]
  refine (run_eq_run (popThenLong_run h)).trans ((run_raiseWhen _ _ _ _).trans ?_)
  rw [run_raiseWhen_ok (pushDivision_dropped_run _ _ s 1), State.topLong, highHalf_mkLong]
  rfl

theorem exec_sddiv (h : 4 ≤ s.sp.val) :
    exec .sddiv s = if s.topLong 0 = 0 then deliver divZeroTrap (s.dropped 4) else
      .next ((((s.dropped 4).pushedLong (signedQuotient (s.topLong 2) (s.topLong 0))).pushedLong
        (signedRemainder (s.topLong 2) (s.topLong 0))).dropped 2) :=
  (run_eq_run (popTwoLongs_run h)).trans (run_raiseWhen_ok (pushLongDivision_dropped_run _ _ s 0))

theorem exec_uddiv (h : 4 ≤ s.sp.val) :
    exec .uddiv s = if s.topLong 0 = 0 then deliver divZeroTrap (s.dropped 4) else
      .next ((((s.dropped 4).pushedLong (s.topLong 2 / s.topLong 0)).pushedLong
        (s.topLong 2 % s.topLong 0)).dropped 2) :=
  (run_eq_run (popTwoLongs_run h)).trans (run_raiseWhen_ok (pushLongDivision_dropped_run _ _ s 0))

end

/-- Settles O32. The unsigned quotient and remainder of words are those of their numbers. -/
theorem divisions : Obligations.Divisions := by
  intro s
  refine ⟨fun h => ⟨exec_sdiv h, ?_⟩, exec_ludiv, fun h => ⟨exec_sddiv h, ?_⟩⟩
  · rw [← BitVec.udiv_def, ← BitVec.umod_def]
    exact exec_udiv h
  · rw [← BitVec.udiv_def, ← BitVec.umod_def]
    exact exec_uddiv h

end Sys2Proof.Machine

namespace Sys2Proof.Machine

-- As in the tests: many kernel checks at once need more threads than a compile of the whole text may have.
set_option Elab.async false

/-! ### The conditional jumps -/

/-- What a relation says of its operands, as numbers (42_jump_instructions.md R317 to R337). -/
def Relation.Says {w : Nat} (r : Relation) (deeper top : BitVec w) : Prop :=
  match r with
  | .equal => deeper = top
  | .notEqual => deeper ≠ top
  | .signedLess => deeper.toInt < top.toInt
  | .signedLessEqual => deeper.toInt ≤ top.toInt
  | .signedGreater => deeper.toInt > top.toInt
  | .signedGreaterEqual => deeper.toInt ≥ top.toInt
  | .unsignedLess => deeper.toNat < top.toNat
  | .unsignedLessEqual => deeper.toNat ≤ top.toNat
  | .unsignedGreater => deeper.toNat > top.toNat
  | .unsignedGreaterEqual => deeper.toNat ≥ top.toNat

/-- The model's test of a relation decides what the relation says. -/
theorem Relation.holds_iff {w : Nat} (r : Relation) (deeper top : BitVec w) :
    r.holds deeper top = true ↔ r.Says deeper top := by
  cases r with
  | equal => exact beq_iff_eq
  | notEqual => exact bne_iff_ne
  | signedLess => exact BitVec.slt_iff_toInt_lt
  | signedLessEqual => exact BitVec.sle_iff_toInt_le
  | signedGreater => exact BitVec.slt_iff_toInt_lt
  | signedGreaterEqual => exact BitVec.sle_iff_toInt_le
  | unsignedLess => exact BitVec.ult_iff_toNat_lt
  | unsignedLessEqual => exact BitVec.ule_iff_toNat_le
  | unsignedGreater => exact BitVec.ult_iff_toNat_lt
  | unsignedGreaterEqual => exact BitVec.ule_iff_toNat_le

section

variable {r : Relation} {p : Prop} [Decidable p] {displacement : Word} {s : State}

/-- The last part of a conditional jump: `PC` is set or nothing happens (42_jump_instructions.md R311). -/
theorem run_jumpIf_holds {w : Nat} {deeper top : BitVec w} (hp : r.Says deeper top ↔ p) :
    run (jumpIf (r.holds deeper top) displacement) s = .next (if decide p then s.jumped displacement else s) := by
  have htaken : r.holds deeper top = decide p :=
    Bool.eq_iff_iff.mpr ((r.holds_iff deeper top).trans (hp.trans decide_eq_true_iff.symm))
  rw [htaken]
  cases decide p <;> rfl

theorem run_jumpOnTop {constant : Word} (h : 1 ≤ s.sp.val) (hp : r.Says (s.top 0) constant ↔ p) :
    run (jumpOnTop r constant displacement) s =
      .next (if decide p then (s.dropped 1).jumped displacement else s.dropped 1) :=
  (run_eq_run (bind_ok (pop_run h))).trans (run_jumpIf_holds hp)

theorem run_jumpOnPair (h : 2 ≤ s.sp.val) (hp : r.Says (s.top 1) (s.top 0) ↔ p) :
    run (jumpOnPair r displacement) s = .next (if decide p then (s.dropped 2).jumped displacement else s.dropped 2) :=
  (run_eq_run (popTwo_run h)).trans (run_jumpIf_holds hp)

theorem run_jumpOnLongPair (h : 4 ≤ s.sp.val) (hp : r.Says (s.topLong 2) (s.topLong 0) ↔ p) :
    run (jumpOnLongPair r displacement) s =
      .next (if decide p then (s.dropped 4).jumped displacement else s.dropped 4) :=
  (run_eq_run (popTwoLongs_run h)).trans (run_jumpIf_holds hp)

end

/-- Settles O34. Each instruction is one of the three shapes of conditional jump, with its own relation. -/
theorem conditionalJumps : Obligations.ConditionalJumps := by
  intro alpha beta left right s
  refine ⟨fun h => ?_, fun h => ?_, fun h => ?_⟩
  all_goals simp only [List.forall_mem_cons, List.not_mem_nil, false_imp_iff, implies_true, and_true]
  · and_intros <;> exact run_jumpOnTop h Iff.rfl
  · and_intros <;> exact run_jumpOnPair h Iff.rfl
  · and_intros <;> exact run_jumpOnLongPair h Iff.rfl

/-! ### The indexed jumps -/

/-- The shape of both indexed jumps: where the table has the word for an index, and the displacement in that word
(42_jump_instructions.md R339). -/
def indexedJump (entry : Word → Word) (displacement : Word → Word → Word) : M Unit := do
  let limit ← pop
  let index ← pop
  if index < limit then do
    let disp ← readCode (entry index)
    jumpBy (displacement index disp)
  else pure ()

/-- `JIB`: two entries to a word (42_jump_instructions.md R340). -/
theorem exec_jib (word : Word) (s : State) : exec (.jib word) s = run (indexedJump (fun index => word + index >>> 1)
    fun index disp => zextByte (selectByte disp (index.getLsbD 0))) s := rfl

/-- `JIW`: an entry is a word (42_jump_instructions.md R341). -/
theorem exec_jiw (word : Word) (s : State) :
    exec (.jiw word) s = run (indexedJump (fun index => word + index) fun _ disp => disp) s := rfl

section

variable {entry : Word → Word} {displacement : Word → Word → Word} {s : State}

theorem run_indexedJump_notTaken (h : 2 ≤ s.sp.val) (hout : (s.top 0).toNat ≤ (s.top 1).toNat) :
    run (indexedJump entry displacement) s = .next (s.dropped 2) := by
  refine run_ok ((popTwo_run h).trans ?_)
  rw [if_neg (BitVec.not_lt.mpr hout), pure_run]

theorem run_indexedJump_taken {va : LongWord} (h : 2 ≤ s.sp.val) (hd : s.devices = [])
    (hin : (s.top 1).toNat < (s.top 0).toNat) (hva : va = s.codeWord (entry (s.top 1))) (hr : s.canRead va = true) :
    run (indexedJump entry displacement) s =
      .next (((s.dropped 2).loaded va).jumped (displacement (s.top 1) (s.wordAt va))) := by
  subst hva
  have hread : readCode (entry (s.top 1)) (s.dropped 2) = .ok (s.wordAt (s.codeWord (entry (s.top 1))))
      ((s.dropped 2).loaded (s.codeWord (entry (s.top 1)))) := readCode_run (s := s.dropped 2) hd hr
  refine (run_eq_run ((popTwo_run h).trans ?_)).trans (run_jumpBy _ _)
  rw [if_pos (BitVec.lt_def.mpr hin), bind_ok hread]

end

/-- Settles O35. Both instructions are `indexedJump`, which reads the table only for an index below the limit. -/
theorem indexedJumps : Obligations.IndexedJumps := by
  intro word s h
  rw [exec_jib, exec_jiw]
  exact ⟨fun hout => ⟨run_indexedJump_notTaken h hout, run_indexedJump_notTaken h hout⟩,
    fun hd hin => ⟨fun _ hva hr => run_indexedJump_taken h hd hin hva hr,
      fun _ hva hr => run_indexedJump_taken h hd hin hva hr⟩⟩

end Sys2Proof.Machine

namespace Sys2Proof.Machine

-- As in the tests: many kernel checks at once need more threads than a compile of the whole text may have.
set_option Elab.async false

/-! ### Immediates and addresses -/

/-- What an instruction that only pushes a word does: the push, or the stack error (decision D5, log entry 18). -/
theorem run_push (v : Word) (s : State) :
    (s.sp.val < 14 → run (push v) s = .next (s.pushed v)) ∧ (s.sp.val = 14 → run (push v) s = deliver stackError s) :=
  ⟨fun h => run_ok (push_run h), fun h => run_error (push_full h)⟩

/-- The left byte of a pair counts 256 times (00_scope.md R16). -/
theorem bytePair_eq_add (left right : Byte) : bytePair left right = zextByte left * 256 + zextByte right := by
  refine BitVec.eq_of_toNat_eq ?_
  have hleft := left.isLt
  have hright := right.isLt
  have hword : (256 : Word).toNat = 256 := rfl
  rw [bytePair, BitVec.toNat_append, ← Nat.shiftLeft_add_eq_or_of_lt hright, Nat.shiftLeft_eq, BitVec.toNat_add,
    BitVec.toNat_mul, zextByte, zextByte, BitVec.toNat_setWidth_of_le (by omega), BitVec.toNat_setWidth_of_le (by omega),
    hword]
  omega

/-- `LINB` supplies eight high-order ones (43_assign_immediate_frame_pointer.md R367). -/
theorem bytePair_ones (alpha : Byte) : bytePair 0xFF alpha = 0xFF00 + zextByte alpha := bytePair_eq_add _ _

/-- `LIHB` puts its operand in the left byte (43_assign_immediate_frame_pointer.md R368). -/
theorem bytePair_zero (alpha : Byte) : bytePair alpha 0 = zextByte alpha * 256 :=
  (bytePair_eq_add _ _).trans (BitVec.add_zero _)

/-- Settles O12. Every instruction of the list is one `push`: of its constant, or of its variable's address. -/
theorem immediatesAndAddressesPush : Obligations.ImmediatesAndAddressesPush := by
  intro alpha beta word s
  refine ⟨fun p hp => ?_, fun h => run_ok (pushLong_pushedLong h), fun h => run_error (pushLong_oneFree h),
    fun h => run_error (pushLong_full h), decode_opa [] alpha rfl, decode_opa [] alpha rfl, decode_opa [] alpha rfl,
    decode_opab (f := fun a b => .liw (codeWord a b)) [] alpha beta rfl⟩
  have hexec : exec p.1 s = run (push p.2) s := by
    revert p
    simp only [List.forall_mem_cons, List.not_mem_nil, false_imp_iff, implies_true, and_true]
    have hlocal := fun n => run_local push n s
    have hglobal := fun n => run_global push n s
    exact ⟨rfl, rfl, rfl, rfl, rfl, rfl, rfl, rfl, rfl, rfl, rfl, rfl, rfl, rfl,
      congrArg (fun v => run (push v) s) (bytePair_ones alpha), congrArg (fun v => run (push v) s) (bytePair_zero alpha),
      rfl, run_localZero push s, hlocal 1, hlocal 2, hlocal 3, hlocal 6, hlocal 8, hlocal _, hlocal word,
      run_globalZero push s, hglobal 1, hglobal _, hglobal word⟩
  rw [hexec]
  exact run_push p.2 s

/-! ### Accesses of a routine that has popped some words -/

/-- The words popped are found again by as many `Recover`s (10_state.md R59). -/
theorem recoverTop_dropped {s : State} {n : Nat} (h : n < s.sp.val) :
    recoverTop (s.dropped (n + 1)) = .ok () (s.dropped n) := by
  have hlt := s.sp.isLt
  rw [recoverTop_run (by rw [State.dropped_sp_val]; omega), ← State.dropped_dropped,
    State.raised_dropped _ (by rw [State.dropped_sp_val]; omega)]

theorem recoverTop_twice {s : State} (h : 2 ≤ s.sp.val) :
    (recoverTop >>= fun _ => recoverTop) (s.dropped 2) = .ok () s := by
  rw [bind_ok (recoverTop_dropped (n := 1) h), recoverTop_dropped (n := 0) (by omega), State.dropped_zero]

section

variable {s : State} (hd : s.devices = []) {va : LongWord}
include hd

theorem memWrite_dropped (v : Word) (n : Nat) (h : s.canWrite va = true) :
    memWrite va v (s.dropped n) = .ok () ((s.stored va v).dropped n) := by
  rw [memWrite_run (s := s.dropped n) v hd h, stored_dropped]

theorem memWriteMds_dropped {p : Word} (v : Word) (n : Nat) (h : s.canWrite (s.lengthen p) = true) :
    memWriteMds p v (s.dropped n) = .ok () ((s.stored (s.lengthen p) v).dropped n) := by
  rw [memWriteMds, getState_bind, State.lengthen_dropped, memWrite_dropped hd v n h]

/-- `Store(va)^ <- Pop[]` after `n` words are popped. -/
theorem memWritePop_dropped {n : Nat} (h : s.canWrite va = true) (hsp : n < s.sp.val) :
    memWritePop va (s.dropped n) = .ok () ((s.stored va (s.top n)).dropped (n + 1)) := by
  rw [memWritePop_run (s := s.dropped n) hd h (by rw [State.dropped_sp_val]; omega), State.dropped_top, stored_dropped,
    State.dropped_dropped, Nat.add_zero]

theorem memWritePopMds_dropped {p : Word} {n : Nat} (h : s.canWrite (s.lengthen p) = true) (hsp : n < s.sp.val) :
    memWritePopMds p (s.dropped n) = .ok () ((s.stored (s.lengthen p) (s.top n)).dropped (n + 1)) := by
  rw [memWritePopMds, getState_bind, State.lengthen_dropped, memWritePop_dropped hd h hsp]

end

/-! ### Double stores: the word at the higher address first (43_assign_immediate_frame_pointer.md R392) -/

section

variable {s : State} (hd : s.devices = []) (hc : s.mapCanonical = true)
include hd hc

/-- The second store of two, after the first. -/
theorem memWritePop_stored {a b : LongWord} {v : Word} {n : Nat} (ha : s.canWrite a = true) (hb : s.canWrite b = true)
    (hsp : n < s.sp.val) : memWritePop b ((s.stored a v).dropped n) =
      .ok () (((s.stored a v).stored b (s.top n)).dropped (n + 1)) := by
  rw [memWritePop_dropped (by rwa [State.stored_devices]) (by rwa [canWrite_stored hc ha]) (by rwa [State.stored_sp]),
    State.stored_top]

theorem storeLongDouble_dropped {p : LongWord} {n : Nat} (hlow : s.canWrite p = true) (hhigh : s.canWrite (p + 1) = true)
    (hsp : n + 2 ≤ s.sp.val) : storeLongDouble p (s.dropped n) =
      .ok () (((s.stored (p + 1) (s.top n)).stored p (s.top (n + 1))).dropped (n + 2)) := by
  unfold storeLongDouble
  rw [bind_ok (memWritePop_dropped hd hhigh (by omega)), memWritePop_stored hd hc hhigh hlow (by omega)]

theorem storeShortDouble_dropped {p : Word} {n : Nat} (hlow : s.canWrite (s.lengthen p) = true)
    (hhigh : s.canWrite (s.lengthen (p + 1)) = true) (hsp : n + 2 ≤ s.sp.val) : storeShortDouble p (s.dropped n) =
      .ok () (((s.stored (s.lengthen (p + 1)) (s.top n)).stored (s.lengthen p) (s.top (n + 1))).dropped (n + 2)) := by
  unfold storeShortDouble
  rw [bind_ok (memWritePopMds_dropped hd hhigh (by omega)), memWritePopMds, getState_bind, State.lengthen_dropped,
    State.stored_lengthen, memWritePop_stored hd hc hhigh hlow (by omega)]

/-- A double put: the two words popped by the stores are exposed again (43_assign_immediate_frame_pointer.md R395). -/
theorem storeShortDouble_recoverTop {p : Word} (hlow : s.canWrite (s.lengthen p) = true)
    (hhigh : s.canWrite (s.lengthen (p + 1)) = true) (hsp : 2 ≤ s.sp.val) :
    (storeShortDouble p >>= fun _ => recoverTop >>= fun _ => recoverTop) s =
      .ok () ((s.stored (s.lengthen (p + 1)) (s.top 0)).stored (s.lengthen p) (s.top 1)) := by
  have hstore : storeShortDouble p s = .ok ()
      (((s.stored (s.lengthen (p + 1)) (s.top 0)).stored (s.lengthen p) (s.top 1)).dropped 2) :=
    storeShortDouble_dropped (n := 0) hd hc hlow hhigh hsp
  rw [bind_ok hstore, recoverTop_twice (by rwa [State.stored_sp, State.stored_sp])]

end

theorem run_putLocalDouble (n : Word) (s : State) : run (putLocalDouble n) s =
    run (storeShortDouble (s.lf + n) >>= fun _ => recoverTop >>= fun _ => recoverTop) s := by
  have hstore : storeLocalDouble n s = storeShortDouble (s.lf + n) s := rfl
  refine run_congr ?_
  rw [putLocalDouble, bind_run, bind_run, hstore]

/-- Settles O16. Every double store is `storeShortDouble` of its variable's address, and every double put that and two
`recoverTop`s. -/
theorem frameDoubleStores : Obligations.FrameDoubleStores := by
  intro alpha s hd hc hsp
  refine ⟨fun p hp hlow hhigh => ?_, fun p hp hlow hhigh => ?_⟩
  · have hexec : exec p.1 s = run (storeShortDouble p.2) s := by
      clear hlow hhigh
      revert p
      simp only [List.forall_mem_cons, List.not_mem_nil, false_imp_iff, implies_true, and_true]
      have hlocal := fun n => run_local storeShortDouble n s
      exact ⟨run_localZero storeShortDouble s, hlocal 1, hlocal 2, hlocal 3, hlocal 4, hlocal 5, hlocal 6, hlocal 8,
        hlocal _, run_global storeShortDouble _ s⟩
    rw [hexec]
    exact run_ok (storeShortDouble_dropped (n := 0) hd hc hlow hhigh hsp)
  · have hexec : exec p.1 s = run (storeShortDouble p.2 >>= fun _ => recoverTop >>= fun _ => recoverTop) s := by
      clear hlow hhigh
      revert p
      simp only [List.forall_mem_cons, List.not_mem_nil, false_imp_iff, implies_true, and_true]
      exact ⟨(run_putLocalDouble 0 s).trans (by rw [add_zero]), run_putLocalDouble _ s⟩
    rw [hexec]
    exact run_ok (storeShortDouble_recoverTop hd hc hlow hhigh hsp)

/-! ### Reads through a pointer -/

theorem loadLong_run {s : State} {va : LongWord} (hd : s.devices = []) (h : s.canRead va = true) (hsp : s.sp.val < 14) :
    loadLong va s = .ok () ((s.loaded va).pushed (s.wordAt va)) := by
  unfold loadLong
  rw [bind_ok (memRead_run hd h), push_run (by rwa [State.loaded_sp])]

section

variable {s : State} (hd : s.devices = [])
include hd

/-- A read after some words are popped, which leaves room for the word read. -/
theorem loadLong_dropped {va : LongWord} (n : Nat) (h : s.canRead va = true) :
    loadLong va (s.dropped (n + 1)) = .ok () (((s.dropped (n + 1)).loaded va).pushed (s.wordAt va)) := by
  have hlt := s.sp.isLt
  exact loadLong_run (s := s.dropped (n + 1)) hd h (by rw [State.dropped_sp_val]; omega)

theorem loadShort_dropped {p : Word} (n : Nat) (h : s.canRead (s.lengthen p) = true) : loadShort p (s.dropped (n + 1)) =
    .ok () (((s.dropped (n + 1)).loaded (s.lengthen p)).pushed (s.wordAt (s.lengthen p))) := by
  have hlt := s.sp.isLt
  exact loadShort_ok (s := s.dropped (n + 1)) (afterDevices_idle hd) h (by rw [State.dropped_sp_val]; omega)

theorem readCode_dropped {offset : Word} (n : Nat) (h : s.canRead (s.codeWord offset) = true) :
    readCode offset (s.dropped n) = .ok (s.wordAt (s.codeWord offset)) ((s.dropped n).loaded (s.codeWord offset)) :=
  readCode_run (s := s.dropped n) hd h

theorem run_readShort {n p : Word} (hp : s.top 0 + n = p) (hr : s.canRead (s.lengthen p) = true) (hsp : 0 < s.sp.val) :
    run (readShort n) s = .next (((s.dropped 1).loaded (s.lengthen p)).pushed (s.wordAt (s.lengthen p))) := by
  subst hp
  exact run_ok ((bind_ok (pop_run hsp)).trans (loadShort_dropped hd 0 hr))

theorem run_readLong {n p : LongWord} (hp : s.topLong 0 + n = p) (hr : s.canRead p = true) (hsp : 2 ≤ s.sp.val) :
    run (readLong n) s = .next (((s.dropped 2).loaded p).pushed (s.wordAt p)) := by
  subst hp
  exact run_ok ((bind_ok (popLong_topLong hsp)).trans (loadLong_dropped hd 1 hr))

theorem exec_rc {alpha : Byte} (hr : s.canRead (s.codeWord (s.top 0 + zextByte alpha)) = true) (hsp : 0 < s.sp.val) :
    exec (.rc alpha) s = .next (((s.dropped 1).loaded (s.codeWord (s.top 0 + zextByte alpha))).pushed
      (s.wordAt (s.codeWord (s.top 0 + zextByte alpha)))) := by
  have hlt := s.sp.isLt
  exact run_ok ((bind_ok (pop_run hsp)).trans ((bind_ok (readCode_dropped hd 1 hr)).trans
    (push_run (by rw [State.loaded_sp, State.dropped_sp_val]; omega))))

theorem exec_al0ib {alpha : Byte} (hr : s.canRead (s.lengthen s.lf) = true) (hsp : s.sp.val < 14) :
    exec (.al0ib alpha) s =
      .next ((s.loaded (s.lengthen s.lf)).pushed (s.wordAt (s.lengthen s.lf) + zextByte alpha)) :=
  (run_localZero (fun p => memReadMds p >>= fun w => push (w + zextByte alpha)) s).trans
    (run_ok ((bind_ok (memReadMds_run hd hr)).trans (push_run (by rwa [State.loaded_sp]))))

end

/-- Settles O17. A short pointer, a long pointer and a code offset differ in the address they give only. -/
theorem pointerLoads : Obligations.PointerLoads := by
  intro alpha s hd
  refine ⟨?_, ?_, exec_al0ib hd⟩
  all_goals simp only [List.forall_mem_cons, List.not_mem_nil, false_imp_iff, implies_true, and_true]
  · exact ⟨run_readShort hd (add_zero _), run_readShort hd rfl, run_readShort hd rfl, exec_rc hd⟩
  · exact ⟨run_readLong hd (add_zero _), run_readLong hd rfl⟩

/-! ### Double reads: both reads, then both pushes (43_assign_immediate_frame_pointer.md R414) -/

theorem pushTwo_run {u v : Word} {s : State} (h : s.sp.val < 13) :
    (push u >>= fun _ => push v) s = .ok () ((s.pushed u).pushed v) := by
  rw [bind_ok (push_run (by omega)), push_run (by rw [State.pushed_sp_val]; omega)]

section

variable {s : State} (hd : s.devices = []) (hc : s.mapCanonical = true)
include hd hc

/-- The second read of two, after the first. -/
theorem memRead_loaded {a b : LongWord} (ha : s.canRead a = true) (hb : s.canRead b = true) :
    memRead b (s.loaded a) = .ok (s.wordAt b) ((s.loaded a).loaded b) := by
  rw [memRead_run (by rwa [State.loaded_devices]) (by rwa [canRead_loaded hc ha]), wordAt_loaded hc ha]

theorem memReadMds_loaded {a : LongWord} {p : Word} (ha : s.canRead a = true) (hp : s.canRead (s.lengthen p) = true) :
    memReadMds p (s.loaded a) = .ok (s.wordAt (s.lengthen p)) ((s.loaded a).loaded (s.lengthen p)) := by
  rw [memReadMds, getState_bind, State.loaded_lengthen, memRead_loaded hd hc ha hp]

theorem fetchLongDouble_run {p : LongWord} (hlow : s.canRead p = true) (hhigh : s.canRead (p + 1) = true)
    (hsp : s.sp.val < 13) : fetchLongDouble p s =
      .ok () ((((s.loaded p).loaded (p + 1)).pushed (s.wordAt p)).pushed (s.wordAt (p + 1))) := by
  unfold fetchLongDouble
  rw [bind_ok (memRead_run hd hlow), bind_ok (memRead_loaded hd hc hlow hhigh),
    pushTwo_run (by rwa [State.loaded_sp, State.loaded_sp])]

theorem fetchShortDouble_run {p : Word} (hlow : s.canRead (s.lengthen p) = true)
    (hhigh : s.canRead (s.lengthen (p + 1)) = true) (hsp : s.sp.val < 13) : fetchShortDouble p s =
      .ok () ((((s.loaded (s.lengthen p)).loaded (s.lengthen (p + 1))).pushed (s.wordAt (s.lengthen p))).pushed
        (s.wordAt (s.lengthen (p + 1)))) := by
  unfold fetchShortDouble
  rw [bind_ok (memReadMds_run hd hlow), bind_ok (memReadMds_loaded hd hc hlow hhigh),
    pushTwo_run (by rwa [State.loaded_sp, State.loaded_sp])]

theorem run_readShortDouble {n p : Word} (hp : s.top 0 + n = p) (hlow : s.canRead (s.lengthen p) = true)
    (hhigh : s.canRead (s.lengthen (p + 1)) = true) (hsp : 0 < s.sp.val) (hfree : s.sp.val < 14) :
    run (readShortDouble n) s = .next (((((s.dropped 1).loaded (s.lengthen p)).loaded (s.lengthen (p + 1))).pushed
      (s.wordAt (s.lengthen p))).pushed (s.wordAt (s.lengthen (p + 1)))) := by
  subst hp
  exact run_ok ((bind_ok (pop_run hsp)).trans
    (fetchShortDouble_run (s := s.dropped 1) hd hc hlow hhigh (by rw [State.dropped_sp_val]; omega)))

theorem run_readLongDouble {n p : LongWord} (hp : s.topLong 0 + n = p) (hlow : s.canRead p = true)
    (hhigh : s.canRead (p + 1) = true) (hsp : 2 ≤ s.sp.val) :
    run (readLongDouble n) s = .next (((((s.dropped 2).loaded p).loaded (p + 1)).pushed (s.wordAt p)).pushed
      (s.wordAt (p + 1))) := by
  subst hp
  have hlt := s.sp.isLt
  exact run_ok ((bind_ok (popLong_topLong hsp)).trans
    (fetchLongDouble_run (s := s.dropped 2) hd hc hlow hhigh (by rw [State.dropped_sp_val]; omega)))

end

/-- Settles O18. Short and long pointers are popped, and both words read before either is pushed. -/
theorem pointerDoubleLoads : Obligations.PointerDoubleLoads := by
  intro alpha s hd hc
  refine ⟨?_, ?_⟩
  all_goals simp only [List.forall_mem_cons, List.not_mem_nil, false_imp_iff, implies_true, and_true]
  · exact ⟨run_readShortDouble hd hc (add_zero _), run_readShortDouble hd hc rfl⟩
  · exact ⟨run_readLongDouble hd hc (add_zero _), run_readLongDouble hd hc rfl⟩

/-! ### Writes through a pointer, and puts swapped -/

section

variable {s : State} (hd : s.devices = [])
include hd

theorem run_writeShort {n p : Word} (hp : s.top 0 + n = p) (hw : s.canWrite (s.lengthen p) = true) (hsp : 2 ≤ s.sp.val) :
    run (writeShort n) s = .next ((s.stored (s.lengthen p) (s.top 1)).dropped 2) := by
  subst hp
  exact run_ok ((bind_ok (pop_run (by omega))).trans (memWritePopMds_dropped (n := 1) hd hw hsp))

theorem exec_wlb {alpha : Byte} (hw : s.canWrite (s.topLong 0 + zextByteLong alpha) = true) (hsp : 3 ≤ s.sp.val) :
    exec (.wlb alpha) s = .next ((s.stored (s.topLong 0 + zextByteLong alpha) (s.top 2)).dropped 3) :=
  run_ok ((bind_ok (popLong_topLong (by omega))).trans (memWritePop_dropped (n := 2) hd hw hsp))

/-- A put swapped leaves the short pointer on the stack (43_assign_immediate_frame_pointer.md R425). -/
theorem exec_psb {alpha : Byte} (hw : s.canWrite (s.lengthen (s.top 1 + zextByte alpha)) = true) (hsp : 2 ≤ s.sp.val) :
    exec (.psb alpha) s = .next ((s.stored (s.lengthen (s.top 1 + zextByte alpha)) (s.top 0)).dropped 1) :=
  run_ok ((popTwo_run hsp).trans ((bind_ok (memWriteMds_dropped hd (s.top 0) 2 hw)).trans
    (recoverTop_dropped (by rw [State.stored_sp]; omega))))

/-- A put swapped leaves the long pointer on the stack (43_assign_immediate_frame_pointer.md R429). -/
theorem exec_pslb {alpha : Byte} (hw : s.canWrite (s.topLong 1 + zextByteLong alpha) = true) (hsp : 3 ≤ s.sp.val) :
    exec (.pslb alpha) s = .next ((s.stored (s.topLong 1 + zextByteLong alpha) (s.top 0)).dropped 1) :=
  run_ok ((popThenLong_run hsp).trans ((bind_ok (memWrite_dropped hd (s.top 0) 3 hw)).trans
    ((bind_ok (recoverTop_dropped (by rw [State.stored_sp]; omega))).trans
      (recoverTop_dropped (by rw [State.stored_sp]; omega)))))

end

/-- Settles O19. A write pops its pointer first; a put swapped pops the word first and recovers the pointer. -/
theorem pointerStores : Obligations.PointerStores := by
  intro alpha s hd
  refine ⟨?_, exec_wlb hd, exec_psb hd, exec_pslb hd⟩
  simp only [List.forall_mem_cons, List.not_mem_nil, false_imp_iff, implies_true, and_true]
  exact ⟨run_writeShort hd (add_zero _), run_writeShort hd rfl⟩

/-! ### Double writes through a pointer, and double puts swapped -/

theorem canReadAll_cons_iff {s : State} {va : LongWord} {l : List LongWord} :
    s.canReadAll (va :: l) = true ↔ s.canRead va = true ∧ s.canReadAll l = true := Bool.and_eq_true_iff

theorem canWriteAll_cons_iff {s : State} {va : LongWord} {l : List LongWord} :
    s.canWriteAll (va :: l) = true ↔ s.canWrite va = true ∧ s.canWriteAll l = true := Bool.and_eq_true_iff

/-- Two words popped, and then a pointer. -/
theorem popTwoThenPop_run {α : Type} {f : Word → Word → Word → M α} {s : State} (h : 3 ≤ s.sp.val) :
    (pop >>= fun v => pop >>= fun u => pop >>= fun p => f v u p) s = f (s.top 0) (s.top 1) (s.top 2) (s.dropped 3) := by
  rw [popTwo_run (by omega), bind_ok (pop_run (by rw [State.dropped_sp_val]; omega)), State.dropped_top,
    State.dropped_dropped]

/-- Two words popped, and then a long pointer. -/
theorem popTwoThenLong_run {α : Type} {f : Word → Word → LongWord → M α} {s : State} (h : 4 ≤ s.sp.val) :
    (pop >>= fun v => pop >>= fun u => popLong >>= fun p => f v u p) s =
      f (s.top 0) (s.top 1) (s.topLong 2) (s.dropped 4) := by
  rw [popTwo_run (by omega), bind_ok (popLong_topLong (by rw [State.dropped_sp_val]; omega)), State.dropped_dropped]
  simp only [State.topLong, State.dropped_top]

section

variable {s : State} (hd : s.devices = []) (hc : s.mapCanonical = true)
include hd hc

/-- Two stores of words already popped. -/
theorem memWriteTwo_dropped {a b : LongWord} (u v : Word) (n : Nat) (m : M Unit) (ha : s.canWrite a = true)
    (hb : s.canWrite b = true) : (memWrite a u >>= fun _ => memWrite b v >>= fun _ => m) (s.dropped n) =
      m (((s.stored a u).stored b v).dropped n) := by
  rw [bind_ok (memWrite_dropped hd u n ha),
    bind_ok (memWrite_dropped (by rwa [State.stored_devices]) v n (by rwa [canWrite_stored hc ha]))]

theorem memWriteMdsTwo_dropped {p q : Word} (u v : Word) (n : Nat) (m : M Unit) (hp : s.canWrite (s.lengthen p) = true)
    (hq : s.canWrite (s.lengthen q) = true) :
    (memWriteMds p u >>= fun _ => memWriteMds q v >>= fun _ => m) (s.dropped n) =
      m (((s.stored (s.lengthen p) u).stored (s.lengthen q) v).dropped n) := by
  have hsecond : memWriteMds q v ((s.stored (s.lengthen p) u).dropped n) =
      .ok () (((s.stored (s.lengthen p) u).stored (s.lengthen q) v).dropped n) := by
    rw [memWriteMds_dropped (by rwa [State.stored_devices]) v n (by rwa [State.stored_lengthen, canWrite_stored hc hp]),
      State.stored_lengthen]
  rw [bind_ok (memWriteMds_dropped hd u n hp), bind_ok hsecond]

theorem exec_wdb {alpha : Byte} {p : Word} (hp : s.top 0 + zextByte alpha = p)
    (hw : s.canWriteAll [s.lengthen p, s.lengthen (p + 1)] = true) (hsp : 3 ≤ s.sp.val) :
    exec (.wdb alpha) s =
      .next (((s.stored (s.lengthen (p + 1)) (s.top 1)).stored (s.lengthen p) (s.top 2)).dropped 3) := by
  subst hp
  simp only [canWriteAll_cons_iff] at hw
  obtain ⟨hlow, hhigh, -⟩ := hw
  exact run_ok ((bind_ok (pop_run (by omega))).trans (storeShortDouble_dropped (n := 1) hd hc hlow hhigh hsp))

theorem exec_wdlb {alpha : Byte} {p : LongWord} (hp : s.topLong 0 + zextByteLong alpha = p)
    (hw : s.canWriteAll [p, p + 1] = true) (hsp : 4 ≤ s.sp.val) :
    exec (.wdlb alpha) s = .next (((s.stored (p + 1) (s.top 2)).stored p (s.top 3)).dropped 4) := by
  subst hp
  simp only [canWriteAll_cons_iff] at hw
  obtain ⟨hlow, hhigh, -⟩ := hw
  exact run_ok ((bind_ok (popLong_topLong (by omega))).trans (storeLongDouble_dropped (n := 2) hd hc hlow hhigh hsp))

theorem run_putSwappedDouble {n p : Word} (hp : s.top 2 + n = p)
    (hw : s.canWriteAll [s.lengthen p, s.lengthen (p + 1)] = true) (hsp : 3 ≤ s.sp.val) :
    run (putSwappedDouble n) s =
      .next (((s.stored (s.lengthen (p + 1)) (s.top 0)).stored (s.lengthen p) (s.top 1)).dropped 2) := by
  subst hp
  simp only [canWriteAll_cons_iff] at hw
  obtain ⟨hlow, hhigh, -⟩ := hw
  exact run_ok ((popTwoThenPop_run hsp).trans ((memWriteMdsTwo_dropped hd hc _ _ 3 _ hhigh hlow).trans
    (recoverTop_dropped (by rw [State.stored_sp, State.stored_sp]; omega))))

theorem exec_psdlb {alpha : Byte} {p : LongWord} (hp : s.topLong 2 + zextByteLong alpha = p)
    (hw : s.canWriteAll [p, p + 1] = true) (hsp : 4 ≤ s.sp.val) :
    exec (.psdlb alpha) s = .next (((s.stored (p + 1) (s.top 0)).stored p (s.top 1)).dropped 2) := by
  subst hp
  simp only [canWriteAll_cons_iff] at hw
  obtain ⟨hlow, hhigh, -⟩ := hw
  exact run_ok ((popTwoThenLong_run hsp).trans ((memWriteTwo_dropped hd hc _ _ 4 _ hhigh hlow).trans
    ((bind_ok (recoverTop_dropped (by rw [State.stored_sp, State.stored_sp]; omega))).trans
      (recoverTop_dropped (by rw [State.stored_sp, State.stored_sp]; omega)))))

end

/-- Settles O20. A write pops its pointer first; a put swapped pops the words first and leaves the pointer. -/
theorem pointerDoubleStores : Obligations.PointerDoubleStores := by
  intro alpha s hd hc
  refine ⟨exec_wdb hd hc rfl, exec_wdlb hd hc rfl, ?_, exec_psdlb hd hc rfl⟩
  simp only [List.forall_mem_cons, List.not_mem_nil, false_imp_iff, implies_true, and_true]
  exact ⟨run_putSwappedDouble hd hc (add_zero _), run_putSwappedDouble hd hc rfl⟩

/-! ### Pointers held in a frame -/

/-- A routine on the pointer in a local is the routine on the word there (43_assign_immediate_frame_pointer.md R441). -/
theorem run_localPointer (f : Word → M Unit) (left : Word) (s : State) :
    run (localPointer left >>= f) s = run (memReadMds (s.lf + left) >>= f) s := run_congr rfl

/-- Local variable 0 stands at `LF` itself. -/
theorem run_localPointerZero (f : Word → M Unit) (s : State) :
    run (localPointer 0 >>= f) s = run (memReadMds s.lf >>= f) s := by
  rw [run_localPointer, add_zero]

/-- A routine on the long pointer in two locals is the routine on the long there
(43_assign_immediate_frame_pointer.md R442). -/
theorem run_localLongPointer (f : LongWord → M Unit) (left : Word) (s : State) :
    run (localLongPointer left >>= f) s = run (readDblMds (s.lf + left) >>= f) s := run_congr rfl

/-! ### Accesses after both words of a long pointer are loaded -/

@[simp] theorem State.loadedLong_devices (s : State) (va : LongWord) : (s.loadedLong va).devices = s.devices := by
  rw [State.loadedLong, State.loaded_devices, State.loaded_devices]

@[simp] theorem State.loadedLong_sp (s : State) (va : LongWord) : (s.loadedLong va).sp = s.sp := by
  rw [State.loadedLong, State.loaded_sp, State.loaded_sp]

@[simp] theorem State.loadedLong_top (s : State) (va : LongWord) (k : Nat) : (s.loadedLong va).top k = s.top k := by
  rw [State.loadedLong, State.loaded_top, State.loaded_top]

theorem canReadLong_iff {s : State} {va : LongWord} :
    s.canReadLong va = true ↔ s.canRead va = true ∧ s.canRead (va + 1) = true := Bool.and_eq_true_iff

theorem canReadLong_of_canReadAll {s : State} {va : LongWord} {l : List LongWord}
    (h : s.canReadAll (va :: (va + 1) :: l) = true) : s.canReadLong va = true := by
  simp only [canReadAll_cons_iff] at h
  obtain ⟨hlow, hhigh, -⟩ := h
  exact canReadLong_iff.mpr ⟨hlow, hhigh⟩

theorem loadedLong_canonical {s : State} {va : LongWord} (hc : s.mapCanonical = true) :
    (s.loadedLong va).mapCanonical = true := loaded_canonical (loaded_canonical hc)

section

variable {s : State} {va : LongWord} (hc : s.mapCanonical = true) (h : s.canReadLong va = true)
include hc h

theorem translate_loadedLong (va' : LongWord) (op : Access) :
    (s.loadedLong va).translate va' op = s.translate va' op := by
  obtain ⟨hlow, hhigh⟩ := canReadLong_iff.mp h
  rw [State.loadedLong, translate_loaded (loaded_canonical hc) (by rwa [canRead_loaded hc hlow]), translate_loaded hc hlow]

theorem canRead_loadedLong (va' : LongWord) : (s.loadedLong va).canRead va' = s.canRead va' := by
  unfold State.canRead; rw [translate_loadedLong hc h]

theorem canWrite_loadedLong (va' : LongWord) : (s.loadedLong va).canWrite va' = s.canWrite va' := by
  unfold State.canWrite; rw [translate_loadedLong hc h]

theorem wordAt_loadedLong (va' : LongWord) : (s.loadedLong va).wordAt va' = s.wordAt va' :=
  wordAt_congr (translate_loadedLong hc h) (by rw [State.loadedLong, State.loaded_mem, State.loaded_mem]) va'

end

/-! ### Reads through a pointer held in a frame -/

section

variable {s : State} (hd : s.devices = []) (hc : s.mapCanonical = true)
include hd hc

/-- The short pointer is read first, then the word it points to (43_assign_immediate_frame_pointer.md R440). -/
theorem loadShort_indirect {p right : Word}
    (h : s.canReadAll [s.lengthen p, s.lengthen (s.wordAt (s.lengthen p) + right)] = true) (hsp : s.sp.val < 14) :
    (memReadMds p >>= fun ptr => loadShort (ptr + right)) s =
      .ok () (((s.loaded (s.lengthen p)).loaded (s.lengthen (s.wordAt (s.lengthen p) + right))).pushed
        (s.wordAt (s.lengthen (s.wordAt (s.lengthen p) + right)))) := by
  simp only [canReadAll_cons_iff] at h
  obtain ⟨hp, hr, -⟩ := h
  rw [bind_ok (memReadMds_run hd hp), loadShort, bind_ok (memReadMds_loaded hd hc hp hr),
    push_run (by rwa [State.loaded_sp, State.loaded_sp])]

/-- The long pointer is read first, then the word it points to (43_assign_immediate_frame_pointer.md R442). -/
theorem loadLong_indirect {p : Word} {right : LongWord}
    (h : s.canReadAll [s.lengthen p, s.lengthen p + 1, s.longAt (s.lengthen p) + right] = true) (hsp : s.sp.val < 14) :
    (readDblMds p >>= fun ptr => loadLong (ptr + right)) s =
      .ok () (((s.loadedLong (s.lengthen p)).loaded (s.longAt (s.lengthen p) + right)).pushed
        (s.wordAt (s.longAt (s.lengthen p) + right))) := by
  have hp := canReadLong_of_canReadAll h
  simp only [canReadAll_cons_iff] at h
  obtain ⟨-, -, hr, -⟩ := h
  rw [bind_ok (readDblMds_run hd hc hp), loadLong_run (by rwa [State.loadedLong_devices])
    (by rwa [canRead_loadedLong hc hp]) (by rwa [State.loadedLong_sp]), wordAt_loadedLong hc hp]

end

/-- Settles O21. Every read reads its pointer from its variable's address, then `loadShort` or `loadLong` through it. -/
theorem indirectLoads : Obligations.IndirectLoads := by
  intro left right s hd hc hsp
  refine ⟨fun p hmem h => ?_, fun p hmem h => ?_⟩
  · have hexec : exec p.1 s = run (memReadMds p.2.1 >>= fun ptr => loadShort (ptr + p.2.2)) s := by
      clear h
      revert p
      simp only [List.forall_mem_cons, List.not_mem_nil, false_imp_iff, implies_true, and_true]
      have hzero := fun n : Word => run_localPointerZero (fun ptr => loadShort (ptr + n)) s
      exact ⟨hzero 0, hzero 1, hzero 2, hzero 3, run_localPointer _ _ s, run_global _ _ s⟩
    rw [hexec]
    exact run_ok (loadShort_indirect hd hc h hsp)
  · have hexec : exec p.1 s = run (readDblMds p.2 >>= fun ptr => loadLong (ptr + zextNibbleLong right)) s := by
      clear h
      revert p
      simp only [List.forall_mem_cons, List.not_mem_nil, false_imp_iff, implies_true, and_true]
      exact ⟨run_localLongPointer _ _ s, run_global _ _ s⟩
    rw [hexec]
    exact run_ok (loadLong_indirect hd hc h hsp)

/-! ### Double reads through a pointer held in the local frame -/

section

variable {s : State} (hd : s.devices = []) (hc : s.mapCanonical = true)
include hd hc

theorem fetchShortDouble_indirect {p q right : Word} (hq : s.wordAt (s.lengthen p) + right = q)
    (h : s.canReadAll [s.lengthen p, s.lengthen q, s.lengthen (q + 1)] = true) (hsp : s.sp.val < 13) :
    (memReadMds p >>= fun ptr => fetchShortDouble (ptr + right)) s =
      .ok () (((((s.loaded (s.lengthen p)).loaded (s.lengthen q)).loaded (s.lengthen (q + 1))).pushed
        (s.wordAt (s.lengthen q))).pushed (s.wordAt (s.lengthen (q + 1)))) := by
  subst hq
  simp only [canReadAll_cons_iff] at h
  obtain ⟨hp, hlow, hhigh, -⟩ := h
  rw [bind_ok (memReadMds_run hd hp), fetchShortDouble_run (by rwa [State.loaded_devices]) (loaded_canonical hc)
    (by rwa [State.loaded_lengthen, canRead_loaded hc hp]) (by rwa [State.loaded_lengthen, canRead_loaded hc hp])
    (by rwa [State.loaded_sp])]
  simp only [State.loaded_lengthen, wordAt_loaded hc hp]

theorem fetchLongDouble_indirect {p : Word} {va right : LongWord} (hva : s.longAt (s.lengthen p) + right = va)
    (h : s.canReadAll [s.lengthen p, s.lengthen p + 1, va, va + 1] = true) (hsp : s.sp.val < 13) :
    (readDblMds p >>= fun ptr => fetchLongDouble (ptr + right)) s =
      .ok () (((((s.loadedLong (s.lengthen p)).loaded va).loaded (va + 1)).pushed (s.wordAt va)).pushed
        (s.wordAt (va + 1))) := by
  subst hva
  have hp := canReadLong_of_canReadAll h
  simp only [canReadAll_cons_iff] at h
  obtain ⟨-, -, hlow, hhigh, -⟩ := h
  rw [bind_ok (readDblMds_run hd hc hp), fetchLongDouble_run (by rwa [State.loadedLong_devices])
    (loadedLong_canonical hc) (by rwa [canRead_loadedLong hc hp]) (by rwa [canRead_loadedLong hc hp])
    (by rwa [State.loadedLong_sp]), wordAt_loadedLong hc hp, wordAt_loadedLong hc hp]

end

/-- Settles O22. Every double read reads its pointer from its variable's address, then both words through it. -/
theorem indirectDoubleLoads : Obligations.IndirectDoubleLoads := by
  intro left right s hd hc hsp
  refine ⟨?_, ?_⟩
  · simp only [List.forall_mem_cons, List.not_mem_nil, false_imp_iff, implies_true, and_true]
    exact ⟨fun h => (run_localPointerZero _ s).trans (run_ok (fetchShortDouble_indirect hd hc (add_zero _) h hsp)),
      fun h => (run_localPointer _ _ s).trans (run_ok (fetchShortDouble_indirect hd hc rfl h hsp))⟩
  · rintro _ va rfl hva h
    exact (run_localLongPointer _ _ s).trans (run_ok (fetchLongDouble_indirect hd hc hva.symm h hsp))

/-! ### Writes through a pointer held in the local frame -/

section

variable {s : State} (hd : s.devices = []) (hc : s.mapCanonical = true)
include hd hc

theorem memWritePopMds_indirect {p q right : Word} (hq : s.wordAt (s.lengthen p) + right = q)
    (hp : s.canRead (s.lengthen p) = true) (hw : s.canWrite (s.lengthen q) = true) (hsp : 0 < s.sp.val) :
    (memReadMds p >>= fun ptr => memWritePopMds (ptr + right)) s =
      .ok () (((s.loaded (s.lengthen p)).stored (s.lengthen q) (s.top 0)).dropped 1) := by
  subst hq
  rw [bind_ok (memReadMds_run hd hp), memWritePopMds_run (by rwa [State.loaded_devices])
    (by rwa [State.loaded_lengthen, canWrite_loaded hc hp]) (by rwa [State.loaded_sp]), State.loaded_lengthen,
    State.loaded_top]

theorem memWritePop_indirect {p : Word} {va right : LongWord} (hva : s.longAt (s.lengthen p) + right = va)
    (hp : s.canReadLong (s.lengthen p) = true) (hw : s.canWrite va = true) (hsp : 0 < s.sp.val) :
    (readDblMds p >>= fun ptr => memWritePop (ptr + right)) s =
      .ok () (((s.loadedLong (s.lengthen p)).stored va (s.top 0)).dropped 1) := by
  subst hva
  rw [bind_ok (readDblMds_run hd hc hp), memWritePop_run (by rwa [State.loadedLong_devices])
    (by rwa [canWrite_loadedLong hc hp]) (by rwa [State.loadedLong_sp]), State.loadedLong_top]

theorem storeLongDouble_indirect {p : Word} {va right : LongWord} (hva : s.longAt (s.lengthen p) + right = va)
    (hp : s.canReadLong (s.lengthen p) = true) (hlow : s.canWrite va = true) (hhigh : s.canWrite (va + 1) = true)
    (hsp : 2 ≤ s.sp.val) :
    (readDblMds p >>= fun ptr => storeLongDouble (ptr + right)) s =
      .ok () ((((s.loadedLong (s.lengthen p)).stored (va + 1) (s.top 0)).stored va (s.top 1)).dropped 2) := by
  subst hva
  have hstore := storeLongDouble_dropped (s := s.loadedLong (s.lengthen p)) (p := s.longAt (s.lengthen p) + right) (n := 0)
    (by rwa [State.loadedLong_devices]) (loadedLong_canonical hc) (by rwa [canWrite_loadedLong hc hp])
    (by rwa [canWrite_loadedLong hc hp]) (by rwa [State.loadedLong_sp])
  rw [State.dropped_zero, State.loadedLong_top, State.loadedLong_top] at hstore
  rw [bind_ok (readDblMds_run hd hc hp), hstore]

end

/-- Settles O23. Every write reads its pointer from its variable's address, then pops what it stores through it. -/
theorem indirectStores : Obligations.IndirectStores := by
  rintro left right s _ va q hd hc rfl hq hva
  refine ⟨fun hp hw hsp => ?_, fun hp hw hsp => ?_, fun hp hw hsp => ?_⟩
  · exact (run_localPointer _ _ s).trans (run_ok (memWritePopMds_indirect hd hc hq.symm hp hw hsp))
  · exact (run_localLongPointer _ _ s).trans
      (run_ok (memWritePop_indirect hd hc hva.symm (canReadLong_of_canReadAll hp) hw hsp))
  · simp only [canWriteAll_cons_iff] at hw
    obtain ⟨hlow, hhigh, -⟩ := hw
    exact (run_localLongPointer _ _ s).trans
      (run_ok (storeLongDouble_indirect hd hc hva.symm (canReadLong_of_canReadAll hp) hlow hhigh hsp))

end Sys2Proof.Machine

namespace Sys2Proof.Machine

-- As in the tests: many kernel checks at once need more threads than a compile of the whole text may have.
set_option Elab.async false

/-! ### Strings (44_assign_string_field.md R471 to R476) -/

/-- A word popped, then a long pointer, then a word. -/
theorem popThenLongThenPop_run {α : Type} {f : Word → LongWord → Word → M α} {s : State} (h : 4 ≤ s.sp.val) :
    (pop >>= fun v => popLong >>= fun p => pop >>= fun u => f v p u) s =
      f (s.top 0) (s.topLong 1) (s.top 3) (s.dropped 4) := by
  rw [popThenLong_run (by omega), bind_ok (pop_run (by rw [State.dropped_sp_val]; omega)), State.dropped_top,
    State.dropped_dropped]

/-- A routine goes on with the word of a string in the current MDS (44_assign_string_field.md R471). -/
theorem shortStringWord_bind {α : Type} (f : LongWord → M α) (ptr offset : Word) (s : State) :
    (shortStringWord ptr offset >>= f) s = f (s.lengthen (ptr + offset >>> 1)) s := rfl

section

variable {s : State} (hd : s.devices = [])
include hd

theorem fetchByte_run {ptr offset : LongWord} (h : s.canRead (ptr + offset >>> 1) = true) :
    fetchByte ptr offset s =
      .ok (selectByte (s.wordAt (ptr + offset >>> 1)) (offset.getLsbD 0)) (s.loaded (ptr + offset >>> 1)) := by
  rw [fetchByte, bind_ok (memRead_run hd h), pure_run]

/-- A word read and rewritten in place: both accesses go through where the store does. -/
theorem memRead_memWrite_run {va : LongWord} (f : Word → Word) (hc : s.mapCanonical = true) (h : s.canWrite va = true) :
    (memRead va >>= fun w => memWrite va (f w)) s = .ok () ((s.loaded va).stored va (f (s.wordAt va))) := by
  have hr := canRead_of_canWrite h
  rw [bind_ok (memRead_run hd hr), memWrite_run _ (by rwa [State.loaded_devices]) (by rwa [canWrite_loaded hc hr])]

theorem exec_rs {alpha : Byte} {offset : Word} {va : LongWord} (ho : offset = zextByte alpha + s.top 0)
    (hva : va = s.lengthen (s.top 1 + offset >>> 1)) (hr : s.canRead va = true) (hsp : 2 ≤ s.sp.val) :
    exec (.rs alpha) s =
      .next (((s.dropped 2).loaded va).pushed (zextByte (selectByte (s.wordAt va) (offset.getLsbD 0)))) := by
  subst ho hva
  have hlt := s.sp.isLt
  exact run_ok ((popTwo_run hsp).trans ((shortStringWord_bind _ _ _ _).trans
    ((bind_ok (memRead_run (s := s.dropped 2) hd hr)).trans
      (push_run (by rw [State.loaded_sp, State.dropped_sp_val]; omega)))))

theorem exec_rls {alpha : Byte} {offset va : LongWord} (ho : offset = zextByteLong alpha + zextLong (s.top 0))
    (hva : va = s.topLong 1 + offset >>> 1) (hr : s.canRead va = true) (hsp : 3 ≤ s.sp.val) :
    exec (.rls alpha) s =
      .next (((s.dropped 3).loaded va).pushed (zextByte (selectByte (s.wordAt va) (offset.getLsbD 0)))) := by
  subst ho hva
  have hlt := s.sp.isLt
  exact run_ok ((popThenLong_run hsp).trans ((bind_ok (fetchByte_run (s := s.dropped 3) hd hr)).trans
    (push_run (by rw [State.loaded_sp, State.dropped_sp_val]; omega))))

theorem exec_ws {alpha : Byte} {offset : Word} {va : LongWord} (hc : s.mapCanonical = true)
    (ho : offset = zextByte alpha + s.top 0) (hva : va = s.lengthen (s.top 1 + offset >>> 1))
    (hw : s.canWrite va = true) (hsp : 3 ≤ s.sp.val) :
    exec (.ws alpha) s = .next (((s.dropped 3).loaded va).stored va
      (replaceByte (s.wordAt va) (offset.getLsbD 0) (rightByte (s.top 2)))) := by
  subst ho hva
  exact run_ok ((popTwoThenPop_run hsp).trans ((shortStringWord_bind _ _ _ _).trans
    (memRead_memWrite_run (s := s.dropped 3) hd (fun w => replaceByte w _ _) hc hw)))

theorem exec_wls {alpha : Byte} {offset va : LongWord} (hc : s.mapCanonical = true)
    (ho : offset = zextByteLong alpha + zextLong (s.top 0)) (hva : va = s.topLong 1 + offset >>> 1)
    (hw : s.canWrite va = true) (hsp : 4 ≤ s.sp.val) :
    exec (.wls alpha) s = .next (((s.dropped 4).loaded va).stored va
      (replaceByte (s.wordAt va) (offset.getLsbD 0) (rightByte (s.top 3)))) := by
  subst ho hva
  exact run_ok ((popThenLongThenPop_run hsp).trans
    (memRead_memWrite_run (s := s.dropped 4) hd (fun w => replaceByte w _ _) hc hw))

end

/-- Settles O24. A read loads the word and pushes one byte of it; a write loads the word and rewrites it in place. -/
theorem stringInstructions : Obligations.StringInstructions := by
  intro alpha s offset offsetLong va vb hd hc ho hol hva hvb
  exact ⟨exec_rs hd ho hva, exec_rls hd hol hvb, exec_ws hd hc ho hva, exec_wls hd hc hol hvb⟩

/-! ### Field reads (44_assign_string_field.md R481, R483 to R490) -/

section

variable {s : State} {va : LongWord} {pos size : Nibble} (hd : s.devices = []) (hr : s.canRead va = true)
include hd hr

theorem loadField_legal (hl : fieldSpecLegal pos size = true) (hsp : s.sp.val < 14) :
    loadField va pos size s = .ok () ((s.loaded va).pushed (readField (s.wordAt va) pos size)) := by
  rw [loadField, bind_ok (memRead_run hd hr), pushField, if_pos hl, push_run (by rwa [State.loaded_sp])]

/-- An illegal specifier is refused once the word is read (44_assign_string_field.md R481, U11, log entry 28). -/
theorem loadField_illegal (hl : fieldSpecLegal pos size = false) :
    loadField va pos size s = .error (.refuse (.fieldSpecifier (nibblePair pos size))) (s.loaded va) := by
  rw [loadField, bind_ok (memRead_run hd hr), pushField, if_neg (Bool.not_eq_true _ ▸ hl), refuse_run]

/-- A legal field read after some words are popped, which leaves room for the field. -/
theorem run_loadField_legal {m : M Unit} {n : Nat} (hm : m s = loadField va pos size (s.dropped (n + 1)))
    (hl : fieldSpecLegal pos size = true) :
    run m s = .next (((s.dropped (n + 1)).loaded va).pushed (readField (s.wordAt va) pos size)) := by
  have hlt := s.sp.isLt
  exact run_ok (hm.trans (loadField_legal (s := s.dropped (n + 1)) hd hr hl (by rw [State.dropped_sp_val]; omega)))

theorem run_loadField {m : M Unit} {n : Nat} (hm : m s = loadField va pos size (s.dropped (n + 1))) :
    (fieldSpecLegal pos size = true →
      run m s = .next (((s.dropped (n + 1)).loaded va).pushed (readField (s.wordAt va) pos size)))
    ∧ (fieldSpecLegal pos size = false → run m s = .refused (.fieldSpecifier (nibblePair pos size))) :=
  ⟨run_loadField_legal hd hr hm,
    fun hl => run_error (hm.trans (loadField_illegal (s := s.dropped (n + 1)) hd hr hl))⟩

end

/-- Two routines that do the same go on alike. -/
theorem bind_congr_run {α β : Type} {m m' : M α} {f : α → M β} {s t : State} (h : m s = m' t) :
    (m >>= f) s = (m' >>= f) t := by
  rw [bind_run, bind_run, h]

/-- A field read at a short pointer is one at its long address (20_memory.md R117). -/
theorem loadFieldMds_eq_loadField (p : Word) (pos size : Nibble) (s : State) :
    loadFieldMds p pos size s = loadField (s.lengthen p) pos size s :=
  bind_congr_run (by rw [memReadMds, getState_bind])

section

variable {s : State} {pos size : Nibble} (hd : s.devices = []) (hc : s.mapCanonical = true)
include hd hc

theorem exec_rlipf {left right : Nibble} {a va : LongWord} (ha : a = s.lengthen (s.lf + zextNibble left))
    (hva : va = s.lengthen (s.wordAt a + zextNibble right)) (h : s.canReadAll [a, va] = true) (hsp : s.sp.val < 14)
    (hl : fieldSpecLegal pos size = true) : exec (.rlipf left right pos size) s =
      .next (((s.loaded a).loaded va).pushed (readField (s.wordAt va) pos size)) := by
  subst ha hva
  simp only [canReadAll_cons_iff] at h
  obtain ⟨ha, hr, -⟩ := h
  refine run_ok ((bind_ok (memReadMds_run hd ha)).trans ?_)
  rw [loadFieldMds_eq_loadField, State.loaded_lengthen, loadField_legal (by rwa [State.loaded_devices])
    (by rwa [canRead_loaded hc ha]) hl (by rwa [State.loaded_sp]), wordAt_loaded hc ha]

theorem exec_rlilpf {left right : Nibble} {a va : LongWord} (ha : a = s.lengthen (s.lf + zextNibble left))
    (hva : va = s.longAt a + zextNibbleLong right) (h : s.canReadAll [a, a + 1, va] = true) (hsp : s.sp.val < 14)
    (hl : fieldSpecLegal pos size = true) : exec (.rlilpf left right pos size) s =
      .next (((s.loadedLong a).loaded va).pushed (readField (s.wordAt va) pos size)) := by
  subst ha hva
  have hp := canReadLong_of_canReadAll h
  simp only [canReadAll_cons_iff] at h
  obtain ⟨-, -, hr, -⟩ := h
  rw [← wordAt_loadedLong hc hp]
  exact run_ok ((bind_ok (readDblMds_run hd hc hp)).trans (loadField_legal (by rwa [State.loadedLong_devices])
    (by rwa [canRead_loadedLong hc hp]) hl (by rwa [State.loadedLong_sp])))

end

/-- Settles O25. Every field read pops its operands, and then is `loadField` of one address. -/
theorem fieldReads : Obligations.FieldReads := by
  intro alpha left right pos size s hd hc
  refine ⟨?_, ?_, fun a va => exec_rlipf hd hc, fun a va => exec_rlilpf hd hc⟩
  all_goals simp only [List.forall_mem_cons, List.not_mem_nil, false_imp_iff, implies_true, and_true]
  · exact ⟨fun hr hsp => run_loadField hd hr ((bind_ok (pop_run hsp)).trans (loadFieldMds_eq_loadField _ _ _ _)),
      fun hr hsp => run_loadField hd hr ((bind_ok (pop_run hsp)).trans (loadFieldMds_eq_loadField _ _ _ _)),
      fun hr hsp => run_loadField hd hr (bind_ok (popLong_topLong hsp)),
      fun hr hsp => run_loadField hd hr (bind_ok (popLong_topLong hsp))⟩
  · exact ⟨fun hr hsp => run_loadField_legal hd hr (popThenLong_run hsp),
      fun hr hsp => run_loadField_legal hd hr (popTwo_run hsp)⟩

/-! ### Field stores (44_assign_string_field.md R481, R482, R491 to R500) -/

theorem loaded_dropped (s : State) (n : Nat) (va : LongWord) : (s.dropped n).loaded va = (s.loaded va).dropped n := by
  simp only [State.loaded, State.mark, State.writeMap, if_pos (pageOf_lt va)]
  rfl

/-- A field store at a short pointer is one at its long address (20_memory.md R117). -/
theorem mergeFieldMds_eq_mergeField (p : Word) (pos size : Nibble) (data : Word) (s : State) :
    mergeFieldMds p pos size data s = mergeField (s.lengthen p) pos size data s := rfl

theorem writeSwappedField_run {offset : Word} {pos size : Nibble} {s : State} (h : 2 ≤ s.sp.val) :
    writeSwappedField offset pos size s =
      mergeField (s.lengthen (s.top 1 + offset)) pos size (s.top 0) (s.dropped 2) :=
  (popTwo_run h).trans (mergeFieldMds_eq_mergeField _ _ _ _ _)

section

variable {s : State} {va : LongWord} {pos size : Nibble} {data : Word} {n : Nat} (hd : s.devices = [])
  (hw : s.canWrite va = true)
include hd hw

/-- A legal field store after some words are popped. -/
theorem mergeField_legal (hc : s.mapCanonical = true) (hl : fieldSpecLegal pos size = true) :
    mergeField va pos size data (s.dropped n) =
      .ok () (((s.loaded va).stored va (writeField (s.wordAt va) pos size data)).dropped n) := by
  have hmerge := memRead_memWrite_run (s := s.dropped n) hd (fun w => writeField w pos size data) hc hw
  rw [loaded_dropped, stored_dropped, State.wordAt_dropped] at hmerge
  simpa only [mergeField, if_pos hl] using hmerge

/-- An illegal specifier is refused once the word is read (44_assign_string_field.md R481, U11, log entry 28). -/
theorem mergeField_illegal (hl : fieldSpecLegal pos size = false) : mergeField va pos size data (s.dropped n) =
    .error (.refuse (.fieldSpecifier (nibblePair pos size))) ((s.dropped n).loaded va) := by
  rw [mergeField, bind_ok (memRead_run (s := s.dropped n) hd (canRead_of_canWrite hw)),
    if_neg (Bool.not_eq_true _ ▸ hl), refuse_run]

theorem run_mergeField {m : M Unit} (hc : s.mapCanonical = true)
    (hm : m s = mergeField va pos size data (s.dropped n)) :
    (fieldSpecLegal pos size = true → run m s =
      .next (((s.loaded va).stored va (writeField (s.wordAt va) pos size data)).dropped n))
    ∧ (fieldSpecLegal pos size = false → run m s = .refused (.fieldSpecifier (nibblePair pos size))) :=
  ⟨fun hl => run_ok (hm.trans (mergeField_legal hd hw hc hl)),
    fun hl => run_error (hm.trans (mergeField_illegal hd hw hl))⟩

/-- A put: what follows the field store recovers words of the pointer (44_assign_string_field.md R498). -/
theorem run_mergeField_recover {m recover : M Unit} {k : Nat} (hc : s.mapCanonical = true)
    (hm : m s = (mergeField va pos size data >>= fun _ => recover) (s.dropped n))
    (hrecover : ∀ t : State, t.sp = s.sp → recover (t.dropped n) = .ok () (t.dropped k)) :
    (fieldSpecLegal pos size = true → run m s =
      .next (((s.loaded va).stored va (writeField (s.wordAt va) pos size data)).dropped k))
    ∧ (fieldSpecLegal pos size = false → run m s = .refused (.fieldSpecifier (nibblePair pos size))) :=
  ⟨fun hl => run_ok (hm.trans ((bind_ok (mergeField_legal hd hw hc hl)).trans
      (hrecover _ (by rw [State.stored_sp, State.loaded_sp])))),
    fun hl => run_error (hm.trans (bind_error (mergeField_illegal hd hw hl)))⟩

end

/-- A put leaves the short pointer on the stack (44_assign_string_field.md R498, R499). -/
theorem run_putSwappedField {s : State} {offset p : Word} {pos size : Nibble} (hp : s.top 1 + offset = p)
    (hd : s.devices = []) (hc : s.mapCanonical = true) (hw : s.canWrite (s.lengthen p) = true) (hsp : 2 ≤ s.sp.val) :
    (fieldSpecLegal pos size = true → run (writeSwappedField offset pos size >>= fun _ => recoverTop) s =
      .next (((s.loaded (s.lengthen p)).stored (s.lengthen p)
        (writeField (s.wordAt (s.lengthen p)) pos size (s.top 0))).dropped 1))
    ∧ (fieldSpecLegal pos size = false → run (writeSwappedField offset pos size >>= fun _ => recoverTop) s =
      .refused (.fieldSpecifier (nibblePair pos size))) := by
  subst hp
  exact run_mergeField_recover hd hw hc (bind_congr_run (writeSwappedField_run hsp))
    fun t ht => recoverTop_dropped (by rw [ht]; omega)

/-- The two words of a long pointer recovered. -/
theorem recoverTwo_dropped {s : State} {n : Nat} (h : n + 1 < s.sp.val) :
    (recoverTop >>= fun _ => recoverTop) (s.dropped (n + 2)) = .ok () (s.dropped n) := by
  rw [bind_ok (recoverTop_dropped (n := n + 1) h), recoverTop_dropped (by omega)]

/-- Settles O26. Every field store pops its operands and then is `mergeField` at one address; a put swapped then recovers the
pointer. -/
theorem fieldStores : Obligations.FieldStores := by
  intro alpha pos size s hd hc
  refine ⟨?_, fun va hva hw hsp hl => ?_⟩
  · simp only [List.forall_mem_cons, List.not_mem_nil, false_imp_iff, implies_true, and_true]
    exact ⟨fun hw hsp => run_mergeField hd hw hc ((popTwo_run hsp).trans (mergeFieldMds_eq_mergeField _ _ _ _ _)),
      fun hw hsp => run_mergeField hd hw hc ((popTwo_run hsp).trans (mergeFieldMds_eq_mergeField _ _ _ _ _)),
      fun hw hsp => run_mergeField hd hw hc (popLongThenPop_run hsp),
      fun hw hsp => run_mergeField hd hw hc (popLongThenPop_run hsp),
      fun hw hsp => run_mergeField hd hw hc ((writeSwappedField_run hsp).trans (by rw [add_zero])),
      run_putSwappedField (add_zero _) hd hc, run_putSwappedField rfl hd hc,
      fun hw hsp => run_mergeField_recover hd hw hc (popThenLong_run hsp) fun t ht =>
        recoverTwo_dropped (by rw [ht]; exact hsp)⟩
  · subst hva
    exact run_ok ((popThenLongThenPop_run hsp).trans (mergeField_legal hd hw hc hl))

end Sys2Proof.Machine

namespace Sys2Proof.Machine

-- As in the tests: many kernel checks at once need more threads than a compile of the whole text may have.
set_option Elab.async false

/-! ### The main loop of a block transfer: how many rounds it may make does not show (45_block_transfers.md R520) -/

/-- An iteration that goes on leaves the count, `k` below the top, one lower than it found it, and interrupts as they were. -/
def CountsDown (k : Nat) (body : M Bool) : Prop :=
  ∀ s t : State, body s = .ok true t → s.top k ≠ 0 ∧ t.top k = s.top k - 1 ∧ t.wdc = s.wdc

/-- One round of the loop, with interrupts disabled. -/
theorem blockLoop_goesOn {body : M Bool} {s t : State} (n : Nat) (h : body s = .ok true t) (hw : t.wdc ≠ 0) :
    blockLoop (n + 1) body s = blockLoop n body t := by
  rw [blockLoop, bind_ok h]
  exact bind_ok (interruptPending_disabled hw)

theorem blockLoop_finishes {body : M Bool} {s t : State} (n : Nat) (h : body s = .ok false t) :
    blockLoop (n + 1) body s = .ok () t := by
  rw [blockLoop, bind_ok h]
  rfl

theorem blockLoop_aborts {body : M Bool} {s t : State} {e : Abort} (n : Nat) (h : body s = .error e t) :
    blockLoop (n + 1) body s = .error e t := by
  rw [blockLoop, bind_error h]

theorem toNat_sub_one_add_one {c : Word} (h : c ≠ 0) : (c - 1).toNat + 1 = c.toNat := by
  bv_omega

/-- Two bounds above the count give the loop the same end, interrupts being disabled: each round lowers the count. -/
theorem blockLoop_bound {k : Nat} {body : M Bool} (hbody : CountsDown k body) {m n : Nat} {s : State} (hw : s.wdc ≠ 0)
    (hm : (s.top k).toNat < m) (hn : (s.top k).toNat < n) : blockLoop m body s = blockLoop n body s := by
  induction m generalizing n s with
  | zero => exact absurd hm (Nat.not_lt_zero _)
  | succ m ih =>
    obtain ⟨n, rfl⟩ := Nat.exists_eq_succ_of_ne_zero (Nat.ne_zero_of_lt hn)
    cases h : body s with
    | error e t => rw [blockLoop_aborts m h, blockLoop_aborts n h]
    | ok more t =>
      cases more with
      | false => rw [blockLoop_finishes m h, blockLoop_finishes n h]
      | true =>
        obtain ⟨hcount, htop, hwdc⟩ := hbody s t h
        have hlower := toNat_sub_one_add_one hcount
        rw [← htop] at hlower
        rw [blockLoop_goesOn m h (hwdc ▸ hw), blockLoop_goesOn n h (hwdc ▸ hw)]
        exact ih (hwdc ▸ hw) (by omega) (by omega)

/-- The instruction goes on, with interrupts disabled, as it would from the operands pushed back. -/
theorem run_block_goesOn {k : Nat} {body : M Bool} (hbody : CountsDown k body) {s t : State} (hw : s.wdc ≠ 0)
    (h : body s = .ok true t) : run (blockLoop blockBound body) s = run (blockLoop blockBound body) t := by
  obtain ⟨-, -, hwdc⟩ := hbody s t h
  have hlt := (t.top k).isLt
  refine run_eq_run ?_
  rw [blockLoop_goesOn 65536 h (hwdc ▸ hw)]
  exact blockLoop_bound hbody (hwdc ▸ hw) hlt (Nat.lt_succ_of_lt hlt)

theorem run_block_finishes {body : M Bool} {s t : State} (h : body s = .ok false t) :
    run (blockLoop blockBound body) s = .next t :=
  run_ok (blockLoop_finishes _ h)

/-! ### The words pushed back -/

section

variable {s : State} {v : Word} {long : LongWord} {k : Nat}

theorem State.pushed_top_zero (h : s.sp.val < 14) : (s.pushed v).top 0 = v := by
  rw [State.top, State.pushed_slot s v _ h, if_pos (by rw [State.pushed_sp_val]; omega)]

theorem State.pushed_top_succ (h : s.sp.val < 14) (hk : k < s.sp.val) : (s.pushed v).top (k + 1) = s.top k := by
  rw [State.top, State.pushed_slot s v _ h, State.pushed_sp_val, if_neg (by omega), State.top]
  congr 1
  omega

theorem mkLong_halves (u : LongWord) : mkLong (lowHalf u) (highHalf u) = u := by
  refine BitVec.eq_of_toNat_eq ?_
  rw [mkLong_toNat, lowHalf, highHalf, BitVec.extractLsb'_toNat, BitVec.toNat_setWidth, Nat.shiftRight_eq_div_pow]
  omega

theorem State.pushedLong_topLong_zero (h : s.sp.val < 13) : (s.pushedLong long).topLong 0 = long := by
  rw [State.topLong, State.pushedLong, State.pushed_top_zero (by rw [State.pushed_sp_val]; omega),
    State.pushed_top_succ (by rw [State.pushed_sp_val]; omega) (by rw [State.pushed_sp_val]; omega),
    State.pushed_top_zero (by omega), mkLong_halves]

theorem State.pushedLong_top (h : s.sp.val < 13) (hk : k < s.sp.val) : (s.pushedLong long).top (k + 2) = s.top k := by
  rw [State.pushedLong, State.pushed_top_succ (by rw [State.pushed_sp_val]; omega) (by rw [State.pushed_sp_val]; omega),
    State.pushed_top_succ (by omega) hk]

end

/-! ### Every iteration counts down -/

/-- Whether the routine ends or is aborted, interrupts stay disabled or enabled as they were. -/
def KeepsWdc {α : Type} (m : M α) : Prop := ∀ wdc, Keeps (fun s => s.wdc = wdc) m

section

variable {α β : Type} {m : M α} {f : α → M β}

theorem keepsWdc_bind (hm : KeepsWdc m) (hf : ∀ a, KeepsWdc (f a)) : KeepsWdc (m >>= f) :=
  fun wdc => keeps_bind (hm wdc) fun a => hf a wdc

theorem keepsWdc_pure (a : α) : KeepsWdc (pure a) := fun _ => keeps_pure _ _

theorem wdc_of_keepsWdc (hm : KeepsWdc m) {s t : State} {a : α} (h : m s = .ok a t) : t.wdc = s.wdc := by
  have hkeep := hm s.wdc s rfl
  rwa [h] at hkeep

theorem keepsWdc_push (v : Word) : KeepsWdc (push v) := by
  intro wdc s h
  rcases push_cases v s with ⟨-, he⟩ | ⟨-, he⟩ <;> rw [he] <;> exact h

theorem keepsWdc_memRead (va : LongWord) : KeepsWdc (memRead va) := by
  intro wdc s h
  rcases memRead_cases va s with ⟨-, he⟩ | ⟨e, -, he⟩ <;> rw [he]
  · exact (State.loaded_wdc _ _).trans ((State.afterDevices_wdc s).trans h)
  · exact (State.afterDevices_wdc s).trans h

theorem keepsWdc_memWrite (va : LongWord) (v : Word) : KeepsWdc (memWrite va v) := by
  intro wdc s h
  rcases memWrite_cases va v s with ⟨-, he⟩ | ⟨e, -, he⟩ <;> rw [he]
  · exact (State.stored_wdc _ _ _).trans ((State.afterDevices_wdc s).trans h)
  · exact (State.afterDevices_wdc s).trans h

theorem keepsWdc_pushLong (v : LongWord) : KeepsWdc (pushLong v) :=
  keepsWdc_bind (keepsWdc_push _) fun _ => keepsWdc_push _

theorem keepsWdc_memReadMds (p : Word) : KeepsWdc (memReadMds p) :=
  keepsWdc_bind (fun _ => keeps_getState _) fun _ => keepsWdc_memRead _

theorem keepsWdc_readCode (offset : Word) : KeepsWdc (readCode offset) :=
  keepsWdc_bind (fun _ => keeps_getState _) fun _ => keepsWdc_memRead _

theorem keepsWdc_memWriteMds (p v : Word) : KeepsWdc (memWriteMds p v) :=
  keepsWdc_bind (fun _ => keeps_getState _) fun _ => keepsWdc_memWrite _ _

theorem keepsWdc_fetchByte (ptr offset : LongWord) : KeepsWdc (fetchByte ptr offset) :=
  keepsWdc_bind (keepsWdc_memRead _) fun _ => keepsWdc_pure _

theorem keepsWdc_storeByte (ptr offset : LongWord) (b : Byte) : KeepsWdc (storeByte ptr offset b) :=
  keepsWdc_bind (keepsWdc_memRead _) fun _ => keepsWdc_memWrite _ _

end

/-- The routine pushes `k` words and does nothing else, where it ends with a value. -/
def Buries {α : Type} (k : Nat) (m : M α) : Prop :=
  ∀ (s t : State) (a : α), m s = .ok a t → t.wdc = s.wdc ∧ ∀ j, j < s.sp.val → t.top (j + k) = s.top j

theorem buries_pure {α : Type} (a : α) : Buries 0 (pure a : M α) := by
  rintro s t b ⟨⟩
  exact ⟨rfl, fun _ _ => rfl⟩

theorem buries_push {α : Type} {k : Nat} {v : Word} {m : M α} (hm : Buries k m) : Buries (k + 1) (push v >>= fun _ => m) := by
  intro s t a h
  rcases push_cases v s with ⟨hsp, he⟩ | ⟨-, he⟩
  · rw [bind_ok he] at h
    obtain ⟨hwdc, htop⟩ := hm _ t a h
    refine ⟨hwdc, fun j hj => ?_⟩
    rw [← Nat.add_assoc, Nat.add_right_comm, htop (j + 1) (by rw [State.pushed_sp_val]; omega),
      State.pushed_top_succ hsp hj]
  · rw [bind_error he] at h
    cases h

theorem buries_pushLong {α : Type} {k : Nat} {v : LongWord} {m : M α} (hm : Buries k m) :
    Buries (k + 2) (pushLong v >>= fun _ => m) := by
  rw [pushLong, bind_assoc]
  exact buries_push (buries_push hm)

/-- Where the routine goes on, the count is `c` then, `k` below the top, and interrupts are as they were. -/
def GoesOnWith (k : Nat) (c : Word) (m : M Bool) : Prop :=
  ∀ s t : State, m s = .ok true t → t.top k = c ∧ t.wdc = s.wdc

section

variable {α : Type} {k : Nat} {c : Word}

theorem goesOnWith_bind {m : M α} {f : α → M Bool} (hm : KeepsWdc m) (hf : ∀ a, GoesOnWith k c (f a)) :
    GoesOnWith k c (m >>= f) := by
  intro s t h
  obtain ⟨a, r, hr, ht⟩ := bind_eq_ok.mp h
  obtain ⟨htop, hwdc⟩ := hf a r t ht
  exact ⟨htop, hwdc.trans (wdc_of_keepsWdc hm hr)⟩

theorem goesOnWith_push {m : M Bool} (hm : Buries k m) : GoesOnWith k c (push c >>= fun _ => m) := by
  intro s t h
  rcases push_cases c s with ⟨hsp, he⟩ | ⟨-, he⟩
  · rw [bind_ok he] at h
    obtain ⟨hwdc, htop⟩ := hm _ t _ h
    refine ⟨?_, hwdc⟩
    rw [← Nat.zero_add k, htop 0 (by rw [State.pushed_sp_val]; omega), State.pushed_top_zero hsp]
  · rw [bind_error he] at h
    cases h

theorem goesOnWith_ite {p : Prop} [Decidable p] {m n : M Bool} (hm : GoesOnWith k c m) (hn : GoesOnWith k c n) :
    GoesOnWith k c (if p then m else n) := by
  split
  · exact hm
  · exact hn

/-- The routine ends the loop. -/
def Finishes (m : M Bool) : Prop := ∀ s t : State, m s ≠ .ok true t

theorem finishes_pure : Finishes (pure false) := by
  rintro s t ⟨⟩

theorem finishes_push (v : Word) : Finishes (push v >>= fun _ => pure false) := by
  intro s t h
  obtain ⟨_, _, _, ⟨⟩⟩ := bind_eq_ok.mp h

theorem goesOnWith_of_finishes {m : M Bool} (hm : Finishes m) : GoesOnWith k c m := fun s t h => absurd h (hm s t)

/-- An iteration that pops its operands, ends the loop where the count among them is 0, and else pushes it back lower by 1. -/
theorem countsDown_of_popped {n : Nat} {body : M Bool} {finish work : State → M Bool} (hpops : PopsFirst n body)
    (hbody : ∀ s, n ≤ s.sp.val → body s = (if s.top k = 0 then finish s else work s) (s.dropped n))
    (hfinish : ∀ s, Finishes (finish s)) (hwork : ∀ s, GoesOnWith k (s.top k - 1) (work s)) : CountsDown k body := by
  intro s t h
  by_cases hsp : n ≤ s.sp.val
  · rw [hbody s hsp] at h
    by_cases hcount : s.top k = 0
    · rw [if_pos hcount] at h
      exact absurd h (hfinish s _ t)
    · rw [if_neg hcount] at h
      obtain ⟨htop, hwdc⟩ := hwork s _ t h
      exact ⟨hcount, htop, hwdc⟩
  · rw [hpops s (by omega)] at h
    cases h

end

/-! ### The operands popped -/

section

variable {s : State}

/-- A long popped, then a word, then a long. -/
theorem popLongThenPopThenLong_run {α : Type} {f : LongWord → Word → LongWord → M α} (h : 5 ≤ s.sp.val) :
    (popLong >>= fun v => pop >>= fun u => popLong >>= fun p => f v u p) s =
      f (s.topLong 0) (s.top 2) (s.topLong 3) (s.dropped 5) := by
  rw [popLongThenPop_run (by omega), bind_ok (popLong_topLong (by rw [State.dropped_sp_val]; omega)),
    State.dropped_dropped]
  simp only [State.topLong, State.dropped_top]

/-- A long popped, and then two words. -/
theorem popLongThenTwo_run {α : Type} {f : LongWord → Word → Word → M α} (h : 4 ≤ s.sp.val) :
    (popLong >>= fun v => pop >>= fun u => pop >>= fun w => f v u w) s =
      f (s.topLong 0) (s.top 2) (s.top 3) (s.dropped 4) := by
  rw [popLongThenPop_run (by omega), bind_ok (pop_run (by rw [State.dropped_sp_val]; omega)), State.dropped_top,
    State.dropped_dropped]

/-- The operands of a byte block transfer (45_block_transfers.md R533). -/
theorem popByteOperands_run {α : Type} {f : Word → LongWord → Word → Word → LongWord → M α} (h : 7 ≤ s.sp.val) :
    (pop >>= fun a => popLong >>= fun b => pop >>= fun c => pop >>= fun d => popLong >>= fun e => f a b c d e) s =
      f (s.top 0) (s.topLong 1) (s.top 3) (s.top 4) (s.topLong 5) (s.dropped 7) := by
  rw [popThenLongThenPop_run (by omega), bind_ok (pop_run (by rw [State.dropped_sp_val]; omega)),
    bind_ok (popLong_topLong (by rw [State.dropped_sp_val, State.dropped_sp_val]; omega))]
  simp only [State.topLong, State.dropped_top, State.dropped_dropped]

end

/-! ### The operands pushed back -/

section

variable {q : State} {u v w o : Word} {x y : LongWord}

theorem pushBackWords_run (h : q.sp.val + 3 ≤ 14) :
    (push u >>= fun _ => push v >>= fun _ => push w >>= fun _ => pure true : M Bool) q =
      .ok true (((q.pushed u).pushed v).pushed w) := by
  rw [bind_ok (push_run (by omega)), bind_ok (push_run (by rw [State.pushed_sp_val]; omega)),
    bind_ok (push_run (by rw [State.pushed_sp_val, State.pushed_sp_val]; omega)), pure_run]

theorem pushBackLong_run (h : q.sp.val + 3 ≤ 14) :
    (push v >>= fun _ => pushLong x >>= fun _ => pure true : M Bool) q = .ok true ((q.pushed v).pushedLong x) := by
  rw [bind_ok (push_run (by omega)), bind_ok (pushLong_pushedLong (by rw [State.pushed_sp_val]; omega)), pure_run]

theorem pushBackWordsLong_run (h : q.sp.val + 4 ≤ 14) :
    (push u >>= fun _ => push v >>= fun _ => pushLong x >>= fun _ => pure true : M Bool) q =
      .ok true (((q.pushed u).pushed v).pushedLong x) := by
  rw [bind_ok (push_run (by omega)), pushBackLong_run (by rw [State.pushed_sp_val]; omega)]

theorem pushBackLongs_run (h : q.sp.val + 5 ≤ 14) :
    (pushLong x >>= fun _ => push v >>= fun _ => pushLong y >>= fun _ => pure true : M Bool) q =
      .ok true (((q.pushedLong x).pushed v).pushedLong y) := by
  rw [bind_ok (pushLong_pushedLong (by omega)), pushBackLong_run (by rw [State.pushedLong_sp_val]; omega)]

theorem pushBackBytes_run (h : q.sp.val + 7 ≤ 14) :
    (pushLong x >>= fun _ => push u >>= fun _ => push v >>= fun _ => pushLong y >>= fun _ => push w >>= fun _ =>
      pure true : M Bool) q = .ok true (((((q.pushedLong x).pushed u).pushed v).pushedLong y).pushed w) := by
  rw [bind_ok (pushLong_pushedLong (by omega)), bind_ok (push_run (by rw [State.pushedLong_sp_val]; omega)),
    bind_ok (push_run (by rw [State.pushed_sp_val, State.pushedLong_sp_val]; omega)),
    bind_ok (pushLong_pushedLong (by simp only [State.pushed_sp_val, State.pushedLong_sp_val]; omega)),
    bind_ok (push_run (by simp only [State.pushed_sp_val, State.pushedLong_sp_val]; omega)), pure_run]

end

/-! ### A word moved -/

section

variable {s : State} {va : LongWord} (hd : s.devices = []) (hc : s.mapCanonical = true) (hr : s.canRead va = true)
include hd hc hr

/-- A word loaded, by a routine that is a load from `va`, and stored. -/
theorem move_run {α : Type} {read : M Word} {vb : LongWord} {f : Unit → M α} (hread : read s = memRead va s)
    (hw : s.canWrite vb = true) :
    (read >>= fun w => memWrite vb w >>= f) s = f () ((s.loaded va).stored vb (s.wordAt va)) := by
  rw [bind_ok (hread.trans (memRead_run hd hr)),
    bind_ok (memWrite_run _ (by rwa [State.loaded_devices]) (by rwa [canWrite_loaded hc hr]))]

/-- The same with a store in the current MDS. -/
theorem moveMds_run {α : Type} {read : M Word} {p : Word} {f : Unit → M α} (hread : read s = memRead va s)
    (hw : s.canWrite (s.lengthen p) = true) :
    (read >>= fun w => memWriteMds p w >>= f) s = f () ((s.loaded va).stored (s.lengthen p) (s.wordAt va)) := by
  rw [bind_ok (hread.trans (memRead_run hd hr)), ← State.loaded_lengthen s va,
    bind_ok (memWriteMds_run _ (by rwa [State.loaded_devices]) (by rwa [State.loaded_lengthen, canWrite_loaded hc hr]))]

/-- Two words loaded, the second by a routine that is a load from `vb`. -/
theorem loadTwo_run {α : Type} {vb : LongWord} {read : M Word} {f : Word → Word → M α}
    (hread : read (s.loaded va) = memRead vb (s.loaded va)) (hb : s.canRead vb = true) :
    (memRead va >>= fun u => read >>= fun v => f u v) s =
      f (s.wordAt va) (s.wordAt vb) ((s.loaded va).loaded vb) := by
  rw [bind_ok (memRead_run hd hr), bind_ok (hread.trans (memRead_loaded hd hc hr hb))]

end

/-- The stack after a word is moved. -/
theorem moved_sp (s : State) (n : Nat) (va vb : LongWord) (v : Word) :
    (((s.dropped n).loaded va).stored vb v).sp.val = s.sp.val - n := by
  rw [State.stored_sp, State.loaded_sp, State.dropped_sp_val]

theorem loadedTwo_sp (s : State) (n : Nat) (va vb : LongWord) :
    (((s.dropped n).loaded va).loaded vb).sp.val = s.sp.val - n := by
  rw [State.loaded_sp, State.loaded_sp, State.dropped_sp_val]

/-! ### Word block transfers (45_block_transfers.md R522 to R526) -/

/-- `BLT` and `BLTC`: an iteration that reads its word by `read`. -/
def stepWords (read : Word → M Word) : M Bool := do
  let dest ← pop
  let count ← pop
  let source ← pop
  if count = 0 then return false
  else do
    let w ← read source
    memWriteMds dest w
    push (source + 1)
    push (count - 1)
    push (dest + 1)
    return true

theorem exec_blt (s : State) : exec .blt s = run (blockLoop blockBound (stepWords memReadMds)) s := rfl

theorem exec_bltc (s : State) : exec .bltc s = run (blockLoop blockBound (stepWords readCode)) s := rfl

theorem countsDown_stepWords {read : Word → M Word} (hread : ∀ p, KeepsWdc (read p)) : CountsDown 1 (stepWords read) :=
  countsDown_of_popped (popsFirst_pop fun _ => popsFirst_pop fun _ => popsFirst_pop fun _ => popsFirst_zero _)
    (fun _ hsp => popTwoThenPop_run hsp) (fun _ => finishes_pure) fun _ =>
    goesOnWith_bind (hread _) fun _ => goesOnWith_bind (keepsWdc_memWriteMds _ _) fun _ =>
    goesOnWith_bind (keepsWdc_push _) fun _ => goesOnWith_push (buries_push (buries_pure _))

/-- `BLTL` and `BLTLR`: an iteration that, with `left` words to go after it, moves the word at `place p left` of each block
and goes on from `advance p`. -/
def stepLongs (place : LongWord → Word → LongWord) (advance : LongWord → LongWord) : M Bool := do
  let dest ← popLong
  let count ← pop
  let source ← popLong
  if count = 0 then return false
  else do
    let w ← memRead (place source (count - 1))
    memWrite (place dest (count - 1)) w
    pushLong (advance source)
    push (count - 1)
    pushLong (advance dest)
    return true

theorem exec_bltl (s : State) : exec .bltl s = run (blockLoop blockBound (stepLongs (fun p _ => p) (· + 1))) s := rfl

theorem exec_bltlr (s : State) :
    exec .bltlr s = run (blockLoop blockBound (stepLongs (fun p left => p + zextLong left) id)) s := rfl

theorem countsDown_stepLongs (place : LongWord → Word → LongWord) (advance : LongWord → LongWord) :
    CountsDown 2 (stepLongs place advance) :=
  countsDown_of_popped (popsFirst_popLong fun _ => popsFirst_pop fun _ => popsFirst_popLong fun _ => popsFirst_zero _)
    (fun _ hsp => popLongThenPopThenLong_run hsp) (fun _ => finishes_pure) fun _ =>
    goesOnWith_bind (keepsWdc_memRead _) fun _ => goesOnWith_bind (keepsWdc_memWrite _ _) fun _ =>
    goesOnWith_bind (keepsWdc_pushLong _) fun _ => goesOnWith_push (buries_pushLong (buries_pure _))

theorem countsDown_stepBltcl : CountsDown 2 stepBltcl :=
  countsDown_of_popped (popsFirst_popLong fun _ => popsFirst_pop fun _ => popsFirst_pop fun _ => popsFirst_zero _)
    (fun _ hsp => popLongThenTwo_run hsp) (fun _ => finishes_pure) fun _ =>
    goesOnWith_bind (keepsWdc_readCode _) fun _ => goesOnWith_bind (keepsWdc_memWrite _ _) fun _ =>
    goesOnWith_bind (keepsWdc_push _) fun _ => goesOnWith_push (buries_pushLong (buries_pure _))

section

variable {s : State}

/-- Everything popped, and the loop at its end. -/
theorem exec_words_end {i : Instr} {read : Word → M Word} (hi : exec i s = run (blockLoop blockBound (stepWords read)) s)
    (hsp : 3 ≤ s.sp.val) (hcount : s.top 1 = 0) : exec i s = .next (s.dropped 3) :=
  hi.trans (run_block_finishes ((popTwoThenPop_run hsp).trans (by rw [if_pos hcount, pure_run])))

theorem exec_longs_end {i : Instr} {place : LongWord → Word → LongWord} {advance : LongWord → LongWord}
    (hi : exec i s = run (blockLoop blockBound (stepLongs place advance)) s) (hsp : 5 ≤ s.sp.val) (hcount : s.top 2 = 0) :
    exec i s = .next (s.dropped 5) :=
  hi.trans (run_block_finishes ((popLongThenPopThenLong_run hsp).trans (by rw [if_pos hcount, pure_run])))

theorem exec_bltcl_end (hsp : 4 ≤ s.sp.val) (hcount : s.top 2 = 0) : exec .bltcl s = .next (s.dropped 4) :=
  run_block_finishes ((popLongThenTwo_run hsp).trans (by rw [if_pos hcount, pure_run]))

variable (hd : s.devices = []) (hwdc : s.wdc ≠ 0) (hc : s.mapCanonical = true) {va vb : LongWord}
include hd hwdc hc

theorem exec_words_next {i : Instr} {read : Word → M Word}
    (hi : ∀ t, exec i t = run (blockLoop blockBound (stepWords read)) t) (hread : ∀ p, KeepsWdc (read p))
    (hva : read (s.top 2) (s.dropped 3) = memRead va (s.dropped 3)) (hsp : 3 ≤ s.sp.val) (hcount : s.top 1 ≠ 0)
    (hw : s.canWrite (s.lengthen (s.top 0)) = true) (hr : s.canRead va = true) :
    exec i s = exec i ((((((s.dropped 3).loaded va).stored (s.lengthen (s.top 0)) (s.wordAt va)).pushed
      (s.top 2 + 1)).pushed (s.top 1 - 1)).pushed (s.top 0 + 1)) := by
  have hlt := s.sp.isLt
  rw [hi, hi]
  refine run_block_goesOn (countsDown_stepWords hread) hwdc ((popTwoThenPop_run hsp).trans ?_)
  rw [if_neg hcount]
  exact (moveMds_run (s := s.dropped 3) hd hc hr hva hw).trans (pushBackWords_run (by rw [moved_sp]; omega))

theorem exec_blt_next (hva : va = s.lengthen (s.top 2)) (hsp : 3 ≤ s.sp.val) (hcount : s.top 1 ≠ 0)
    (hw : s.canWrite (s.lengthen (s.top 0)) = true) (hr : s.canRead va = true) :
    exec .blt s = exec .blt ((((((s.dropped 3).loaded va).stored (s.lengthen (s.top 0)) (s.wordAt va)).pushed
      (s.top 2 + 1)).pushed (s.top 1 - 1)).pushed (s.top 0 + 1)) :=
  exec_words_next hd hwdc hc exec_blt keepsWdc_memReadMds (by rw [hva]; rfl) hsp hcount hw hr

theorem exec_bltc_next (hva : va = s.codeWord (s.top 2)) (hsp : 3 ≤ s.sp.val) (hcount : s.top 1 ≠ 0)
    (hw : s.canWrite (s.lengthen (s.top 0)) = true) (hr : s.canRead va = true) :
    exec .bltc s = exec .bltc ((((((s.dropped 3).loaded va).stored (s.lengthen (s.top 0)) (s.wordAt va)).pushed
      (s.top 2 + 1)).pushed (s.top 1 - 1)).pushed (s.top 0 + 1)) :=
  exec_words_next hd hwdc hc exec_bltc keepsWdc_readCode (by rw [hva]; rfl) hsp hcount hw hr

theorem exec_bltcl_next (hva : va = s.codeWord (s.top 3)) (hsp : 4 ≤ s.sp.val) (hcount : s.top 2 ≠ 0)
    (hw : s.canWrite (s.topLong 0) = true) (hr : s.canRead va = true) :
    exec .bltcl s = exec .bltcl ((((((s.dropped 4).loaded va).stored (s.topLong 0) (s.wordAt va)).pushed
      (s.top 3 + 1)).pushed (s.top 2 - 1)).pushedLong (s.topLong 0 + 1)) := by
  subst hva
  have hlt := s.sp.isLt
  refine run_block_goesOn countsDown_stepBltcl hwdc ((popLongThenTwo_run hsp).trans ?_)
  rw [if_neg hcount]
  exact (move_run (s := s.dropped 4) hd hc hr rfl hw).trans (pushBackWordsLong_run (by rw [moved_sp]; omega))

theorem exec_longs_next {i : Instr} {place : LongWord → Word → LongWord} {advance : LongWord → LongWord}
    (hi : ∀ t, exec i t = run (blockLoop blockBound (stepLongs place advance)) t)
    (hva : va = place (s.topLong 3) (s.top 2 - 1)) (hvb : vb = place (s.topLong 0) (s.top 2 - 1)) (hsp : 5 ≤ s.sp.val)
    (hcount : s.top 2 ≠ 0) (hr : s.canRead va = true) (hw : s.canWrite vb = true) :
    exec i s = exec i ((((((s.dropped 5).loaded va).stored vb (s.wordAt va)).pushedLong (advance (s.topLong 3))).pushed
      (s.top 2 - 1)).pushedLong (advance (s.topLong 0))) := by
  subst hva hvb
  have hlt := s.sp.isLt
  rw [hi, hi]
  refine run_block_goesOn (countsDown_stepLongs place advance) hwdc ((popLongThenPopThenLong_run hsp).trans ?_)
  rw [if_neg hcount]
  exact (move_run (s := s.dropped 5) hd hc hr rfl hw).trans (pushBackLongs_run (by rw [moved_sp]; omega))

end

/-- Settles O36. Each iteration pops its operands, moves one word and pushes the operands of the rest; the bound on the
rounds does not show. -/
theorem wordBlockTransfers : Obligations.WordBlockTransfers := by
  intro s hd hwdc hc
  refine ⟨fun hsp => ⟨fun hcount => ⟨exec_words_end (exec_blt s) hsp hcount, exec_words_end (exec_bltc s) hsp hcount⟩,
      fun hcount hw => ⟨fun va hva => exec_blt_next hd hwdc hc hva hsp hcount hw,
        fun va hva => exec_bltc_next hd hwdc hc hva hsp hcount hw⟩⟩,
    fun hsp => ⟨exec_bltcl_end hsp, fun va hva => exec_bltcl_next hd hwdc hc hva hsp⟩,
    fun hsp => ⟨fun hcount => ⟨exec_longs_end (exec_bltl s) hsp hcount, exec_longs_end (exec_bltlr s) hsp hcount⟩,
      exec_longs_next (place := fun p _ => p) (advance := (· + 1)) hd hwdc hc exec_bltl rfl rfl hsp,
      fun va vb hva hvb => exec_longs_next (advance := id) hd hwdc hc exec_bltlr hva hvb hsp⟩⟩

/-! ### Checksum and comparisons (45_block_transfers.md R528, R530, R531) -/

theorem countsDown_stepCksum : CountsDown 2 stepCksum :=
  countsDown_of_popped (popsFirst_popLong fun _ => popsFirst_pop fun _ => popsFirst_pop fun _ => popsFirst_zero _)
    (fun _ hsp => popLongThenTwo_run hsp) (fun _ => finishes_push _) fun _ =>
    goesOnWith_bind (keepsWdc_memRead _) fun _ =>
    goesOnWith_bind (keepsWdc_push _) fun _ => goesOnWith_push (buries_pushLong (buries_pure _))

theorem countsDown_stepBlel : CountsDown 2 stepBlel :=
  countsDown_of_popped (popsFirst_popLong fun _ => popsFirst_pop fun _ => popsFirst_popLong fun _ => popsFirst_zero _)
    (fun _ hsp => popLongThenPopThenLong_run hsp) (fun _ => finishes_push _) fun _ =>
    goesOnWith_bind (keepsWdc_memRead _) fun _ => goesOnWith_bind (keepsWdc_memRead _) fun _ =>
    goesOnWith_ite (goesOnWith_of_finishes (finishes_push _)) <|
    goesOnWith_bind (keepsWdc_pushLong _) fun _ => goesOnWith_push (buries_pushLong (buries_pure _))

theorem countsDown_stepBlecl : CountsDown 2 stepBlecl :=
  countsDown_of_popped (popsFirst_popLong fun _ => popsFirst_pop fun _ => popsFirst_pop fun _ => popsFirst_zero _)
    (fun _ hsp => popLongThenTwo_run hsp) (fun _ => finishes_push _) fun _ =>
    goesOnWith_bind (keepsWdc_memRead _) fun _ => goesOnWith_bind (keepsWdc_readCode _) fun _ =>
    goesOnWith_ite (goesOnWith_of_finishes (finishes_push _)) <|
    goesOnWith_bind (keepsWdc_push _) fun _ => goesOnWith_push (buries_pushLong (buries_pure _))

/-- The result of a block transfer pushed at its end. -/
theorem pushResult_run {q : State} {v : Word} (h : q.sp.val < 14) :
    (push v >>= fun _ => pure false : M Bool) q = .ok false (q.pushed v) := by
  rw [bind_ok (push_run h), pure_run]

/-- A comparison: the iteration ends the loop with the result 0 where the two words differ, and goes on where they agree. -/
theorem run_compare {k : Nat} {body : M Bool} {p : Prop} [Decidable p] {s r t : State} {goOn : M Bool}
    (hbody : CountsDown k body) (hwdc : s.wdc ≠ 0)
    (hsp : r.sp.val < 14) (h : body s = (if p then push (booleanWord false) >>= fun _ => pure false else goOn) r)
    (hgo : goOn r = .ok true t) :
    run (blockLoop blockBound body) s = if p then .next (r.pushed 0) else run (blockLoop blockBound body) t := by
  split <;> rename_i hp
  · rw [if_pos hp, pushResult_run hsp] at h
    exact run_block_finishes h
  · rw [if_neg hp, hgo] at h
    exact run_block_goesOn hbody hwdc h

section

variable {s : State}

theorem exec_cksum_end (hsp : 4 ≤ s.sp.val) (hcount : s.top 2 = 0) :
    exec .cksum s = .next ((s.dropped 4).pushed (if s.top 3 = 0xFFFF then 0 else s.top 3)) := by
  have hlt := s.sp.isLt
  refine run_block_finishes ((popLongThenTwo_run hsp).trans ?_)
  rw [if_pos hcount, pushResult_run (by rw [State.dropped_sp_val]; omega)]

theorem exec_blecl_end (hsp : 4 ≤ s.sp.val) (hcount : s.top 2 = 0) : exec .blecl s = .next ((s.dropped 4).pushed 1) := by
  have hlt := s.sp.isLt
  refine run_block_finishes ((popLongThenTwo_run hsp).trans ?_)
  rw [if_pos hcount, pushResult_run (by rw [State.dropped_sp_val]; omega)]
  rfl

theorem exec_blel_end (hsp : 5 ≤ s.sp.val) (hcount : s.top 2 = 0) : exec .blel s = .next ((s.dropped 5).pushed 1) := by
  have hlt := s.sp.isLt
  refine run_block_finishes ((popLongThenPopThenLong_run hsp).trans ?_)
  rw [if_pos hcount, pushResult_run (by rw [State.dropped_sp_val]; omega)]
  rfl

variable (hd : s.devices = []) (hwdc : s.wdc ≠ 0)
include hd hwdc

theorem exec_cksum_next (hsp : 4 ≤ s.sp.val) (hcount : s.top 2 ≠ 0) (hr : s.canRead (s.topLong 0) = true) :
    exec .cksum s = exec .cksum (((((s.dropped 4).loaded (s.topLong 0)).pushed
      (checksumStep (s.top 3) (s.wordAt (s.topLong 0)))).pushed (s.top 2 - 1)).pushedLong (s.topLong 0 + 1)) := by
  have hlt := s.sp.isLt
  refine run_block_goesOn countsDown_stepCksum hwdc ((popLongThenTwo_run hsp).trans ?_)
  rw [if_neg hcount]
  exact (bind_ok (memRead_run (s := s.dropped 4) hd hr)).trans
    (pushBackWordsLong_run (by rw [State.loaded_sp, State.dropped_sp_val]; omega))

variable (hc : s.mapCanonical = true)
include hc

theorem exec_blecl_next {va : LongWord} (hva : va = s.codeWord (s.top 3)) (hsp : 4 ≤ s.sp.val) (hcount : s.top 2 ≠ 0)
    (hu : s.canRead (s.topLong 0) = true) (hv : s.canRead va = true) :
    exec .blecl s =
      if s.wordAt (s.topLong 0) ≠ s.wordAt va then
        .next ((((s.dropped 4).loaded (s.topLong 0)).loaded va).pushed 0)
      else exec .blecl ((((((s.dropped 4).loaded (s.topLong 0)).loaded va).pushed (s.top 3 + 1)).pushed
        (s.top 2 - 1)).pushedLong (s.topLong 0 + 1)) := by
  subst hva
  have hlt := s.sp.isLt
  have hcode : ∀ t : State, t.cb = s.cb → readCode (s.top 3) t = memRead (s.codeWord (s.top 3)) t := fun t ht => by
    rw [readCode, getState_bind, ht, State.codeWord]
  refine run_compare countsDown_stepBlecl hwdc (by rw [loadedTwo_sp]; omega) ((popLongThenTwo_run hsp).trans ?_)
    (pushBackWordsLong_run (by rw [loadedTwo_sp]; omega))
  rw [if_neg hcount]
  exact loadTwo_run (s := s.dropped 4) hd hc hu (hcode _ (State.loaded_cb _ _)) hv

theorem exec_blel_next (hsp : 5 ≤ s.sp.val) (hcount : s.top 2 ≠ 0) (hu : s.canRead (s.topLong 0) = true)
    (hv : s.canRead (s.topLong 3) = true) :
    exec .blel s =
      if s.wordAt (s.topLong 0) ≠ s.wordAt (s.topLong 3) then
        .next ((((s.dropped 5).loaded (s.topLong 0)).loaded (s.topLong 3)).pushed 0)
      else exec .blel ((((((s.dropped 5).loaded (s.topLong 0)).loaded (s.topLong 3)).pushedLong
        (s.topLong 3 + 1)).pushed (s.top 2 - 1)).pushedLong (s.topLong 0 + 1)) := by
  have hlt := s.sp.isLt
  refine run_compare countsDown_stepBlel hwdc (by rw [loadedTwo_sp]; omega) ((popLongThenPopThenLong_run hsp).trans ?_)
    (pushBackLongs_run (by rw [loadedTwo_sp]; omega))
  rw [if_neg hcount]
  exact loadTwo_run (s := s.dropped 5) hd hc hu rfl hv

end

/-- Settles O37. -/
theorem checksumAndComparisons : Obligations.ChecksumAndComparisons := by
  intro s hd hwdc hc
  refine ⟨fun hsp => ⟨fun hcount => ⟨exec_cksum_end hsp hcount, exec_blecl_end hsp hcount⟩, fun hcount hu =>
      ⟨exec_cksum_next hd hwdc hsp hcount hu, fun va hva => exec_blecl_next hd hwdc hc hva hsp hcount hu⟩⟩,
    fun hsp => ⟨exec_blel_end hsp, fun hcount hr => ?_⟩⟩
  obtain ⟨hu, hr⟩ := canReadAll_cons_iff.mp hr
  obtain ⟨hv, -⟩ := canReadAll_cons_iff.mp hr
  exact exec_blel_next hd hwdc hc hsp hcount hu hv

/-! ### Byte block transfers (45_block_transfers.md R534, R535) -/

/-- The last bit of an offset, as a long, is within the word the offset's other bits select. -/
theorem zextLong_and_one_shift (o : Word) : zextLong (o &&& 1) >>> 1 = 0 := by
  refine BitVec.eq_of_toNat_eq ?_
  rw [BitVec.toNat_ushiftRight, zextLong_toNat, BitVec.toNat_and, show (1 : Word).toNat = 1 from rfl, Nat.and_one_is_mod,
    Nat.shiftRight_eq_div_pow]
  show o.toNat % 2 / 2 ^ 1 = 0
  omega

theorem zextLong_and_one_getLsbD (o : Word) : (zextLong (o &&& 1)).getLsbD 0 = o.getLsbD 0 := by
  simp [zextLong]

theorem and_one_eq (o : Word) : o &&& 1 = if o.getLsbD 0 then 1 else 0 := by
  refine BitVec.eq_of_toNat_eq ?_
  rw [BitVec.toNat_and, show (1 : Word).toNat = 1 from rfl, Nat.and_one_is_mod, BitVec.getLsbD, Nat.testBit_zero]
  rcases Nat.mod_two_eq_zero_or_one o.toNat with h | h <;> simp [h]

theorem nextByte_and_one (base : LongWord) (o : Word) :
    nextByte base (o &&& 1) = (if o.getLsbD 0 then base + 1 else base, if o.getLsbD 0 then 0 else 1) := by
  rw [nextByte, and_one_eq]
  cases o.getLsbD 0 <;> rfl

theorem previousByte_and_one (base : LongWord) (o : Word) :
    previousByte base (o &&& 1) = (if o.getLsbD 0 then base else base - 1, if o.getLsbD 0 then 0 else 1) := by
  rw [previousByte, and_one_eq]
  cases o.getLsbD 0 <;> rfl

theorem countsDown_stepBytes (move : LongWord → Word → LongWord × Word) : CountsDown 3 (stepBytes move) :=
  countsDown_of_popped (popsFirst_pop fun _ => popsFirst_popLong fun _ => popsFirst_pop fun _ => popsFirst_pop fun _ =>
      popsFirst_popLong fun _ => popsFirst_zero _)
    (fun _ hsp => popByteOperands_run hsp) (fun _ => finishes_pure) fun _ =>
    goesOnWith_bind (keepsWdc_fetchByte _ _) fun _ => goesOnWith_bind (keepsWdc_storeByte _ _ _) fun _ =>
    goesOnWith_bind (keepsWdc_pushLong _) fun _ => goesOnWith_bind (keepsWdc_push _) fun _ =>
    goesOnWith_push (buries_pushLong (buries_push (buries_pure _)))

section

variable {s : State}

theorem run_bytes_end (move : LongWord → Word → LongWord × Word) (hsp : 7 ≤ s.sp.val) (hcount : s.top 3 = 0) :
    run (blockLoop blockBound (stepBytes move)) s = .next (s.dropped 7) :=
  run_block_finishes ((popByteOperands_run hsp).trans (by rw [if_pos hcount, pure_run]))

variable (hd : s.devices = []) (hc : s.mapCanonical = true)
include hd hc

/-- A byte of one word put in the place of a byte of another (44_assign_string_field.md R471, R476). -/
theorem moveByte_run {α : Type} {va vb : LongWord} {o p : Word} {f : Unit → M α} (hr : s.canRead va = true)
    (hw : s.canWrite vb = true) :
    (fetchByte va (zextLong (o &&& 1)) >>= fun b => storeByte vb (zextLong (p &&& 1)) b >>= f) s =
      f () (((s.loaded va).loaded vb).stored vb
        (replaceByte (s.wordAt vb) (p.getLsbD 0) (selectByte (s.wordAt va) (o.getLsbD 0)))) := by
  have hfetch := fetchByte_run hd (ptr := va) (offset := zextLong (o &&& 1)) (by rwa [zextLong_and_one_shift, add_zero])
  rw [zextLong_and_one_shift, add_zero, zextLong_and_one_getLsbD] at hfetch
  have hstore := memRead_memWrite_run (s := s.loaded va) (va := vb) (by rwa [State.loaded_devices])
    (fun w => replaceByte w (p.getLsbD 0) (selectByte (s.wordAt va) (o.getLsbD 0))) (loaded_canonical hc)
    (by rwa [canWrite_loaded hc hr])
  rw [wordAt_loaded hc hr] at hstore
  rw [bind_ok hfetch, storeByte, zextLong_and_one_shift, add_zero, zextLong_and_one_getLsbD, bind_ok hstore]

theorem run_bytes_next (move : LongWord → Word → LongWord × Word) {va vb : LongWord} {w : Word} {t : State}
    (hwdc : s.wdc ≠ 0) (hsp : 7 ≤ s.sp.val) (hcount : s.top 3 ≠ 0) (hva : va = s.topLong 1 + zextLong (s.top 0 >>> 1))
    (hvb : vb = s.topLong 5 + zextLong (s.top 4 >>> 1)) (hr : s.canRead va = true) (hw : s.canWrite vb = true)
    (hword : w = replaceByte (s.wordAt vb) ((s.top 4).getLsbD 0) (selectByte (s.wordAt va) ((s.top 0).getLsbD 0)))
    (ht : t = (((s.dropped 7).loaded va).loaded vb).stored vb w) :
    run (blockLoop blockBound (stepBytes move)) s = run (blockLoop blockBound (stepBytes move))
      (((((t.pushedLong (move vb (s.top 4 &&& 1)).1).pushed (move vb (s.top 4 &&& 1)).2).pushed (s.top 3 - 1)).pushedLong
        (move va (s.top 0 &&& 1)).1).pushed (move va (s.top 0 &&& 1)).2) := by
  have hlt := s.sp.isLt
  have htsp : t.sp.val = s.sp.val - 7 := by
    rw [ht, State.stored_sp, State.loaded_sp, State.loaded_sp, State.dropped_sp_val]
  refine run_block_goesOn (countsDown_stepBytes move) hwdc ((popByteOperands_run hsp).trans ?_)
  rw [if_neg hcount, ← hva, ← hvb]
  refine (moveByte_run (s := s.dropped 7) hd hc hr hw).trans ?_
  subst hword
  rw [show (s.dropped 7).wordAt vb = s.wordAt vb from rfl, show (s.dropped 7).wordAt va = s.wordAt va from rfl, ← ht]
  exact pushBackBytes_run (by omega)

end

/-- Settles O38. -/
theorem byteBlockTransfers : Obligations.ByteBlockTransfers := by
  intro s hd hwdc hc hsp
  refine ⟨fun hcount => ⟨run_bytes_end nextByte hsp hcount, run_bytes_end previousByte hsp hcount⟩,
    fun va vb w t hcount hva hvb hr hw hword ht => ?_⟩
  have hnext := run_bytes_next hd hc nextByte hwdc hsp hcount hva hvb hr hw hword ht
  have hprevious := run_bytes_next hd hc previousByte hwdc hsp hcount hva hvb hr hw hword ht
  rw [nextByte_and_one, nextByte_and_one] at hnext
  rw [previousByte_and_one, previousByte_and_one] at hprevious
  exact ⟨hnext, hprevious⟩

/-! ### What a whole block transfer changes -/

/-- Only the stack, flags of the map and words at the given virtual addresses have changed. -/
def State.changesOnly (s t : State) (addresses : Set LongWord) : Prop :=
  s.sameContext t ∧ s.sameProcess t ∧ t.mapCanonical = true
    ∧ ∃ stores, (∀ p ∈ stores, p.1 ∈ addresses) ∧ s.memoryAfter t stores

section

variable {s t u : State} {A B : Set LongWord}

theorem State.changesOnly.translate_eq (h : s.changesOnly t A) : s.sameTranslation t := by
  obtain ⟨-, -, -, stores, -, htrans, -⟩ := h
  exact htrans

theorem State.changesOnly.realAddress_eq (h : s.changesOnly t A) (va : LongWord) : t.realAddress va = s.realAddress va := by
  rw [State.realAddress, ← h.translate_eq va .read, State.realAddress]

theorem State.changesOnly.canRead_eq (h : s.changesOnly t A) (va : LongWord) : t.canRead va = s.canRead va := by
  rw [State.canRead, ← h.translate_eq va .read, State.canRead]

theorem State.changesOnly.canWrite_eq (h : s.changesOnly t A) (va : LongWord) : t.canWrite va = s.canWrite va := by
  rw [State.canWrite, ← h.translate_eq va .write, State.canWrite]

theorem State.changesOnly.devices_eq (h : s.changesOnly t A) : t.devices = s.devices := by
  obtain ⟨-, hprocess, -⟩ := h
  simp only [State.sameProcess] at hprocess
  tauto

theorem State.changesOnly.mds_eq (h : s.changesOnly t A) : t.mds = s.mds := by
  obtain ⟨-, ⟨-, hmds, -⟩, -⟩ := h
  exact hmds

theorem State.changesOnly.cb_eq (h : s.changesOnly t A) : t.cb = s.cb := by
  obtain ⟨⟨-, -, hcb, -⟩, -⟩ := h
  exact hcb

theorem State.changesOnly.wdc_eq (h : s.changesOnly t A) : t.wdc = s.wdc := by
  obtain ⟨⟨-, -, -, -, -, hwdc⟩, -⟩ := h
  exact hwdc

theorem State.changesOnly.lengthen_eq (h : s.changesOnly t A) (p : Word) : t.lengthen p = s.lengthen p := by
  rw [State.lengthen, h.mds_eq, State.lengthen]

theorem State.changesOnly.codeWord_eq (h : s.changesOnly t A) (p : Word) : t.codeWord p = s.codeWord p := by
  rw [State.codeWord, h.cb_eq, State.codeWord]

theorem State.changesOnly.canonical (h : s.changesOnly t A) : t.mapCanonical = true := by
  obtain ⟨-, -, hc, -⟩ := h
  exact hc

theorem State.changesOnly.mono (h : s.changesOnly t A) (hAB : A ⊆ B) : s.changesOnly t B := by
  obtain ⟨hcontext, hprocess, hc, stores, hA, hmem⟩ := h
  exact ⟨hcontext, hprocess, hc, stores, fun p hp => hAB (hA p hp), hmem⟩

theorem State.changesOnly.trans (h : s.changesOnly t A) (h' : t.changesOnly u A) : s.changesOnly u A := by
  have haddress := h.realAddress_eq
  obtain ⟨hcontext, hprocess, -, stores, hA, htrans, hmem⟩ := h
  obtain ⟨hcontext', hprocess', hc, stores', hA', htrans', hmem'⟩ := h'
  refine ⟨?_, ?_, hc, stores ++ stores', ?_, fun va op => (htrans va op).trans (htrans' va op), ?_⟩
  · simp only [State.sameContext] at hcontext hcontext' ⊢
    simp [hcontext, hcontext']
  · simp only [State.sameProcess] at hprocess hprocess' ⊢
    simp [hprocess, hprocess']
  · exact List.forall_mem_append.mpr ⟨hA, hA'⟩
  · rw [hmem', hmem, List.map_append, storesAt, storesAt, storesAt, List.foldl_append]
    simp only [haddress]

theorem changesOnly_dropped (n : Nat) (hc : s.mapCanonical = true) : s.changesOnly (s.dropped n) A :=
  ⟨⟨rfl, rfl, rfl, rfl, rfl, rfl⟩, ⟨rfl, rfl, rfl, rfl, rfl, rfl, rfl, rfl, rfl, rfl, rfl, rfl, rfl, rfl, rfl, rfl⟩, hc, [],
    fun _ hp => absurd hp List.not_mem_nil, fun _ _ => rfl, rfl⟩

theorem changesOnly_loaded {va : LongWord} (hc : s.mapCanonical = true) (h : s.canRead va = true) :
    s.changesOnly (s.loaded va) A :=
  ⟨by simp [State.sameContext], by simp [State.sameProcess], loaded_canonical hc, [],
    fun _ hp => absurd hp List.not_mem_nil, fun va' op => (translate_loaded hc h va' op).symm, State.loaded_mem _ _⟩

theorem changesOnly_stored {va : LongWord} (v : Word) (hc : s.mapCanonical = true) (h : s.canWrite va = true) (hA : va ∈ A) :
    s.changesOnly (s.stored va v) A :=
  ⟨by simp [State.sameContext], by simp [State.sameProcess], stored_canonical hc, [(va, v)],
    List.forall_mem_singleton.mpr hA, memoryAfter_stored hc h⟩

theorem State.changesOnly.pushed {v : Word} (h : s.changesOnly t A) : s.changesOnly (t.pushed v) A := h

theorem State.changesOnly.pushedLong {v : LongWord} (h : s.changesOnly t A) : s.changesOnly (t.pushedLong v) A :=
  h.pushed.pushed

/-- Operands popped and a word loaded. -/
theorem changesOnly_dropped_loaded {va : LongWord} (n : Nat) (hc : s.mapCanonical = true) (hr : s.canRead va = true) :
    s.changesOnly ((s.dropped n).loaded va) A :=
  (changesOnly_dropped n hc).trans (changesOnly_loaded (s := s.dropped n) hc hr)

/-- Operands popped and a word moved. -/
theorem changesOnly_moved {va vb : LongWord} (n : Nat) (v : Word) (hc : s.mapCanonical = true) (hr : s.canRead va = true)
    (hw : s.canWrite vb = true) (hA : vb ∈ A) : s.changesOnly (((s.dropped n).loaded va).stored vb v) A := by
  have hload := changesOnly_dropped_loaded (A := A) n hc hr
  exact hload.trans (changesOnly_stored v hload.canonical ((hload.canWrite_eq vb).trans hw) hA)

/-- Stores change no byte but those of their own words. -/
theorem byte_storesAt_other {stores : List (Nat × Word)} {m : List Host.Cell} {key : Nat} (h : ∀ p ∈ stores, key / 2 ≠ p.1) :
    tableGet unlistedByte (storesAt m stores) key = tableGet unlistedByte m key := by
  induction stores generalizing m with
  | nil => rfl
  | cons p rest ih =>
    obtain ⟨hp, hrest⟩ := List.forall_mem_cons.mp h
    rw [storesAt, List.foldl_cons, ← storesAt, ih hrest, byte_writeReal_other m p.2 (by omega) (by omega)]

theorem State.changesOnly.byteAt_eq (h : s.changesOnly t A) {key : Nat} (hkey : ∀ va ∈ A, key / 2 ≠ s.realAddress va) :
    t.byteAt key = s.byteAt key := by
  obtain ⟨-, -, -, stores, hA, -, hmem⟩ := h
  rw [State.byteAt, hmem]
  exact byte_storesAt_other (List.forall_mem_map.mpr fun p hp => hkey p.1 (hA p hp))

theorem State.changesOnly.mem_eq (h : s.changesOnly t ∅) : t.mem = s.mem := by
  obtain ⟨-, -, -, stores, hempty, -, hmem⟩ := h
  rw [hmem, List.eq_nil_iff_forall_not_mem.mpr hempty]
  rfl

end

/-! ### The addresses of a block -/

/-- The addresses that a block of `count` words takes, word `k` at `address k`. -/
def block (count : Word) (address : Nat → LongWord) : Set LongWord := { va | ∃ k, k < count.toNat ∧ va = address k }

section

variable {count : Word} {address : Nat → LongWord}

theorem forall_mem_block {P : LongWord → Prop} : (∀ va ∈ block count address, P va) ↔ ∀ k, k < count.toNat → P (address k) :=
  ⟨fun h k hk => h _ ⟨k, hk, rfl⟩, fun h _ ⟨k, hk, hva⟩ => hva ▸ h k hk⟩

variable (h : count ≠ 0)
include h

theorem first_mem_block : address 0 ∈ block count address := ⟨0, by have := toNat_sub_one_add_one h; omega, rfl⟩

theorem last_mem_block : address (count - 1).toNat ∈ block count address := ⟨_, by have := toNat_sub_one_add_one h; omega, rfl⟩

/-- The block without its first word. -/
theorem block_tail_subset {left : Word} {tail : Nat → LongWord} (hleft : left = count - 1)
    (htail : ∀ k, tail k = address (k + 1)) : block left tail ⊆ block count address := by
  subst hleft
  rintro va ⟨k, hk, rfl⟩
  exact ⟨k + 1, by have := toNat_sub_one_add_one h; omega, htail k⟩

/-- The block without its last word. -/
theorem block_init_subset {left : Word} {init : Nat → LongWord} (hleft : left = count - 1)
    (hinit : ∀ k, init k = address k) : block left init ⊆ block count address := by
  subst hleft
  rintro va ⟨k, hk, rfl⟩
  exact ⟨k, by have := toNat_sub_one_add_one h; omega, hinit k⟩

end

theorem add_one_add_ofNat {w : Nat} (x : BitVec w) (k : Nat) : x + 1 + BitVec.ofNat w k = x + BitVec.ofNat w (k + 1) := by
  rw [BitVec.add_assoc, BitVec.ofNat_add, BitVec.add_comm 1]
  rfl

/-! ### A block transfer runs to its end -/

/-- The instruction, its count `k` below the top of `n` operands, reads the words at `reads s` and stores to those at
`writes s`: where they are accessible and the count is not 0, it goes on from a state of one word less, in which it reads and
stores to no other words. -/
def Iterates (i : Instr) (n k : Nat) (reads writes : State → Set LongWord) : Prop :=
  ∀ s : State, s.devices = [] → s.wdc ≠ 0 → s.mapCanonical = true → n ≤ s.sp.val → s.top k ≠ 0 →
    (∀ va ∈ reads s, s.canRead va = true) → (∀ va ∈ writes s, s.canWrite va = true) →
    ∃ t, exec i s = exec i t ∧ t.sp.val = s.sp.val ∧ t.top k = s.top k - 1 ∧ reads t ⊆ reads s ∧ writes t ⊆ writes s
      ∧ s.changesOnly t (writes s)

/-- By induction on the count: an instruction that iterates ends with every count as it does with a count of 0, with `m` words
less on the stack, and stores to no words but those of the whole transfer. -/
theorem exec_completes {i : Instr} {n k m : Nat} {reads writes : State → Set LongWord} (hiter : Iterates i n k reads writes)
    (hend : ∀ s : State, s.mapCanonical = true → n ≤ s.sp.val → s.top k = 0 →
      ∃ t, exec i s = .next t ∧ t.sp.val = s.sp.val - m ∧ s.changesOnly t (writes s))
    {s : State} (hd : s.devices = []) (hwdc : s.wdc ≠ 0) (hc : s.mapCanonical = true) (hsp : n ≤ s.sp.val)
    (hr : ∀ va ∈ reads s, s.canRead va = true) (hw : ∀ va ∈ writes s, s.canWrite va = true) :
    ∃ t, exec i s = .next t ∧ t.sp.val = s.sp.val - m ∧ s.changesOnly t (writes s) := by
  induction hcount : (s.top k).toNat generalizing s with
  | zero => exact hend s hc hsp (BitVec.eq_of_toNat_eq hcount)
  | succ c ih =>
    have hne : s.top k ≠ 0 := fun h0 => by rw [h0] at hcount; cases hcount
    obtain ⟨t, hexec, htsp, htop, hreads, hwrites, hts⟩ := hiter s hd hwdc hc hsp hne hr hw
    have hlower := toNat_sub_one_add_one hne
    obtain ⟨u, hnext, husp, htu⟩ := ih (s := t) (hts.devices_eq.trans hd) (fun h0 => hwdc (hts.wdc_eq.symm.trans h0))
      hts.canonical (htsp ▸ hsp) (fun va hva => (hts.canRead_eq va).trans (hr va (hreads hva)))
      (fun va hva => (hts.canWrite_eq va).trans (hw va (hwrites hva))) (by rw [htop]; omega)
    exact ⟨u, hexec.trans hnext, by rw [husp, htsp], hts.trans (htu.mono hwrites)⟩

/-! ### The operands after an iteration -/

section

variable {i : Instr} {s q : State} {A : Set LongWord} {u v w : Word} {x y : LongWord} (h : s.changesOnly q A)
include h

theorem goesOn_pushedWords (hnext : exec i s = exec i (((q.pushed u).pushed v).pushed w)) (hq : q.sp.val + 3 = s.sp.val) :
    ∃ t, exec i s = exec i t ∧ t.sp.val = s.sp.val ∧ t.top 0 = w ∧ t.top 1 = v ∧ t.top 2 = u ∧ s.changesOnly t A := by
  have hlt := s.sp.isLt
  have hu := State.pushed_sp_val q u
  have hv := State.pushed_sp_val (q.pushed u) v
  refine ⟨_, hnext, by rw [State.pushed_sp_val]; omega, State.pushed_top_zero (by omega), ?_, ?_, h.pushed.pushed.pushed⟩
  · rw [State.pushed_top_succ (by omega) (by omega), State.pushed_top_zero (by omega)]
  · rw [State.pushed_top_succ (by omega) (by omega), State.pushed_top_succ (by omega) (by omega),
      State.pushed_top_zero (by omega)]

theorem goesOn_pushedWordsLong (hnext : exec i s = exec i (((q.pushed u).pushed v).pushedLong x))
    (hq : q.sp.val + 4 = s.sp.val) :
    ∃ t, exec i s = exec i t ∧ t.sp.val = s.sp.val ∧ t.topLong 0 = x ∧ t.top 2 = v ∧ t.top 3 = u ∧ s.changesOnly t A := by
  have hlt := s.sp.isLt
  have hu := State.pushed_sp_val q u
  have hv := State.pushed_sp_val (q.pushed u) v
  refine ⟨_, hnext, by rw [State.pushedLong_sp_val]; omega, State.pushedLong_topLong_zero (by omega), ?_, ?_, h.pushed.pushed.pushedLong⟩
  · rw [State.pushedLong_top (by omega) (by omega), State.pushed_top_zero (by omega)]
  · rw [State.pushedLong_top (by omega) (by omega), State.pushed_top_succ (by omega) (by omega),
      State.pushed_top_zero (by omega)]

theorem goesOn_pushedLongs (hnext : exec i s = exec i (((q.pushedLong x).pushed v).pushedLong y))
    (hq : q.sp.val + 5 = s.sp.val) :
    ∃ t, exec i s = exec i t ∧ t.sp.val = s.sp.val ∧ t.topLong 0 = y ∧ t.top 2 = v ∧ t.topLong 3 = x
      ∧ s.changesOnly t A := by
  have hlt := s.sp.isLt
  have hx := State.pushedLong_sp_val q x
  have hv := State.pushed_sp_val (q.pushedLong x) v
  refine ⟨_, hnext, by rw [State.pushedLong_sp_val]; omega, State.pushedLong_topLong_zero (by omega), ?_, ?_, h.pushedLong.pushed.pushedLong⟩
  · rw [State.pushedLong_top (by omega) (by omega), State.pushed_top_zero (by omega)]
  · rw [State.topLong, State.pushedLong_top (by omega) (by omega), State.pushedLong_top (by omega) (by omega),
      State.pushed_top_succ (by omega) (by omega), State.pushed_top_succ (by omega) (by omega)]
    exact State.pushedLong_topLong_zero (by omega)

end

/-! ### The word, code and checksum block transfers iterate -/

theorem zextLong_eq_ofNat (u : Word) : zextLong u = BitVec.ofNat 32 u.toNat := (BitVec.ofNat_toNat 32 u).symm

theorem iterates_words {i : Instr} {read : Word → M Word} {source : State → Word → LongWord}
    (hi : ∀ t, exec i t = run (blockLoop blockBound (stepWords read)) t) (hread : ∀ p, KeepsWdc (read p))
    (hload : ∀ p t, read p t = memRead (source t p) t)
    (hsource : ∀ {s t : State} {A : Set LongWord}, s.changesOnly t A → ∀ p, source t p = source s p) :
    Iterates i 3 1 (fun s => block (s.top 1) fun k => source s (s.top 2 + BitVec.ofNat 16 k))
      (fun s => block (s.top 1) fun k => s.lengthen (s.top 0 + BitVec.ofNat 16 k)) := by
  intro s hd hwdc hc hsp hcount hr hw
  have hfirst := first_mem_block (address := fun k => s.lengthen (s.top 0 + BitVec.ofNat 16 k)) hcount
  have hr0 := hr _ (first_mem_block hcount)
  have hw0 := hw _ hfirst
  rw [BitVec.add_zero] at hr0 hw0 hfirst
  have hva : read (s.top 2) (s.dropped 3) = memRead (source s (s.top 2)) (s.dropped 3) := by
    rw [hload, hsource (changesOnly_dropped (A := ∅) 3 hc)]
  obtain ⟨t, hnext, htsp, hdest, hleft, hsrc, hts⟩ := goesOn_pushedWords (changesOnly_moved 3 _ hc hr0 hw0 hfirst)
    (exec_words_next hd hwdc hc hi hread hva hsp hcount hw0 hr0) (by rw [moved_sp]; omega)
  exact ⟨t, hnext, htsp, hleft,
    block_tail_subset hcount hleft fun k => by rw [hsource hts, hsrc, add_one_add_ofNat],
    block_tail_subset hcount hleft fun k => by rw [hts.lengthen_eq, hdest, add_one_add_ofNat], hts⟩

theorem iterates_bltcl :
    Iterates .bltcl 4 2 (fun s => block (s.top 2) fun k => s.codeWord (s.top 3 + BitVec.ofNat 16 k))
      (fun s => block (s.top 2) fun k => s.topLong 0 + BitVec.ofNat 32 k) := by
  intro s hd hwdc hc hsp hcount hr hw
  have hfirst := first_mem_block (address := fun k => s.topLong 0 + BitVec.ofNat 32 k) hcount
  have hr0 := hr _ (first_mem_block hcount)
  have hw0 := hw _ hfirst
  rw [BitVec.add_zero] at hr0 hw0 hfirst
  obtain ⟨t, hnext, htsp, hdest, hleft, hsrc, hts⟩ := goesOn_pushedWordsLong (changesOnly_moved 4 _ hc hr0 hw0 hfirst)
    (exec_bltcl_next hd hwdc hc rfl hsp hcount hw0 hr0) (by rw [moved_sp]; omega)
  exact ⟨t, hnext, htsp, hleft,
    block_tail_subset hcount hleft fun k => by rw [hts.codeWord_eq, hsrc, add_one_add_ofNat],
    block_tail_subset hcount hleft fun k => by rw [hdest, add_one_add_ofNat], hts⟩

theorem iterates_cksum :
    Iterates .cksum 4 2 (fun s => block (s.top 2) fun k => s.topLong 0 + BitVec.ofNat 32 k) (fun _ => ∅) := by
  intro s hd hwdc hc hsp hcount hr _
  have hr0 := hr _ (first_mem_block hcount)
  rw [BitVec.add_zero] at hr0
  obtain ⟨t, hnext, htsp, hsrc, hleft, -, hts⟩ := goesOn_pushedWordsLong (changesOnly_dropped_loaded 4 hc hr0)
    (exec_cksum_next hd hwdc hsp hcount hr0) (by rw [State.loaded_sp, State.dropped_sp_val]; omega)
  exact ⟨t, hnext, htsp, hleft, block_tail_subset hcount hleft fun k => by rw [hsrc, add_one_add_ofNat], subset_rfl, hts⟩

/-- The block of as many words as the count of `BLTL` and `BLTLR` says, from a long pointer on. -/
def longBlock (count : Word) (p : LongWord) : Set LongWord := block count fun k => p + BitVec.ofNat 32 k

theorem iterates_longs {i : Instr} {place : LongWord → Word → LongWord} {advance : LongWord → LongWord}
    (hi : ∀ t, exec i t = run (blockLoop blockBound (stepLongs place advance)) t)
    (hplace : ∀ count p, count ≠ 0 → place p (count - 1) ∈ longBlock count p)
    (hadvance : ∀ count p, count ≠ 0 → longBlock (count - 1) (advance p) ⊆ longBlock count p) :
    Iterates i 5 2 (fun s => longBlock (s.top 2) (s.topLong 3)) (fun s => longBlock (s.top 2) (s.topLong 0)) := by
  intro s hd hwdc hc hsp hcount hr hw
  have hdest := hplace _ (s.topLong 0) hcount
  have hr0 := hr _ (hplace _ _ hcount)
  have hw0 := hw _ hdest
  obtain ⟨t, hnext, htsp, htdest, hleft, htsrc, hts⟩ := goesOn_pushedLongs (changesOnly_moved 5 _ hc hr0 hw0 hdest)
    (exec_longs_next hd hwdc hc hi rfl rfl hsp hcount hr0 hw0) (by rw [moved_sp]; omega)
  refine ⟨t, hnext, htsp, hleft, ?_, ?_, hts⟩
  · show longBlock (t.top 2) (t.topLong 3) ⊆ _
    rw [hleft, htsrc]
    exact hadvance _ _ hcount
  · show longBlock (t.top 2) (t.topLong 0) ⊆ _
    rw [hleft, htdest]
    exact hadvance _ _ hcount

theorem iterates_bltl :
    Iterates .bltl 5 2 (fun s => longBlock (s.top 2) (s.topLong 3)) (fun s => longBlock (s.top 2) (s.topLong 0)) :=
  iterates_longs exec_bltl (fun _ p hcount => ⟨0, by have := toNat_sub_one_add_one hcount; omega, (BitVec.add_zero p).symm⟩)
    fun _ p hcount => block_tail_subset hcount rfl (add_one_add_ofNat p)

/-- `BLTLR` moves the last word and leaves the pointers. -/
theorem iterates_bltlr :
    Iterates .bltlr 5 2 (fun s => longBlock (s.top 2) (s.topLong 3)) (fun s => longBlock (s.top 2) (s.topLong 0)) :=
  iterates_longs exec_bltlr (fun count _ hcount => zextLong_eq_ofNat (count - 1) ▸ last_mem_block hcount)
    fun _ _ hcount => block_init_subset hcount rfl fun _ => rfl

/-! ### They run to their end -/

section

variable {i : Instr} {s t : State} {count : Word} {n : Nat}

/-- What a transfer that pops its operands ends in. -/
theorem ends_dropped {A : Set LongWord} (hc : s.mapCanonical = true) (h : exec i s = .next (s.dropped n)) :
    ∃ t, exec i s = .next t ∧ t.sp.val = s.sp.val - n ∧ s.changesOnly t A :=
  ⟨_, h, State.dropped_sp_val s n, changesOnly_dropped n hc⟩

/-- What a transfer changes, where its destination is a block. -/
theorem frame_of_changesOnly_block {address : Nat → LongWord} (h : s.changesOnly t (block count address)) :
    s.sameContext t ∧ s.sameProcess t ∧ s.sameTranslation t
      ∧ ∀ key, (∀ k, k < count.toNat → key / 2 ≠ s.realAddress (address k)) → t.byteAt key = s.byteAt key := by
  have htrans := h.translate_eq
  have hbyte : ∀ key, (∀ k, k < count.toNat → key / 2 ≠ s.realAddress (address k)) → t.byteAt key = s.byteAt key :=
    fun _ hkey => h.byteAt_eq (forall_mem_block.mpr hkey)
  obtain ⟨hcontext, hprocess, -⟩ := h
  exact ⟨hcontext, hprocess, htrans, hbyte⟩

/-- A transfer into a block runs to its end. -/
theorem exec_completes_block {m k : Nat} {reads : State → Set LongWord} {address : State → Nat → LongWord}
    (hiter : Iterates i n k reads fun s => block (s.top k) (address s))
    (hend : ∀ s : State, n ≤ s.sp.val → s.top k = 0 → exec i s = .next (s.dropped m)) (hd : s.devices = [])
    (hwdc : s.wdc ≠ 0) (hc : s.mapCanonical = true) (hsp : n ≤ s.sp.val) (hr : ∀ va ∈ reads s, s.canRead va = true)
    (hw : ∀ j, j < (s.top k).toNat → s.canWrite (address s j) = true) :
    ∃ t, exec i s = .next t ∧ t.sp.val = s.sp.val - m ∧ s.sameContext t ∧ s.sameProcess t ∧ s.sameTranslation t
      ∧ ∀ key, (∀ j, j < (s.top k).toNat → key / 2 ≠ s.realAddress (address s j)) → t.byteAt key = s.byteAt key := by
  obtain ⟨t, hexec, htsp, hts⟩ := exec_completes hiter (fun s hc hsp hcount => ends_dropped hc (hend s hsp hcount)) hd hwdc hc
    hsp hr (forall_mem_block.mpr hw)
  exact ⟨t, hexec, htsp, frame_of_changesOnly_block hts⟩

variable (hd : s.devices = []) (hwdc : s.wdc ≠ 0) (hc : s.mapCanonical = true)
include hd hwdc hc

theorem exec_words_completes {read : Word → M Word} {source : State → Word → LongWord}
    (hi : ∀ t, exec i t = run (blockLoop blockBound (stepWords read)) t) (hread : ∀ p, KeepsWdc (read p))
    (hload : ∀ p t, read p t = memRead (source t p) t)
    (hsource : ∀ {s t : State} {A : Set LongWord}, s.changesOnly t A → ∀ p, source t p = source s p) (hsp : 3 ≤ s.sp.val)
    (hw : ∀ k, k < (s.top 1).toNat → s.canWrite (s.lengthen (s.top 0 + BitVec.ofNat 16 k)) = true)
    (hr : ∀ k, k < (s.top 1).toNat → s.canRead (source s (s.top 2 + BitVec.ofNat 16 k)) = true) :
    ∃ t, exec i s = .next t ∧ t.sp.val = s.sp.val - 3 ∧ s.sameContext t ∧ s.sameProcess t ∧ s.sameTranslation t
      ∧ ∀ key, (∀ k, k < (s.top 1).toNat →
          key / 2 ≠ s.realAddress (s.lengthen (s.top 0 + BitVec.ofNat 16 k))) → t.byteAt key = s.byteAt key := by
  have hwords := exec_completes_block (iterates_words hi hread hload hsource) (fun s => exec_words_end (hi s)) hd hwdc hc hsp
    (forall_mem_block.mpr hr) hw
  exact hwords

theorem exec_cksum_completes (hsp : 4 ≤ s.sp.val)
    (hr : ∀ k, k < (s.top 2).toNat → s.canRead (s.topLong 0 + BitVec.ofNat 32 k) = true) :
    ∃ t, exec .cksum s = .next t ∧ t.sp.val = s.sp.val - 3 ∧ s.sameContext t ∧ s.sameProcess t ∧ s.sameTranslation t
      ∧ t.mem = s.mem := by
  obtain ⟨t, hexec, htsp, hts⟩ := exec_completes (m := 3) iterates_cksum (fun r hc hsp hcount =>
      ⟨_, exec_cksum_end hsp hcount, by rw [State.pushed_sp_val, State.dropped_sp_val]; omega, changesOnly_dropped 4 hc⟩)
    hd hwdc hc hsp (forall_mem_block.mpr hr) (fun _ hva => absurd hva (Set.notMem_empty _))
  have htrans := hts.translate_eq
  have hmem := hts.mem_eq
  obtain ⟨hcontext, hprocess, -⟩ := hts
  exact ⟨t, hexec, htsp, hcontext, hprocess, htrans, hmem⟩

end

/-- Settles O39, by induction on the count: an iteration leaves one word less to move, and reads and stores to no words that
the whole transfer does not. -/
theorem blockTransfersComplete : Obligations.BlockTransfersComplete := by
  intro s hd hwdc hc
  refine ⟨fun hsp hw => ?_, fun hsp hw hr => ?_, exec_cksum_completes hd hwdc hc, fun hsp hw hr => ?_⟩
  · simp only [List.forall_mem_cons, List.not_mem_nil, false_imp_iff, implies_true, and_true]
    exact ⟨exec_words_completes hd hwdc hc (source := State.lengthen) exec_blt keepsWdc_memReadMds (fun _ _ => rfl)
        State.changesOnly.lengthen_eq hsp hw,
      exec_words_completes hd hwdc hc (source := State.codeWord) exec_bltc keepsWdc_readCode (fun _ _ => rfl)
        State.changesOnly.codeWord_eq hsp hw⟩
  · have hbltcl := exec_completes_block iterates_bltcl (fun _ => exec_bltcl_end) hd hwdc hc hsp (forall_mem_block.mpr hr) hw
    exact hbltcl
  · have hbltl := exec_completes_block iterates_bltl (fun s => exec_longs_end (exec_bltl s)) hd hwdc hc hsp
      (forall_mem_block.mpr hr) hw
    have hbltlr := exec_completes_block iterates_bltlr (fun s => exec_longs_end (exec_bltlr s)) hd hwdc hc hsp
      (forall_mem_block.mpr hr) hw
    simp only [List.forall_mem_cons, List.not_mem_nil, false_imp_iff, implies_true, and_true]
    exact ⟨hbltl, hbltlr⟩

end Sys2Proof.Machine

namespace Sys2Proof.Machine

-- As in the tests: many kernel checks at once need more threads than a compile of the whole text may have.
set_option Elab.async false

/-! ### Routines on registers alone, and loads from a memory that is known -/

section

variable {α : Type} {s r r' : State} {P : List Host.Cell → Prop} {mem : List Host.Cell} {a : α}

theorem ends_registers {m : M α} (h : ∀ map mem, m (r.withMemory map mem) = .ok a (r'.withMemory map mem)) :
    s.Ends P m r a r' P := fun map mem hs hP => ⟨map, mem, h map mem, hs, hP⟩

/-- It is enough to run the routine from memories that have a weaker property. -/
theorem ends_of_imp {P' P1 : List Host.Cell → Prop} {m : M α} (hP : ∀ mem, P mem → P' mem) (h : s.Ends P' m r a r' P1) :
    s.Ends P m r a r' P1 := fun map mem hs hmem => h map mem hs (hP mem hmem)

theorem ends_push {v : Word} (h : r.sp.val < 14) : s.Ends P (push v) r () (r.pushed v) P :=
  ends_registers fun map mem => push_run (s := r.withMemory map mem) h

theorem ends_minimalStack (h : r.sp.val = 0) : s.Ends P minimalStack r () r P :=
  ends_registers fun map mem => minimalStack_run (s := r.withMemory map mem) h

theorem ends_interruptPending_disabled (h : r.wdc ≠ 0) : s.Ends P interruptPending r false r P :=
  ends_registers fun map mem => interruptPending_disabled (s := r.withMemory map mem) h

variable (hd : r.devices = [])
include hd

theorem ends_memRead_exact {va : LongWord} (hr : s.canRead va = true) :
    s.Ends (· = mem) (memRead va) r (readReal mem (s.realAddress va)) r (· = mem) :=
  ends_memRead hd hr fun m hm => by rw [hm]

/-- A load from the memory of `s`. -/
theorem ends_wordAt {va : LongWord} (hr : s.canRead va = true) :
    s.Ends (· = s.mem) (memRead va) r (s.wordAt va) r (· = s.mem) :=
  ends_memRead_exact hd hr

theorem ends_longAt {va : LongWord} (hlow : s.canRead va = true) (hhigh : s.canRead (va + 1) = true) :
    s.Ends (· = s.mem) (readDbl va) r (s.longAt va) r (· = s.mem) :=
  ends_bind (ends_wordAt hd hlow) (ends_bind (ends_wordAt hd hhigh) (ends_pure _))

theorem ends_byteOf {ptr offset : LongWord} (hr : s.canRead (ptr + offset >>> 1) = true) :
    s.Ends (· = s.mem) (fetchByte ptr offset) r (s.byteOf ptr offset) r (· = s.mem) :=
  ends_bind (ends_wordAt hd hr) (ends_pure _)

theorem ends_readRecord_from {ptr : Word} {n i : Nat}
    (hr : ∀ k ∈ List.range' i n, s.canRead (r.lengthen (ptr + BitVec.ofNat 16 k)) = true) :
    s.Ends (· = s.mem) (readRecord ptr n i) r
      ((List.range' i n).map fun k => s.wordAt (r.lengthen (ptr + BitVec.ofNat 16 k))) r (· = s.mem) := by
  induction n generalizing i with
  | zero => exact ends_pure _
  | succ n ih =>
    rw [List.range'_succ] at hr ⊢
    obtain ⟨hfirst, hrest⟩ := List.forall_mem_cons.mp hr
    exact ends_bind (ends_getState fun _ _ => ends_wordAt hd hfirst) (ends_bind (ih hrest) (ends_pure _))

/-- An argument record is read from the memory of `s` (46_bitblt_txtblt.md R562, R576). -/
theorem ends_readRecord {ptr : Word} {n : Nat}
    (hr : ∀ k : Nat, k < n → s.canRead (r.lengthen (ptr + BitVec.ofNat 16 k)) = true) :
    s.Ends (· = s.mem) (readRecord ptr n 0) r
      ((List.range n).map fun k => s.wordAt (r.lengthen (ptr + BitVec.ofNat 16 k))) r (· = s.mem) := by
  rw [List.range_eq_range']
  exact ends_readRecord_from hd fun k hk => hr k (by simpa using hk)

end

/-! ### What is left of a state that a routine has ended in -/

section

variable {s : State} {map : List (Nat × MapEntry)}

theorem sameTranslation_withMemory (hmap : s.sameAccess map) (r : State) (mem : List Host.Cell) :
    s.sameTranslation (r.withMemory map mem) := fun va op => (translate_withMemory hmap r mem va op).symm

theorem sameProcess_withMemory (r : State) (map : List (Nat × MapEntry)) (mem : List Host.Cell) :
    r.sameProcess (r.withMemory map mem) := by
  simp only [State.sameProcess, State.withMemory, and_self]

end

/-! ### The lines of a bit block transfer (46_bitblt_txtblt.md R551, R561, R563) -/

theorem legal_bounds {a : BitBltArg} (h : a.legal = true) : a.width.toNat ≤ 32767 ∧ a.height.toNat ≤ 32767 := by
  simp only [BitBltArg.legal, Bool.and_eq_true, decide_eq_true_eq] at h
  obtain ⟨⟨⟨-, hwidth⟩, hheight⟩, -⟩ := h
  exact ⟨hwidth, hheight⟩

/-- What `ComputeDirection` does not reverse is as in the record. -/
theorem bitBltStart_arg {α : Type} (field : BitBltArg → α) {a : BitBltArg} (h : field a.reverse = field a) :
    field (bitBltStart a).arg = field a := by
  unfold bitBltStart
  dsimp only
  split
  · exact h
  · rfl

theorem advanceBy_field {α : Type} (field : BitBltJob → α) (h : ∀ j, field j.advance = field j) (j : BitBltJob) (n : Nat) :
    field (j.advanceBy n) = field j := by
  induction n generalizing j with
  | zero => rfl
  | succ n ih => exact (ih j.advance).trans (h j)

@[simp] theorem bitBltStart_advanceBy_width (a : BitBltArg) (n : Nat) :
    ((bitBltStart a).advanceBy n).arg.width = a.width :=
  (advanceBy_field (fun j => j.arg.width) (fun _ => rfl) _ n).trans (bitBltStart_arg BitBltArg.width rfl)

@[simp] theorem bitBltStart_advanceBy_height (a : BitBltArg) (n : Nat) :
    ((bitBltStart a).advanceBy n).arg.height = a.height :=
  (advanceBy_field (fun j => j.arg.height) (fun _ => rfl) _ n).trans (bitBltStart_arg BitBltArg.height rfl)

@[simp] theorem bitBltStart_advanceBy_gray (a : BitBltArg) (n : Nat) :
    ((bitBltStart a).advanceBy n).arg.gray = a.gray :=
  (advanceBy_field (fun j => j.arg.gray) (fun _ => rfl) _ n).trans (bitBltStart_arg BitBltArg.gray rfl)

theorem advanceBy_line (j : BitBltJob) (n : Nat) : (j.advanceBy n).line =
    if j.yDirection = .forward then j.line + BitVec.ofNat 16 n else j.line - BitVec.ofNat 16 n := by
  induction n generalizing j with
  | zero => simp [BitBltJob.advanceBy]
  | succ n ih =>
    have hstep : j.advance.line = if j.yDirection = .forward then j.line + 1 else j.line - 1 := rfl
    rw [BitBltJob.advanceBy, ih, hstep, show j.advance.yDirection = j.yDirection from rfl]
    split <;> simp only [BitVec.ofNat_add] <;> bv_omega

/-- A transfer has as many lines as its height. -/
theorem bitBltStart_line_lt {a : BitBltArg} (h : a.height.toNat ≤ 32767) {n : Nat} (hn : n ≤ a.height.toNat) :
    ((bitBltStart a).advanceBy n).line < a.height ↔ n < a.height.toNat := by
  have hline : (bitBltStart a).line = if (bitBltStart a).yDirection = .forward then 0 else a.height - 1 := rfl
  rw [advanceBy_line, hline, BitVec.lt_def]
  split <;> simp only [BitVec.ofNat_eq_ofNat, BitVec.toNat_add, BitVec.toNat_sub, BitVec.toNat_ofNat] <;> omega

/-! ### One bit of a transfer (46_bitblt_txtblt.md R554, R557, R564) -/

theorem bump_zero (b : BitAddress) : b.bump 0 = b := by
  obtain ⟨word, bit⟩ := b
  have hword : (0 + zextNibbleLong bit).sshiftRight 4 = 0 := by
    revert bit
    decide
  have hbit : (0 + zextNibbleLong bit).extractLsb' 0 4 = bit := by
    revert bit
    decide
  simp only [BitAddress.bump, hword, hbit, add_zero]

/-- The bit of a word in the memory `mem`, at the addresses of `s`. -/
def State.bitIn (s : State) (mem : List Host.Cell) (b : BitAddress) : Bool :=
  (readField (readReal mem (s.realAddress b.word)) b.bit 0).getLsbD 0

/-- Memory after a bit has been stored in it. -/
def State.withBit (s : State) (mem : List Host.Cell) (b : BitAddress) (bit : Bool) : List Host.Cell :=
  writeReal mem (s.realAddress b.word) (writeField (readReal mem (s.realAddress b.word)) b.bit 0 (booleanWord bit))

section

variable {s r : State} {mem : List Host.Cell} {P P1 P2 : List Host.Cell → Prop} {b : BitAddress} {offset : Word}

theorem ends_readBit (hd : r.devices = []) (a : BitAddress) (hr : s.canRead (a.bump (offset.signExtend 32)).word = true) :
    s.Ends (· = mem) (readBit a offset) r (s.bitIn mem (a.bump (offset.signExtend 32))) r (· = mem) :=
  ends_bind (ends_memRead_exact hd hr) (ends_pure _)

theorem ends_writeBit (hd : r.devices = []) (a : BitAddress) {bit : Bool}
    (hw : s.canWrite (a.bump (offset.signExtend 32)).word = true)
    (hP : P (s.withBit mem (a.bump (offset.signExtend 32)) bit)) :
    s.Ends (· = mem) (writeBit a offset bit) r () r P :=
  ends_bind (ends_memRead_exact hd (canRead_of_canWrite hw)) (ends_memWrite hd hw fun m hm => by rw [hm]; exact hP)

/-- Where the bit at an offset of an item comes from: a gray source repeats its word (46_bitblt_txtblt.md R564). -/
def BitBltJob.source (j : BitBltJob) (offset : Word) : BitAddress :=
  j.arg.src.bump (BitVec.signExtend 32 (if j.arg.gray then
    ((offset + zextNibble j.arg.src.bit) &&& 15) - zextNibble j.arg.src.bit else offset))

/-- Where the bit at an offset of an item goes. -/
def BitBltJob.dest (j : BitBltJob) (offset : Word) : BitAddress := j.arg.dst.bump (offset.signExtend 32)

/-- The offset `i` bits after another one, in the direction of the transfer. -/
def BitBltJob.offsetFrom (j : BitBltJob) (offset : Word) (i : Nat) : Word :=
  if j.xDirection = .forward then offset + BitVec.ofNat 16 i else offset - BitVec.ofNat 16 i

/-- Going up or down from the only line changes no address (46_bitblt_txtblt.md R563). -/
theorem bitBltStart_dest_zero {a : BitBltArg} (hheight : a.height = 1) : (bitBltStart a).dest 0 = a.dst := by
  have hreverse : a.reverse.dst = a.dst := by
    show a.dst.bump (a.dstBpl.signExtend 32 * (zextLong a.height - 1)) = a.dst
    rw [hheight, show zextLong 1 - 1 = 0 from rfl, mul_zero, bump_zero]
  rw [BitBltJob.dest, show BitVec.signExtend 32 (0 : Word) = 0 from rfl, bump_zero, bitBltStart_arg BitBltArg.dst hreverse]

theorem bitBltStart_source_zero {a : BitBltArg} (hheight : a.height = 1) (hplain : a.gray = false) :
    (bitBltStart a).source 0 = a.src := by
  have hreverse : a.reverse.src = a.src := by
    have hsrc : a.reverse.src = a.src.bump (if a.gray then _ else a.srcBpl.signExtend 32 * (zextLong a.height - 1)) := rfl
    rw [hsrc, if_neg (by simp [hplain]), hheight, show zextLong 1 - 1 = 0 from rfl, mul_zero, bump_zero]
  have hgray : (bitBltStart a).arg.gray = false := (bitBltStart_arg BitBltArg.gray rfl).trans hplain
  rw [BitBltJob.source, hgray, if_neg Bool.false_ne_true, show BitVec.signExtend 32 (0 : Word) = 0 from rfl, bump_zero,
    bitBltStart_arg BitBltArg.src hreverse]

/-- Memory after the bit at an offset has been transferred. -/
def State.combined (s : State) (mem : List Host.Cell) (j : BitBltJob) (offset : Word) : List Host.Cell :=
  s.withBit mem (j.dest offset) (j.arg.combine (s.bitIn mem (j.dest offset)) (s.bitIn mem (j.source offset)))

/-- The first bit is transferred, and then the others. -/
theorem ends_bitBltBits_succ {j : BitBltJob} {n : Nat} (hd : r.devices = []) (hw : s.canWrite (j.dest offset).word = true)
    (hr : s.canRead (j.source offset).word = true) (hP : P1 (s.combined mem j offset))
    (hrest : s.Ends P1 (bitBltBits j n (j.offsetFrom offset 1)) r () r P2) :
    s.Ends (· = mem) (bitBltBits j (n + 1) offset) r () r P2 :=
  ends_bind (ends_readBit hd _ (canRead_of_canWrite hw)) (ends_bind (ends_readBit hd _ hr)
    (ends_bind (ends_writeBit hd _ hw hP) hrest))

/-! ### An item changes only words of its destination -/

/-- Memory holds the bytes of `s` but for those of the words in `A`. -/
def State.KeepsBytes (s : State) (A : Set LongWord) (mem : List Host.Cell) : Prop :=
  ∀ key, (∀ va ∈ A, key / 2 ≠ s.realAddress va) → tableGet unlistedByte mem key = s.byteAt key

theorem keepsBytes_withBit {A : Set LongWord} {bit : Bool} (hA : b.word ∈ A) (h : s.KeepsBytes A mem) :
    s.KeepsBytes A (s.withBit mem b bit) := by
  intro key hkey
  have hne := hkey b.word hA
  rw [State.withBit, byte_writeReal_other _ _ (by omega) (by omega), h key hkey]

theorem keepsBytes_self (s : State) (A : Set LongWord) (mem : List Host.Cell) (h : mem = s.mem) : s.KeepsBytes A mem :=
  fun _ _ => by rw [h, State.byteAt]

/-- The bit at an offset can be transferred, into a word of `A`. -/
def BitBltJob.Accessible (j : BitBltJob) (s : State) (A : Set LongWord) (offset : Word) : Prop :=
  (j.dest offset).word ∈ A ∧ s.canWrite (j.dest offset).word = true ∧ s.canRead (j.source offset).word = true

theorem offsetFrom_zero (j : BitBltJob) (offset : Word) : j.offsetFrom offset 0 = offset := by
  simp [BitBltJob.offsetFrom]

theorem offsetFrom_succ (j : BitBltJob) (offset : Word) (i : Nat) :
    j.offsetFrom (j.offsetFrom offset 1) i = j.offsetFrom offset (i + 1) := by
  unfold BitBltJob.offsetFrom
  split <;> simp only [BitVec.ofNat_add] <;> bv_omega

theorem ends_bitBltBits {A : Set LongWord} {j : BitBltJob} (hd : r.devices = []) {n : Nat}
    (h : ∀ i, i < n → j.Accessible s A (j.offsetFrom offset i)) :
    s.Ends (s.KeepsBytes A) (bitBltBits j n offset) r () r (s.KeepsBytes A) := by
  induction n generalizing offset with
  | zero => exact ends_pure ()
  | succ n ih =>
    obtain ⟨hA, hw, hr⟩ := offsetFrom_zero j offset ▸ h 0 n.succ_pos
    refine ends_of_exact fun mem hmem => ends_bitBltBits_succ hd hw hr (keepsBytes_withBit hA hmem) (ih fun i hi => ?_)
    rw [offsetFrom_succ]
    exact h (i + 1) (Nat.succ_lt_succ hi)

/-- Each bit of an item stands at an offset below the width. -/
theorem ends_bitBltItem {A : Set LongWord} {j : BitBltJob} (hd : r.devices = [])
    (h : ∀ k : Nat, k < j.arg.width.toNat → j.Accessible s A (BitVec.ofNat 16 k)) :
    s.Ends (s.KeepsBytes A) (bitBltItem j) r () r (s.KeepsBytes A) := by
  refine ends_bitBltBits hd fun i hi => ?_
  unfold BitBltJob.offsetFrom
  split
  · rw [zero_add]
    exact h i hi
  · have hlast : j.arg.width - 1 - BitVec.ofNat 16 i = BitVec.ofNat 16 (j.arg.width.toNat - 1 - i) := by
      apply BitVec.eq_of_toNat_eq
      simp only [BitVec.ofNat_eq_ofNat, BitVec.toNat_sub, BitVec.toNat_ofNat]
      omega
    rw [hlast]
    exact h _ (by omega)

/-! ### The items of a transfer (46_bitblt_txtblt.md R551, R565) -/

variable {j : BitBltJob} {ptr done : Word} {n : Nat}

theorem ends_bitBltItems_stop (hline : ¬ j.line < j.arg.height) : s.Ends P (bitBltItems ptr n j done) r () r P := by
  cases n with
  | zero => exact ends_pure ()
  | succ n =>
    rw [bitBltItems, if_neg hline]
    exact ends_pure ()

theorem ends_bitBltItems_next (hwdc : r.wdc ≠ 0) (hline : j.line < j.arg.height)
    (hitem : s.Ends P (bitBltItem j) r () r P1)
    (hrest : s.Ends P1 (bitBltItems ptr n j.advance (done + 1)) r () r P2) :
    s.Ends P (bitBltItems ptr (n + 1) j done) r () r P2 := by
  rw [bitBltItems, if_pos hline]
  exact ends_bind hitem (ends_bind (ends_interruptPending_disabled hwdc) hrest)

/-- A transfer of `lines` lines keeps what each of its items keeps. -/
theorem ends_bitBltItems {lines : Nat} (hwdc : r.wdc ≠ 0) (hn : lines ≤ n)
    (hline : ∀ i, i ≤ lines → ((j.advanceBy i).line < (j.advanceBy i).arg.height ↔ i < lines))
    (hitem : ∀ i, i < lines → s.Ends P (bitBltItem (j.advanceBy i)) r () r P) :
    s.Ends P (bitBltItems ptr n j done) r () r P := by
  induction lines generalizing n j done with
  | zero => exact ends_bitBltItems_stop ((hline 0 le_rfl).not.mpr (lt_irrefl 0))
  | succ lines ih =>
    obtain ⟨n, rfl⟩ := Nat.exists_eq_add_of_lt (Nat.lt_of_lt_of_le lines.succ_pos hn)
    rw [Nat.zero_add] at hn ⊢
    refine ends_bitBltItems_next hwdc ((hline 0 (Nat.zero_le _)).mpr lines.succ_pos) (hitem 0 lines.succ_pos)
      (ih (Nat.le_of_succ_le_succ hn) (fun i hi => ?_) fun i hi => hitem (i + 1) (Nat.succ_lt_succ hi))
    exact (hline (i + 1) (Nat.succ_le_succ hi)).trans Nat.succ_lt_succ_iff

end

/-! ### `BITBLT` from its argument record (46_bitblt_txtblt.md R551, R561, R562) -/

theorem bitBltOperands_run {s : State} (hsp : s.sp.val = 1) : bitBltOperands s = .ok (s.top 0, 0) (s.dropped 1) := by
  rw [bitBltOperands, getState_bind, if_pos hsp, bind_ok (pop_run (by omega)), pure_run]

section

variable {s : State} {ptr : Word} {a : BitBltArg} (hd : s.devices = []) (hc : s.mapCanonical = true) (hwdc : s.wdc ≠ 0)
  (hsp : s.sp.val = 1) (hptr : ptr = s.top 0) (haligned : ptr &&& 15 = 0)
  (hread : ∀ k : Nat, k < 12 → s.canRead (s.lengthen (ptr + BitVec.ofNat 16 k)) = true)
  (ha : a = bitBltArgOfWords ((List.range 12).map fun k => s.wordAt (s.lengthen (ptr + BitVec.ofNat 16 k))))
  (hlegal : a.legal = true) (hgray : a.gray = true → a.grayOffset.toNat ≤ a.grayHeight.toNat)

include hd haligned hread ha hlegal hgray in
theorem ends_bitBltSetup :
    s.Ends (· = s.mem) (bitBltSetup ptr) (s.dropped 1) (bitBltStart a) (s.dropped 1) (· = s.mem) := by
  have hoffset : ¬ (a.gray && a.grayHeight.ult a.grayOffset) = true := by
    rw [Bool.and_eq_true, BitVec.ult_eq_decide, decide_eq_true_eq]
    rintro ⟨h, hlt⟩
    exact absurd (hgray h) (by omega)
  rw [bitBltSetup, if_neg (not_not.mpr haligned)]
  refine ends_bind (ends_readRecord (r := s.dropped 1) hd hread) ?_
  simp only [State.lengthen_dropped, ← ha, if_pos hlegal, if_neg hoffset]
  exact ends_pure _

include hd hc hsp hptr haligned hread ha hlegal hgray in
/-- `BITBLT` ends as its items do, with its argument popped. -/
theorem exec_bitblt_items {P : List Host.Cell → Prop}
    (hitems : s.Ends (· = s.mem) (bitBltItems ptr 32768 (bitBltStart a) 0) (s.dropped 1) () (s.dropped 1) P) :
    ∃ map mem, exec .bitblt s = .next ((s.dropped 1).withMemory map mem) ∧ s.sameAccess map ∧ P mem := by
  have hsetup := ends_bitBltSetup hd haligned hread ha hlegal hgray
  have hempty : (s.dropped 1).sp.val = 0 := by rw [State.dropped_sp_val]; omega
  subst hptr
  have hall : s.Ends (· = s.mem) (bitBltSetup (s.top 0) >>= fun job => minimalStack >>= fun _ =>
      bitBltItems (s.top 0) 32768 (job.advanceBy 0) 0) (s.dropped 1) () (s.dropped 1) P :=
    ends_bind hsetup (ends_bind (ends_minimalStack hempty) hitems)
  obtain ⟨map, mem, hrun, hmap, hmem⟩ := hall s.map s.mem (sameAccess_self hc) rfl
  exact ⟨map, mem, run_ok ((bind_ok (bitBltOperands_run hsp)).trans hrun), hmap, hmem⟩

include hd hc hwdc hsp hptr haligned hread ha hlegal hgray

/-- A whole transfer changes only words of the destination rectangle. -/
theorem exec_bitblt_completes {A : Set LongWord}
    (h : ∀ n k : Nat, n < a.height.toNat → k < a.width.toNat →
      ((bitBltStart a).advanceBy n).Accessible s A (BitVec.ofNat 16 k)) :
    ∃ map mem, exec .bitblt s = .next ((s.dropped 1).withMemory map mem) ∧ s.sameAccess map ∧ s.KeepsBytes A mem := by
  obtain ⟨-, hheight⟩ := legal_bounds hlegal
  refine exec_bitblt_items hd hc hsp hptr haligned hread ha hlegal hgray (ends_of_imp (keepsBytes_self s A) ?_)
  refine ends_bitBltItems (r := s.dropped 1) hwdc (le_trans hheight (by decide)) (fun n hn => ?_) fun n hn => ?_
  · rw [bitBltStart_advanceBy_height, bitBltStart_line_lt hheight hn]
  · refine ends_bitBltItem (r := s.dropped 1) hd fun k hk => h n k hn ?_
    rwa [bitBltStart_advanceBy_width] at hk

/-- A transfer of one bit, whose reversal changes nothing (46_bitblt_txtblt.md R563), leaves it combined. -/
theorem exec_bitblt_oneBit (hw : s.canWrite a.dst.word = true) (hr : s.canRead a.src.word = true) (hwidth : a.width = 1)
    (hheight : a.height = 1) (hplain : a.gray = false) :
    ∃ map, exec .bitblt s = .next ((s.dropped 1).withMemory map
      (s.withBit s.mem a.dst (a.combine (s.bitIn s.mem a.dst) (s.bitIn s.mem a.src)))) := by
  have hone : ∀ n : Nat, n ≤ 1 →
      (((bitBltStart a).advanceBy n).line < ((bitBltStart a).advanceBy n).arg.height ↔ n < 1) := by
    intro n hn
    rw [bitBltStart_advanceBy_height, bitBltStart_line_lt (by rw [hheight]; decide) (by rwa [hheight]), hheight]
    rfl
  have hdest := bitBltStart_dest_zero hheight
  have hsource := bitBltStart_source_zero hheight hplain
  have hcombined : s.combined s.mem (bitBltStart a) 0 =
      s.withBit s.mem a.dst (a.combine (s.bitIn s.mem a.dst) (s.bitIn s.mem a.src)) := by
    rw [State.combined, hdest, hsource, bitBltStart_arg BitBltArg.combine rfl]
  have hitem : s.Ends (· = s.mem) (bitBltItem (bitBltStart a)) (s.dropped 1) () (s.dropped 1)
      (· = s.combined s.mem (bitBltStart a) 0) := by
    rw [bitBltItem, bitBltStart_arg BitBltArg.width rfl, hwidth, sub_self, ite_self]
    exact ends_bitBltBits_succ (r := s.dropped 1) (P1 := (· = s.combined s.mem (bitBltStart a) 0)) hd (by rwa [hdest])
      (by rwa [hsource]) rfl (ends_pure ())
  obtain ⟨map, _, hexec, -, rfl⟩ := exec_bitblt_items hd hc hsp hptr haligned hread ha hlegal hgray
    (ends_bitBltItems_next (n := 32767) (r := s.dropped 1) hwdc ((hone 0 (by decide)).mpr (by decide)) hitem
      (ends_bitBltItems_stop ((hone 1 le_rfl).not.mpr (by decide))))
  exact ⟨map, hcombined ▸ hexec⟩

end

/-- The bits below the width stand at offsets that the sign does not change. -/
theorem signExtend_ofNat {k : Nat} (h : k ≤ 32767) : (BitVec.ofNat 16 k).signExtend 32 = BitVec.ofNat 32 k := by
  have hmsb : (BitVec.ofNat 16 k).msb = false := by
    rw [BitVec.msb_eq_false_iff_two_mul_lt, BitVec.toNat_ofNat]
    omega
  apply BitVec.eq_of_toNat_eq
  rw [BitVec.signExtend_eq_setWidth_of_msb_false hmsb, BitVec.toNat_setWidth, BitVec.toNat_ofNat, BitVec.toNat_ofNat]
  omega

/-- Settles O58. Memory after any transfer is what `exec_bitblt_completes` says; one bit is transferred by the same run. -/
theorem bitBlockTransfer : Obligations.BitBlockTransfer := by
  intro s ptr a dst src hd hc hwdc hsp hptr haligned hread ha hlegal hgray hdst hsrc haccess
  obtain ⟨hwidth, -⟩ := legal_bounds hlegal
  have hdest : ∀ n k : Nat, k < a.width.toNat → ((bitBltStart a).advanceBy n).dest (BitVec.ofNat 16 k) = dst n k := by
    intro n k hk
    rw [hdst, BitBltJob.dest, signExtend_ofNat (by omega)]
  have hsource : ∀ n k : Nat, ((bitBltStart a).advanceBy n).source (BitVec.ofNat 16 k) = src n k := by
    intro n k
    rw [hsrc, BitBltJob.source, bitBltStart_advanceBy_gray]
  obtain ⟨map, mem, hexec, hmap, hbytes⟩ := exec_bitblt_completes
    (A := { va | ∃ n k, n < a.height.toNat ∧ k < a.width.toNat ∧ va = (dst n k).word })
    hd hc hwdc hsp hptr haligned hread ha hlegal hgray (fun n k hn hk => by
      rw [BitBltJob.Accessible, hdest n k hk, hsource]
      exact ⟨⟨n, k, hn, hk, rfl⟩, haccess n k hn hk⟩)
  refine ⟨_, hexec, Fin.ext (by simp [State.withMemory, hsp]), rfl, ⟨rfl, rfl, rfl, rfl, rfl, rfl⟩,
    sameProcess_withMemory (s.dropped 1) map mem, sameTranslation_withMemory hmap _ _, fun key hkey => ?_,
    fun hone hline hplain => ?_⟩
  · exact hbytes key (by rintro va ⟨n, k, hn, hk, rfl⟩; exact hkey n k hn hk)
  · have hdst0 : dst 0 0 = a.dst := (hdest 0 0 (by rw [hone]; decide)).symm.trans (bitBltStart_dest_zero hline)
    have hsrc0 : src 0 0 = a.src := (hsource 0 0).symm.trans (bitBltStart_source_zero hline hplain)
    obtain ⟨hw, hr⟩ := haccess 0 0 (by rw [hline]; decide) (by rw [hone]; decide)
    rw [hdst0] at hw
    rw [hsrc0] at hr
    obtain ⟨map', hexec'⟩ := exec_bitblt_oneBit hd hc hwdc hsp hptr haligned hread ha hlegal hgray hw hr hone hline hplain
    exact congrArg State.mem (Host.Outcome.next.inj (hexec.symm.trans hexec'))

end Sys2Proof.Machine

namespace Sys2Proof.Machine

-- As in the tests: many kernel checks at once need more threads than a compile of the whole text may have.
set_option Elab.async false

/-! ### The arguments of `TXTBLT` on the stack (46_bitblt_txtblt.md R575) -/

theorem popFive_run {α : Type} {f : Word → Word → Word → Word → Word → M α} {s : State} (h : 5 ≤ s.sp.val) :
    (pop >>= fun v => pop >>= fun u => pop >>= fun w => pop >>= fun x => pop >>= fun y => f v u w x y) s =
      f (s.top 0) (s.top 1) (s.top 2) (s.top 3) (s.top 4) (s.dropped 5) := by
  rw [popTwoThenPop_run (by omega), popTwo_run (by rw [State.dropped_sp_val]; omega), State.dropped_top, State.dropped_top,
    State.dropped_dropped]

/-- The updated arguments and a result pushed. -/
def State.pushedJob (s : State) (j : TxtBltJob) (result : Word) : State :=
  ((((s.pushed j.index).pushed j.bitPos).pushed j.printPos).pushed j.count).pushed result

/-- The arguments as `TXTBLT` finds them. -/
def State.textJob (s : State) : TxtBltJob :=
  { index := s.slot 0, bitPos := s.slot 1, printPos := s.slot 2, count := s.slot 3 }

section

variable {s r : State} {P P1 : List Host.Cell → Prop} {a : TxtBltArg} {ptr result : Word} {j j' : TxtBltJob} {n : Nat}

theorem withMemory_slot (r : State) (map : List (Nat × MapEntry)) (mem : List Host.Cell) (i : Nat) :
    (r.withMemory map mem).slot i = r.slot i := rfl

/-- What the stack and the registers hold with the arguments pushed, whatever memory is. -/
theorem pushedJob_holds (h : r.sp.val = 0) (map : List (Nat × MapEntry)) (mem : List Host.Cell) {t : State}
    (ht : t = (r.pushedJob j result).withMemory map mem) :
    t.sp.val = 5 ∧ t.slot 0 = j.index ∧ t.slot 1 = j.bitPos ∧ t.slot 2 = j.printPos ∧ t.slot 3 = j.count ∧ t.slot 4 = result
      ∧ r.sameContext t ∧ r.sameProcess t := by
  subst ht
  have hslots : (r.pushedJob j result).slot 0 = j.index ∧ (r.pushedJob j result).slot 1 = j.bitPos
      ∧ (r.pushedJob j result).slot 2 = j.printPos ∧ (r.pushedJob j result).slot 3 = j.count
      ∧ (r.pushedJob j result).slot 4 = result := by
    simp [State.pushedJob, State.pushed_slot, h]
  obtain ⟨h0, h1, h2, h3, h4⟩ := hslots
  simp only [withMemory_slot, h0, h1, h2, h3, h4, true_and]
  refine ⟨?_, ?_, ?_⟩
  · simp [State.withMemory, State.pushedJob, h]
  · simp [State.sameContext, State.withMemory, State.pushedJob]
  · simp [State.sameProcess, State.withMemory, State.pushedJob]

theorem ends_txtBltPush (h : r.sp.val = 0) : s.Ends P (txtBltPush j result) r () (r.pushedJob j result) P := by
  have hsp : ∀ (t : State) (v : Word), (t.pushed v).sp.val ≤ t.sp.val + 1 := fun t v => by
    rw [State.pushed_sp_val]
    omega
  have h1 := hsp r j.index
  have h2 := hsp (r.pushed j.index) j.bitPos
  have h3 := hsp ((r.pushed j.index).pushed j.bitPos) j.printPos
  have h4 := hsp (((r.pushed j.index).pushed j.bitPos).pushed j.printPos) j.count
  exact ends_bind (ends_push (by omega)) (ends_bind (ends_push (by omega)) (ends_bind (ends_push (by omega))
    (ends_bind (ends_push (by omega)) (ends_push (by omega)))))

/-! ### The loop over the characters (46_bitblt_txtblt.md R575) -/

theorem ends_txtBltLoop_past (hsp : r.sp.val = 0) (hlast : a.last < j.index) :
    s.Ends P (txtBltLoop a ptr (n + 1) j) r () (r.pushedJob j 0) P := by
  rw [txtBltLoop, if_pos hlast]
  exact ends_txtBltPush hsp

theorem ends_txtBltLoop_result (hsp : r.sp.val = 0) (hlast : ¬ a.last < j.index)
    (hchar : s.Ends P (txtBltChar a j) r (.inr result) r P1) :
    s.Ends P (txtBltLoop a ptr (n + 1) j) r () (r.pushedJob j result) P1 := by
  rw [txtBltLoop, if_neg hlast]
  exact ends_bind hchar (ends_txtBltPush hsp)

theorem ends_txtBltLoop_next {r1 : State} {P2 : List Host.Cell → Prop} (hwdc : r.wdc ≠ 0) (hlast : ¬ a.last < j.index)
    (hchar : s.Ends P (txtBltChar a j) r (.inl j') r P1) (hrest : s.Ends P1 (txtBltLoop a ptr n j') r () r1 P2) :
    s.Ends P (txtBltLoop a ptr (n + 1) j) r () r1 P2 := by
  rw [txtBltLoop, if_neg hlast]
  exact ends_bind hchar (ends_bind (ends_interruptPending_disabled hwdc) hrest)

end

/-! ### The font (46_bitblt_txtblt.md R579, decision D18) -/

/-- The words that formatting a character reads: the font's pointers, the character, its flags and its widths. -/
abbrev State.canFormat (s : State) (a : TxtBltArg) (index : Word) (c : Byte) (widths printWidths flagsAt : LongWord) : Prop :=
  s.canReadAll [a.font + 2, a.font + 2 + 1, a.font + 4, a.font + 4 + 1, a.font + 6, a.font + 6 + 1,
    a.text + zextLong index >>> 1, flagsAt + zextByteLong c >>> 1, printWidths + zextByteLong c,
    widths + zextByteLong c >>> 1]

/-- The arguments after a formatted character: only displaying and resolving justify (46_bitblt_txtblt.md R573). -/
def TxtBltJob.formatted (j : TxtBltJob) (width printWidth : Word) (pad : Bool) : TxtBltJob where
  index := j.index + 1
  bitPos := j.bitPos + width
  printPos := j.printPos + printWidth
  count := if pad then j.count + 1 else j.count

theorem after_eq_formatted {a : TxtBltArg} (j : TxtBltJob) (hformat : a.function = 1) (width printWidth : Word) (pad : Bool) :
    j.after a width printWidth pad = j.formatted width printWidth pad := by
  simp [TxtBltJob.after, TxtBltJob.formatted, hformat]

section

variable {s r : State} {a : TxtBltArg} {j : TxtBltJob} {c flags : Byte} {widths printWidths flagsAt : LongWord}
  (hd : r.devices = []) (hwidths : widths = s.longAt (a.font + 2)) (hprint : printWidths = s.longAt (a.font + 4))
  (hflagsAt : flagsAt = s.longAt (a.font + 6)) (hchar : c = s.byteOf a.text (zextLong j.index))
  (hflags : flags = s.byteOf flagsAt (zextByteLong c)) (hformat : a.function = 1)
  (hr : s.canFormat a j.index c widths printWidths flagsAt)
include hd hr

include hwidths in
theorem ends_spacingWidth :
    s.Ends (· = s.mem) (spacingWidth a.font c) r (zextByte (s.byteOf widths (zextByteLong c))) r (· = s.mem) := by
  subst hwidths
  simp only [State.canFormat, canReadAll_cons_iff] at hr
  obtain ⟨hlow, hhigh, -, -, -, -, -, -, -, hbyte, -⟩ := hr
  exact ends_bind (ends_longAt hd hlow hhigh) (ends_bind (ends_byteOf hd hbyte) (ends_pure _))

include hprint in
theorem ends_printerWidth :
    s.Ends (· = s.mem) (printerWidth a.font c) r (s.wordAt (printWidths + zextByteLong c)) r (· = s.mem) := by
  subst hprint
  simp only [State.canFormat, canReadAll_cons_iff] at hr
  obtain ⟨-, -, hlow, hhigh, -, -, -, -, hword, -⟩ := hr
  exact ends_bind (ends_longAt hd hlow hhigh) (ends_wordAt hd hword)

include hflagsAt hflags in
theorem ends_fontFlags : s.Ends (· = s.mem) (fontFlags a.font c) r flags r (· = s.mem) := by
  subst hflags hflagsAt
  simp only [State.canFormat, canReadAll_cons_iff] at hr
  obtain ⟨-, -, -, -, hlow, hhigh, -, hbyte, -⟩ := hr
  exact ends_bind (ends_longAt hd hlow hhigh) (ends_byteOf hd hbyte)

include hchar in
theorem ends_fetchChar : s.Ends (· = s.mem) (fetchChar a.text j.index) r c r (· = s.mem) := by
  subst hchar
  simp only [State.canFormat, canReadAll_cons_iff] at hr
  obtain ⟨-, -, -, -, -, -, hbyte, -⟩ := hr
  exact ends_byteOf hd hbyte

include hflagsAt hchar hflags hformat

/-- A stop character ends the instruction with result 2. -/
theorem ends_txtBltChar_stop (hstop : flags.getLsbD 6 = true) :
    s.Ends (· = s.mem) (txtBltChar a j) r (.inr 2) r (· = s.mem) := by
  have hfont := ends_fontFlags hd hflagsAt hflags hr
  rw [txtBltChar, if_neg (by rw [hformat]; decide)]
  refine ends_bind (ends_fetchChar hd hchar hr) (ends_bind (ends_bind hfont (ends_pure _)) ?_)
  rw [if_pos hstop]
  exact ends_pure _

include hwidths hprint in
/-- A character that fits advances the arguments by its widths. -/
theorem ends_txtBltChar_fits (hstop : flags.getLsbD 6 = false)
    (hfits : (j.printPos + s.wordAt (printWidths + zextByteLong c)).toNat ≤ a.margin.toNat) :
    s.Ends (· = s.mem) (txtBltChar a j) r (.inl (j.formatted (zextByte (s.byteOf widths (zextByteLong c)))
      (s.wordAt (printWidths + zextByteLong c)) (flags.getLsbD 7))) r (· = s.mem) := by
  have hfont := ends_fontFlags hd hflagsAt hflags hr
  have hspacing := ends_spacingWidth hd hwidths hr
  have hprinter := ends_printerWidth hd hprint hr
  rw [← after_eq_formatted j hformat, txtBltChar, if_neg (by rw [hformat]; decide)]
  refine ends_bind (ends_fetchChar hd hchar hr) (ends_bind (ends_bind hfont (ends_pure _)) ?_)
  rw [if_neg (by rw [hstop]; decide)]
  refine ends_bind hprinter ?_
  have hwithin : ¬ a.margin < j.printPos + s.wordAt (printWidths + zextByteLong c) := not_lt.mpr hfits
  rw [if_neg hwithin, if_neg (by rw [hformat]; decide)]
  exact ends_bind hspacing (ends_bind hprinter (ends_bind (ends_bind hfont (ends_pure _)) (ends_pure _)))

end

/-! ### `TXTBLT` from its argument record (46_bitblt_txtblt.md R575, R576) -/

theorem doTxtblt_run {s : State} {ptr : Word} (hsp : s.sp.val = 5) (hptr : ptr = s.top 0) : doTxtblt s =
    (minimalStack >>= fun _ => txtBltSetup ptr >>= fun a => txtBltLoop a ptr blockBound s.textJob) (s.dropped 5) := by
  have hjob : s.textJob = { index := s.top 4, bitPos := s.top 3, printPos := s.top 2, count := s.top 1 } := by
    simp [State.textJob, State.top, hsp]
  rw [hjob, hptr, doTxtblt, popFive_run hsp.ge]

section

variable {s : State} {ptr : Word} {a : TxtBltArg} (hd : s.devices = []) (hc : s.mapCanonical = true)
  (hsp : s.sp.val = 5) (hptr : ptr = s.top 0) (haligned : ptr &&& 15 = 0)
  (hread : ∀ k : Nat, k < 13 → s.canRead (s.lengthen (ptr + BitVec.ofNat 16 k)) = true)
  (ha : a = txtBltArgOfWords ((List.range 13).map fun k => s.wordAt (s.lengthen (ptr + BitVec.ofNat 16 k))))
  (hlegal : a.legal = true)
include hd haligned hread ha hlegal

theorem ends_txtBltSetup : s.Ends (· = s.mem) (txtBltSetup ptr) (s.dropped 5) a (s.dropped 5) (· = s.mem) := by
  rw [txtBltSetup, if_neg (not_not.mpr haligned)]
  refine ends_bind (ends_readRecord (r := s.dropped 5) hd hread) ?_
  simp only [State.lengthen_dropped, ← ha, if_pos hlegal]
  exact ends_pure _

include hc hsp hptr in
/-- `TXTBLT` ends as its loop does, and no store is made where the loop makes none. -/
theorem exec_txtblt_loop {j : TxtBltJob} {result : Word}
    (hloop : s.Ends (· = s.mem) (txtBltLoop a ptr blockBound s.textJob) (s.dropped 5) () ((s.dropped 5).pushedJob j result)
      (· = s.mem)) :
    ∃ t, exec .txtblt s = .next t ∧ t.sp.val = 5 ∧ t.slot 0 = j.index ∧ t.slot 1 = j.bitPos ∧ t.slot 2 = j.printPos
      ∧ t.slot 3 = j.count ∧ t.slot 4 = result ∧ s.sameContext t ∧ s.sameProcess t ∧ s.memoryAfter t [] := by
  have hempty : (s.dropped 5).sp.val = 0 := by rw [State.dropped_sp_val]; omega
  have hsetup := ends_txtBltSetup hd haligned hread ha hlegal
  have hall : s.Ends (· = s.mem) (minimalStack >>= fun _ => txtBltSetup ptr >>= fun a => txtBltLoop a ptr blockBound s.textJob)
      (s.dropped 5) () ((s.dropped 5).pushedJob j result) (· = s.mem) :=
    ends_bind (ends_minimalStack hempty) (ends_bind hsetup hloop)
  obtain ⟨map, mem, hrun, hmap, hmem⟩ := hall s.map s.mem (sameAccess_self hc) rfl
  obtain ⟨htsp, hindex, hbitPos, hprintPos, hcount, hresult, hcontext, hprocess⟩ := pushedJob_holds hempty map mem rfl
  exact ⟨_, run_ok ((doTxtblt_run hsp hptr).trans hrun), htsp, hindex, hbitPos, hprintPos, hcount, hresult, hcontext, hprocess,
    sameTranslation_withMemory hmap _ _, hmem⟩

end

/-- The arguments left as they were, with a result above them. -/
theorem slots_of_textJob {s t : State} (h0 : t.slot 0 = s.textJob.index) (h1 : t.slot 1 = s.textJob.bitPos)
    (h2 : t.slot 2 = s.textJob.printPos) (h3 : t.slot 3 = s.textJob.count) : ∀ k, k < 4 → t.slot k = s.slot k
  | 0, _ => h0
  | 1, _ => h1
  | 2, _ => h2
  | 3, _ => h3

/-- Settles O59. No part of the run stores anything, so each clause is the loop's: past the end, at a stop character, and one
character followed by the end. -/
theorem textBlockTransfer : Obligations.TextBlockTransfer := by
  intro s ptr a c flags widths printWidths flagsAt hd hc hwdc hsp hptr haligned hread ha hlegal hwidths hprint hflagsAt
    hchar hflags
  have hempty : (s.dropped 5).sp.val = 0 := by rw [State.dropped_sp_val]; omega
  have hexec := @exec_txtblt_loop s ptr a hd hc hsp hptr haligned hread ha hlegal
  refine ⟨fun hpast => ?_, fun hwithin hformat hr => ?_⟩
  · obtain ⟨t, hnext, htsp, h0, h1, h2, h3, hresult, hrest⟩ := hexec (ends_txtBltLoop_past hempty hpast)
    exact ⟨t, hnext, htsp, slots_of_textJob h0 h1 h2 h3, hresult, hrest⟩
  · have hlast : ¬ a.last < s.textJob.index := not_lt.mpr hwithin
    refine ⟨fun hstop => ?_, fun hstop hfits hat hmax => ?_⟩
    · obtain ⟨t, hnext, htsp, h0, h1, h2, h3, hresult, hrest⟩ := hexec (ends_txtBltLoop_result hempty hlast
        (ends_txtBltChar_stop (j := s.textJob) (r := s.dropped 5) hd hflagsAt hchar hflags hformat hr hstop))
      exact ⟨t, hnext, htsp, slots_of_textJob h0 h1 h2 h3, hresult, hrest⟩
    · have hdone : a.last < a.last + 1 := by bv_omega
      have hnext := ends_txtBltChar_fits (j := s.textJob) (r := s.dropped 5) hd hwidths hprint hflagsAt hchar hflags hformat hr
        hstop hfits
      exact hexec (ends_txtBltLoop_next (r := s.dropped 5) hwdc hlast hnext (ends_txtBltLoop_past hempty (hat ▸ hdone)))

end Sys2Proof.Machine

namespace Sys2Proof.Machine

-- As in the tests: many kernel checks at once need more threads than a compile of the whole text may have.
set_option Elab.async false

/-! ### Frame allocation (47_control_transfers.md R599 to R602) -/

/-- An empty free list faults with the index asked for (47_control_transfers.md R599). -/
theorem alloc_empty {s : State} {fsi : Word} (hd : s.devices = []) (hr : s.canRead (s.lengthen (avEntry fsi)) = true)
    (htag : s.wordAt (s.lengthen (avEntry fsi)) &&& 3 = 1) :
    alloc fsi s = .error (frameFault fsi) (s.loaded (s.lengthen (avEntry fsi))) := by
  have hfind : findFrame 257 fsi s =
      .ok (fsi, s.wordAt (s.lengthen (avEntry fsi))) (s.loaded (s.lengthen (avEntry fsi))) := by
    unfold findFrame
    rw [bind_ok (memReadMds_run hd hr), htag, if_neg (by decide)]
    rfl
  unfold alloc
  rw [bind_ok hfind]
  dsimp only
  rw [htag, if_pos rfl]
  rfl

/-- Settles O44. -/
theorem frameAllocation : Obligations.FrameAllocation := by
  intro s slot item hd hc hsp
  have hpop := pop_run (s := s) hsp
  refine ⟨fun hslot hw hitem => ⟨fun htag hr => ?_, fun htag => ?_⟩, fun hfree => ?_⟩
  · subst hslot
    have halloc := alloc_run (s := s.dropped 1) (fsi := s.top 0) hd hc hw hitem.symm htag hr
    refine run_ok ((bind_ok hpop).trans ((bind_ok halloc).trans (push_run ?_)))
    have := s.sp.isLt
    rw [State.stored_sp, State.loaded_sp, State.loaded_sp, State.dropped_sp_val]
    omega
  · subst hslot
    have halloc := alloc_empty (s := s.dropped 1) (fsi := s.top 0) hd (canRead_of_canWrite hw) (hitem ▸ htag)
    exact run_error ((bind_ok hpop).trans (bind_error halloc))
  · exact run_ok ((bind_ok hpop).trans (freeFrame_run (s := s.dropped 1) hd hc hfree))

/-! ### Stores that follow one another -/

theorem State.memoryWith_concat (s : State) (stores : List (LongWord × Word)) (va : LongWord) (v : Word) :
    s.memoryWith (stores ++ [(va, v)]) = writeReal (s.memoryWith stores) (s.realAddress va) v := by
  simp [State.memoryWith, storesAt]

section

variable {s r : State} {stores : List (LongWord × Word)} {va : LongWord} {p v : Word} (hd : r.devices = [])
include hd

/-- One more store, at the end of those made. -/
theorem ends_memWrite_concat (hw : s.canWrite va = true) :
    s.Ends (· = s.memoryWith stores) (memWrite va v) r () r (· = s.memoryWith (stores ++ [(va, v)])) :=
  ends_memWrite hd hw fun mem hm => by rw [hm, State.memoryWith_concat]

theorem ends_memWriteMds_concat (hmds : r.mds = s.mds) (hw : s.canWrite (s.lengthen p) = true) :
    s.Ends (· = s.memoryWith stores) (memWriteMds p v) r () r (· = s.memoryWith (stores ++ [(s.lengthen p, v)])) := by
  refine ends_getState fun map mem => ?_
  rw [show (r.withMemory map mem).lengthen p = s.lengthen p from congrArg (mkLong p) hmds]
  exact ends_memWrite_concat hd hw

end

/-! ### State vectors (47_control_transfers.md R650 to R655) -/

/-- What `SaveStack` stores at a state vector (47_control_transfers.md R652). -/
def State.vectorStores (s : State) (p : LongWord) : List (LongWord × Word) :=
  ((List.range (min (s.sp.val + 2) 14)).map fun k => (p + BitVec.ofNat 32 k, s.slot k))
    ++ [(p + 14, bytePair s.brk (BitVec.ofNat 8 s.sp.val))]

section

variable {s r : State} {p : LongWord} (hd : r.devices = [])
include hd

theorem ends_saveWords_concat {stores : List (LongWord × Word)} {n i : Nat}
    (hw : ∀ k ∈ List.range' i n, s.canWrite (p + BitVec.ofNat 32 k) = true) :
    s.Ends (· = s.memoryWith stores) (saveWords p n i) r () r
      (· = s.memoryWith (stores ++ (List.range' i n).map fun k => (p + BitVec.ofNat 32 k, r.slot k))) := by
  induction n generalizing i stores with
  | zero => simpa [saveWords] using ends_pure (s := s) (r := r) (P := (· = s.memoryWith stores)) ()
  | succ n ih =>
    rw [List.range'_succ] at hw ⊢
    obtain ⟨hfirst, hrest⟩ := List.forall_mem_cons.mp hw
    rw [List.map_cons, List.append_cons]
    exact ends_getState fun _ _ => ends_bind (ends_memWrite_concat hd hfirst) (ih hrest)

/-- `SaveStack` (47_control_transfers.md R652). -/
theorem ends_saveStack_concat (hw : ∀ k, k < 15 → s.canWrite (p + BitVec.ofNat 32 k) = true) :
    s.Ends (· = s.mem) (saveStack p) r () { r with sp := 0, savedSP := 0, brk := 0 }
      (· = s.memoryWith (r.vectorStores p)) := by
  refine ends_getState fun map mem => ends_bind (ends_saveWords_concat (stores := []) hd fun k hk => ?_) ?_
  · have : min ((r.withMemory map mem).sp.val + 2) 14 ≤ 14 := Nat.min_le_right _ _
    have := List.mem_range'_1.mp hk
    exact hw k (by omega)
  · rw [← List.range_eq_range']
    exact ends_bind (ends_memWrite_concat hd (hw 14 (by omega)))
      (ends_update (f := fun s => { s with sp := 0, savedSP := 0, brk := 0 }))

/-- Words loaded into the stack: those at the state vector in `n` slots from `i` on, and what they held in the others. -/
theorem ends_loadWords {n i : Nat} (hr : ∀ k ∈ List.range' i n, s.canRead (p + BitVec.ofNat 32 k) = true) :
    ∃ stack, s.Ends (· = s.mem) (loadWords p n i) r () { r with stack := stack } (· = s.mem)
      ∧ ∀ k, k < 14 → State.slot { r with stack := stack } k =
          if i ≤ k ∧ k < i + n then s.wordAt (p + BitVec.ofNat 32 k) else r.slot k := by
  induction n generalizing i r with
  | zero => exact ⟨r.stack, ends_pure (), fun k _ => (if_neg (by omega)).symm⟩
  | succ n ih =>
    rw [List.range'_succ] at hr
    obtain ⟨hfirst, hrest⟩ := List.forall_mem_cons.mp hr
    obtain ⟨stack, hrun, hslot⟩ :=
      ih (r := { r with stack := r.stack.setIfInBounds i (s.wordAt (p + BitVec.ofNat 32 i)) }) hd hrest
    refine ⟨stack, ends_bind (ends_wordAt hd hfirst) (ends_bind (ends_update
      (f := fun t => { t with stack := t.stack.setIfInBounds i (s.wordAt (p + BitVec.ofNat 32 i)) })) hrun), fun k hk => ?_⟩
    refine (hslot k hk).trans ?_
    have hset : State.slot { r with stack := r.stack.setIfInBounds i (s.wordAt (p + BitVec.ofNat 32 i)) } k =
        if k = i then s.wordAt (p + BitVec.ofNat 32 k) else r.slot k := by
      rw [State.slot_lt _ hk, State.slot_lt _ hk, Vector.getElem_setIfInBounds]
      grind
    rw [hset]
    grind

/-- `LoadStack` of a vector whose stack pointer is one (47_control_transfers.md R653). -/
theorem ends_loadStack {stkptr : Nat} (hstk : stkptr = (rightByte (s.wordAt (p + 14))).toNat) (hlt : stkptr < 15)
    (hr : ∀ k, k < 15 → s.canRead (p + BitVec.ofNat 32 k) = true) :
    ∃ stack, s.Ends (· = s.mem) (loadStack p) r () { r with
        stack := stack, sp := ⟨stkptr, hlt⟩, savedSP := ⟨stkptr, hlt⟩, brk := leftByte (s.wordAt (p + 14)) } (· = s.mem)
      ∧ ∀ k, k < 14 → State.slot { r with stack := stack } k =
          if k < min (stkptr + 2) 14 then s.wordAt (p + BitVec.ofNat 32 k) else r.slot k := by
  obtain ⟨stack, hload, hslot⟩ := ends_loadWords (s := s) (p := p) hd (n := min (stkptr + 2) 14) (i := 0) fun k hk => by
    have := List.mem_range'_1.mp hk
    exact hr k (by omega)
  refine ⟨stack, ?_, fun k hk => by simpa using hslot k hk⟩
  subst hstk
  unfold loadStack
  refine ends_bind (ends_wordAt hd (hr 14 (by omega))) ?_
  dsimp only
  rw [dif_pos hlt]
  exact ends_bind hload (ends_update (f := fun t => { t with
    sp := ⟨_, hlt⟩, savedSP := ⟨_, hlt⟩, brk := leftByte (s.wordAt (p + 14)) }))

end

section

variable {s : State} {alpha : Byte} {p : LongWord} (hd : s.devices = []) (hc : s.mapCanonical = true)
  (hp : p = s.lengthen (s.lf + zextByte alpha))
include hd hc hp

/-- `DSK` (47_control_transfers.md R652, R654). -/
theorem exec_dsk (hw : ∀ k, k < 15 → s.canWrite (p + BitVec.ofNat 32 k) = true) :
    ∃ map, exec (.dsk alpha) s = .next (State.withMemory { s with sp := 0, savedSP := 0, brk := 0 } map
      (s.memoryWith (s.vectorStores p))) ∧ s.sameAccess map := by
  subst hp
  have hrun : s.Ends (· = s.mem) (doDsk alpha) s () { s with sp := 0, savedSP := 0, brk := 0 } (· = s.memoryWith _) :=
    ends_getState fun _ _ => ends_saveStack_concat hd hw
  obtain ⟨map, _, hok, hmap, rfl⟩ := hrun s.map s.mem (sameAccess_self hc) rfl
  exact ⟨map, run_ok hok, hmap⟩

/-- `LSK` (47_control_transfers.md R653, R655). -/
theorem exec_lsk {stkptr : Nat} (hstk : stkptr = (rightByte (s.wordAt (p + 14))).toNat) (hlt : stkptr < 15)
    (hr : ∀ k, k < 15 → s.canRead (p + BitVec.ofNat 32 k) = true) :
    ∃ map stack, exec (.lsk alpha) s = .next (State.withMemory { s with
        stack := stack, sp := ⟨stkptr, hlt⟩, savedSP := ⟨stkptr, hlt⟩, brk := leftByte (s.wordAt (p + 14)) } map s.mem)
      ∧ s.sameAccess map
      ∧ ∀ k, k < 14 → State.slot { s with stack := stack } k =
          if k < min (stkptr + 2) 14 then s.wordAt (p + BitVec.ofNat 32 k) else s.slot k := by
  subst hp
  obtain ⟨stack, hload, hslot⟩ := ends_loadStack (r := s) hd hstk hlt hr
  have hrun : s.Ends (· = s.mem) (doLsk alpha) s () _ (· = s.mem) := ends_getState fun _ _ => hload
  obtain ⟨map, _, hok, hmap, rfl⟩ := hrun s.map s.mem (sameAccess_self hc) rfl
  exact ⟨map, stack, run_ok hok, hmap, hslot⟩

end

/-- Settles O45. -/
theorem stateVectors : Obligations.StateVectors := by
  intro alpha s p n hd hc hp
  refine ⟨fun hn hw => ?_, fun stkptr hstk hlt hn hr => ?_⟩
  · subst hn
    obtain ⟨map, hexec, hmap⟩ := exec_dsk hd hc hp hw
    exact ⟨_, hexec, rfl, rfl, rfl, rfl, ⟨rfl, rfl, rfl, rfl, rfl, rfl⟩, sameProcess_withMemory s s.map s.mem,
      sameTranslation_withMemory hmap _ _, rfl⟩
  · subst hn
    obtain ⟨map, stack, hexec, hmap, hslot⟩ := exec_lsk hd hc hp hstk hlt hr
    exact ⟨_, hexec, rfl, rfl, rfl, ⟨rfl, rfl, rfl, rfl, rfl, rfl⟩, sameProcess_withMemory s s.map s.mem,
      ⟨sameTranslation_withMemory hmap _ _, rfl⟩, hslot⟩

/-! ### What was saved is found again (47_control_transfers.md R652, R653) -/

theorem rightByte_bytePair (left right : Byte) : rightByte (bytePair left right) = right := by
  exact BitVec.extractLsb'_append_eq_right

theorem leftByte_bytePair (left right : Byte) : leftByte (bytePair left right) = left := by
  exact BitVec.extractLsb'_append_eq_left

/-- Stores at other real addresses leave a word. -/
theorem readReal_storesAt_other {stores : List (Nat × Word)} {m : List Host.Cell} {a : Nat} (h : ∀ p ∈ stores, a ≠ p.1) :
    readReal (storesAt m stores) a = readReal m a := by
  induction stores generalizing m with
  | nil => rfl
  | cons p rest ih =>
    obtain ⟨hp, hrest⟩ := List.forall_mem_cons.mp h
    rw [storesAt, List.foldl_cons, ← storesAt, ih hrest, readReal_writeReal_other _ _ hp]

/-- Each of the words stored at different real addresses is found there. -/
theorem readReal_storesAt_mem {stores : List (Nat × Word)} {m : List Host.Cell} {a : Nat} {v : Word}
    (hm : Memory.wf m = true) (hbound : ∀ p ∈ stores, p.1 < 256 * Config.realPages)
    (hdistinct : (stores.map Prod.fst).Nodup) (h : (a, v) ∈ stores) : readReal (storesAt m stores) a = v := by
  induction stores generalizing m with
  | nil => exact absurd h List.not_mem_nil
  | cons p rest ih =>
    obtain ⟨hp, hrest⟩ := List.forall_mem_cons.mp hbound
    obtain ⟨hnew, hdistinct'⟩ := List.nodup_cons.mp hdistinct
    rw [storesAt, List.foldl_cons, ← storesAt]
    rcases List.mem_cons.mp h with rfl | h
    · rw [readReal_storesAt_other fun q hq he => hnew (List.mem_map.mpr ⟨q, hq, he.symm⟩), readReal_writeReal_self v hm hp]
    · exact ih (writeReal_wf _ hm hp) hrest hdistinct' h

/-- Words stored at different virtual addresses, since no two pages share a real page (20_memory.md R107). -/
theorem readReal_memoryWith {s : State} {stores : List (LongWord × Word)} {va : LongWord} {v : Word} (hi : s.Inv)
    (hw : ∀ p ∈ stores, s.canWrite p.1 = true) (hdistinct : (stores.map Prod.fst).Nodup) (h : (va, v) ∈ stores) :
    readReal (s.memoryWith stores) (s.realAddress va) = v := by
  obtain ⟨hwf, -, -, hinj, -⟩ := hi
  refine readReal_storesAt_mem hwf (List.forall_mem_map.mpr fun p hp => translate_bound (translate_of_canWrite (hw p hp))) ?_
    (List.mem_map_of_mem (f := fun p : LongWord × Word => (s.realAddress p.1, p.2)) h)
  have hfirst : Prod.fst ∘ (fun p : LongWord × Word => (s.realAddress p.1, p.2)) = s.realAddress ∘ Prod.fst := rfl
  rw [List.map_map, hfirst, ← List.map_map]
  have hread : ∀ va' ∈ stores.map Prod.fst, s.canRead va' = true :=
    List.forall_mem_map.mpr fun p hp => canRead_of_canWrite (hw p hp)
  exact hdistinct.map_on fun x hx y hy he => realAddress_injective hinj (hread x hx) (hread y hy) he

/-- The words of a state vector stand at different addresses. -/
theorem vectorStores_distinct (s : State) (p : LongWord) : ((s.vectorStores p).map Prod.fst).Nodup := by
  have haddresses : (s.vectorStores p).map Prod.fst =
      (List.range (min (s.sp.val + 2) 14) ++ [14]).map fun k => p + BitVec.ofNat 32 k := by
    simp [State.vectorStores]
  have hmem : ∀ k ∈ List.range (min (s.sp.val + 2) 14) ++ [14], k < 15 := by
    simp only [List.mem_append, List.mem_range, List.mem_singleton]
    omega
  rw [haddresses]
  refine List.Nodup.map_on (fun j hj k hk he => ?_) ?_
  · have hj := hmem j hj
    have hk := hmem k hk
    have hnat := congrArg BitVec.toNat (add_left_cancel he)
    rw [BitVec.toNat_ofNat, BitVec.toNat_ofNat] at hnat
    omega
  · exact List.nodup_range.append (List.nodup_singleton 14) (List.disjoint_singleton.mpr (by rw [List.mem_range]; omega))

/-- After `DSK` every word that it stored is found at its address. -/
theorem wordAt_of_dsk {s t : State} {alpha : Byte} {p : LongWord} (hd : s.devices = []) (hi : s.Inv)
    (hp : p = s.lengthen (s.lf + zextByte alpha)) (hw : ∀ k, k < 15 → s.canWrite (p + BitVec.ofNat 32 k) = true)
    (h : exec (.dsk alpha) s = .next t) :
    t.devices = [] ∧ t.mapCanonical = true ∧ p = t.lengthen (t.lf + zextByte alpha)
      ∧ (∀ va, t.canRead va = s.canRead va) ∧ ∀ q ∈ s.vectorStores p, t.wordAt q.1 = q.2 := by
  have hc : s.mapCanonical = true := by
    obtain ⟨-, hc, -⟩ := hi
    exact hc
  obtain ⟨map, hdsk, hmap⟩ := exec_dsk hd hc hp hw
  obtain rfl := Host.Outcome.next.inj (h.symm.trans hdsk)
  have hlast : s.canWrite (p + 14) = true := hw 14 (by omega)
  have hwrites : ∀ q ∈ s.vectorStores p, s.canWrite q.1 = true := by
    refine List.forall_mem_append.mpr ⟨List.forall_mem_map.mpr fun k hk => hw k ?_, List.forall_mem_singleton.mpr hlast⟩
    have := List.mem_range.mp hk
    omega
  exact ⟨hd, hmap.2, hp, canRead_withMemory hmap _ _, fun q hq =>
    (wordAt_withMemory hmap _ _ _).trans (readReal_memoryWith hi hwrites (vectorStores_distinct s p) hq)⟩

/-- Settles O46. -/
theorem savedStackIsRestored : Obligations.SavedStackIsRestored := by
  intro alpha s t hd hi hexec hw
  obtain ⟨hd', hc', hp, hread, hword⟩ := wordAt_of_dsk hd hi rfl hw hexec
  obtain ⟨hslots, hlast⟩ := List.forall_mem_append.mp hword
  have hlast := List.forall_mem_singleton.mp hlast
  have hsp := s.sp.isLt
  have hright : s.sp.val = (rightByte (t.wordAt (s.lengthen (s.lf + zextByte alpha) + 14))).toNat := by
    rw [hlast, rightByte_bytePair, BitVec.toNat_ofNat]
    omega
  obtain ⟨map, stack, hlsk, -, hslot⟩ := exec_lsk hd' hc' hp hright hsp fun k hk =>
    (hread _).trans (canRead_of_canWrite (hw k hk))
  refine ⟨_, hlsk, rfl, (congrArg leftByte hlast).trans (leftByte_bytePair _ _), fun k hk => ?_⟩
  have hsaved := List.forall_mem_map.mp hslots k (List.mem_range.mpr hk)
  refine (hslot k (by omega)).trans ?_
  rw [if_pos hk]
  exact hsaved

/-! ### What a transfer of control leaves (47_control_transfers.md R610, 60_exceptions.md R790) -/

/-- The registers after a transfer: the new context, and `XTS` shifted. -/
def State.entered (r : State) (lf gf : Word) (cb : LongWord) (pc : Word) : State :=
  { r with lf := lf, gf := gf, cb := cb, pc := pc, xts := r.xts >>> 1 }

theorem sameProcess_refl (s : State) : s.sameProcess s := by
  simp [State.sameProcess]

section

variable {s r : State} {lf gf pc : Word} {cb : LongWord} {stores : List (LongWord × Word)}
  (hstack : r.stack = s.stack) (hxts : r.xts = s.xts) (hprocess : s.sameProcess r)
include hstack hxts hprocess

theorem transferred_entered {map : List (Nat × MapEntry)} (hmap : s.sameAccess map) :
    s.transferred ((r.entered lf gf cb pc).withMemory map (s.memoryWith stores)) lf gf pc cb stores :=
  ⟨rfl, rfl, rfl, rfl, hstack, congrArg (fun x : Word => x >>> 1) hxts, hprocess, sameTranslation_withMemory hmap _ _, rfl⟩

/-- An instruction whose routine ends in a new context has made the transfer. -/
theorem run_transferred {m : M Unit} (hc : s.mapCanonical = true)
    (h : s.Ends (· = s.mem) m s () (r.entered lf gf cb pc) (· = s.memoryWith stores)) :
    ∃ t, run m s = .next t ∧ t.sp = r.sp ∧ t.wdc = r.wdc ∧ s.transferred t lf gf pc cb stores := by
  obtain ⟨map, _, hrun, hmap, rfl⟩ := h s.map s.mem (sameAccess_self hc) rfl
  exact ⟨_, run_ok hrun, rfl, rfl, transferred_entered hstack hxts hprocess hmap⟩

end

/-! ### `XFER` through a link that is not indirect (47_control_transfers.md R610) -/

section

variable {s r r1 : State} {P P1 P2 : List Host.Cell → Prop} {dst : LongWord} {src frame gf pc : Word} {cb : LongWord}
  {type : XferType} {free : Bool}

/-- `XFER` up to its last step, the check for xfer traps: what the link's arm does, the frame left freed where it is to be, and
the new context. -/
theorem xfer_eq_check (hlink : controlLinkType dst ≠ .indirect)
    (harm : s.Ends P (if controlLinkType dst = .procedure then xferProcedure dst dst src else xferFrame dst dst src type)
      r (frame, pc) r1 P1)
    (hfree : s.Ends P1 (if free = true then freeFrame r1.lf else pure ()) r1 () r1 P2)
    {map : List (Nat × MapEntry)} {mem : List Host.Cell} (hs : s.sameAccess map) (hP : P mem) :
    ∃ map' mem', xfer dst src type free (r.withMemory map mem) =
        checkForXferTraps dst type (State.withMemory { r1 with lf := frame, pc := pc } map' mem')
      ∧ s.sameAccess map' ∧ P2 mem' := by
  obtain ⟨map1, mem1, hrun1, hs1, hP1⟩ := harm map mem hs hP
  obtain ⟨map2, mem2, hrun2, hs2, hP2⟩ := hfree map1 mem1 hs1 hP1
  refine ⟨map2, mem2, ?_, hs2, hP2⟩
  have hend : (getState >>= fun s => if free = true then freeFrame s.lf >>= fun _ =>
        update (fun s => { s with lf := frame, pc := pc }) >>= fun _ => checkForXferTraps dst type
      else update (fun s => { s with lf := frame, pc := pc }) >>= fun _ => checkForXferTraps dst type)
      (r1.withMemory map1 mem1) =
      checkForXferTraps dst type (State.withMemory { r1 with lf := frame, pc := pc } map2 mem2) := by
    cases free with
    | true => exact (bind_ok hrun2).trans (update_bind _ _ _)
    | false =>
      obtain ⟨-, hkept⟩ := EStateM.Result.ok.inj hrun2
      exact congrArg (fun s : State => checkForXferTraps dst type { s with lf := frame, pc := pc }) hkept
  unfold xfer
  rw [bind_ok (resolveLink_direct hlink)]
  dsimp only
  by_cases hp : controlLinkType dst = .procedure
  · rw [if_pos hp] at hrun1 ⊢
    exact (bind_ok hrun1).trans hend
  · rw [if_neg hp] at hrun1 ⊢
    exact (bind_ok hrun1).trans hend

/-- `XFER` where no xfer trap is due (60_exceptions.md R790). -/
theorem ends_xfer_direct (hlink : controlLinkType dst ≠ .indirect)
    (harm : s.Ends P (if controlLinkType dst = .procedure then xferProcedure dst dst src else xferFrame dst dst src type)
      r (frame, pc) r1 P1)
    (hfree : s.Ends P1 (if free = true then freeFrame r1.lf else pure ()) r1 () r1 P2) (hx : r1.xts.getLsbD 0 = false) :
    s.Ends P (xfer dst src type free) r () { r1 with lf := frame, pc := pc, xts := r1.xts >>> 1 } P2 := by
  intro map mem hs hP
  obtain ⟨map', mem', hrun, h⟩ := xfer_eq_check hlink harm hfree hs hP
  exact ⟨map', mem', hrun.trans (checkForXferTraps_off hx), h⟩

/-- `XFER` through a procedure descriptor (47_control_transfers.md R610). -/
theorem ends_xfer_of_procedure (hlink : controlLinkType dst = .procedure)
    (harm : s.Ends P (xferProcedure dst dst src) r (frame, pc) { r with gf := gf, cb := cb } P1)
    (hx : r.xts.getLsbD 0 = false) : s.Ends P (xfer dst src type false) r () (r.entered frame gf cb pc) P1 :=
  ends_xfer_direct (r1 := { r with gf := gf, cb := cb }) (by rw [hlink]; decide) (by rwa [if_pos hlink]) (ends_pure ()) hx

/-- `CheckForXferTraps` with the low bit of `XTS` set (60_exceptions.md R790). -/
theorem checkForXferTraps_armed {map : List (Nat × MapEntry)} (mem : List Host.Cell) (hs : s.sameAccess map)
    (hd : r.devices = []) (hx : r.xts.getLsbD 0 = true) (hr : s.canRead (r.lengthen (r.gf - 3)) = true) :
    ∃ map', s.sameAccess map' ∧ checkForXferTraps dst type (r.withMemory map mem) =
      if (readReal mem (s.realAddress (r.lengthen (r.gf - 3)))).getLsbD 1 then
        .error (.xferTrap dst type) (State.withMemory { r with xts := r.xts >>> 1 } map' mem)
      else .ok () (r.withMemory map' mem) := by
  have hread : s.Ends (· = mem) (memReadMds (r.gf - 3)) r (readReal mem (s.realAddress (r.lengthen (r.gf - 3)))) r (· = mem) :=
    ends_getState fun _ _ => ends_memRead_exact hd hr
  obtain ⟨map', _, hrun, hs', rfl⟩ := hread map mem hs rfl
  refine ⟨map', hs', ?_⟩
  unfold checkForXferTraps
  rw [getState_bind, if_pos (show (r.withMemory map _).xts.getLsbD 0 = true from hx)]
  refine (bind_ok hrun).trans ?_
  split_ifs <;> rfl

end

/-! ### What is found after a store -/

section

variable {s t : State} {gf slot frame next pc : Word} {cb : LongWord} {va : LongWord} {v : Word}

/-- Where a module's code base stands depends on the translation, on memory and on `MDS`. -/
theorem hasModule_congr (htrans : s.sameTranslation t) (hmem : t.mem = s.mem) (hmds : t.mds = s.mds)
    (h : s.hasModule gf cb) : t.hasModule gf cb := by
  have hlen : ∀ p, t.lengthen p = s.lengthen p := fun p => by rw [State.lengthen, hmds]; rfl
  have hword : ∀ va, t.wordAt va = s.wordAt va := fun va => (wordAt_congr htrans hmem.symm va).symm
  have hread : ∀ va, t.canRead va = s.canRead va := fun va => by rw [State.canRead, ← htrans va .read]; rfl
  simpa only [State.hasModule, State.canReadAll, State.longAt, hlen, hword, hread] using h

/-- Where a body stands, with the free list of its frame size, depends on the translation, on memory and on `MDS`. -/
theorem hasBody_congr (htrans : s.sameTranslation t) (hmem : t.mem = s.mem) (hmds : t.mds = s.mds)
    (h : s.hasBody cb pc slot frame next) : t.hasBody cb pc slot frame next := by
  have hlen : ∀ p, t.lengthen p = s.lengthen p := fun p => by rw [State.lengthen, hmds]; rfl
  have hword : ∀ va, t.wordAt va = s.wordAt va := fun va => (wordAt_congr htrans hmem.symm va).symm
  have hread : ∀ va, t.canRead va = s.canRead va := fun va => by rw [State.canRead, ← htrans va .read]; rfl
  have hwrite : ∀ va, t.canWrite va = s.canWrite va := fun va => by rw [State.canWrite, ← htrans va .write]; rfl
  simpa only [State.hasBody, State.canReadAll, State.canWriteAll, hlen, hword, hread, hwrite] using h

theorem longAt_stored (hc : s.mapCanonical = true) (hw : s.canWrite va = true) (va' : LongWord) :
    (s.stored va v).longAt va' = mkLong (readReal (s.memoryWith [(va, v)]) (s.realAddress va'))
      (readReal (s.memoryWith [(va, v)]) (s.realAddress (va' + 1))) := by
  rw [State.longAt, State.wordAt, State.wordAt, realAddress_stored hc hw, realAddress_stored hc hw]
  rfl

theorem framedIn_stored (hc : s.mapCanonical = true) (hw : s.canWrite va = true)
    (h : (s.stored va v).hasFrame frame gf cb pc) : s.framedIn (· = s.memoryWith [(va, v)]) s.mds frame gf cb pc := by
  rintro _ rfl
  exact hasFrame_congr (s := s.stored va v) (t := { s with mem := s.memoryWith [(va, v)] })
    (fun va' op => translate_stored hc hw va' op) rfl (State.stored_mds s va v).symm h

end

/-! ### The entry of a procedure after a store (47_control_transfers.md R610, R616) -/

/-- The registers of `r` with the memory of `s` after one store. -/
def State.afterStore (s r : State) (va : LongWord) (v : Word) : State := r.withMemory s.map (s.memoryWith [(va, v)])

section

variable {s r : State} {gf slot frame next src pc : Word} {cb dst link : LongWord} {va : LongWord} {v : Word}

theorem entryStores_congr {t : State} (hmds : t.mds = s.mds) :
    t.entryStores slot next frame gf src = s.entryStores slot next frame gf src := by
  simp only [State.entryStores, State.lengthen, hmds]

/-- What a routine does from that memory, told from `s`. -/
theorem ends_of_afterStore {α : Type} {a : α} {m : M α} {r' : State} {stores : List (LongWord × Word)}
    (h : (s.afterStore r va v).Ends (· = (s.afterStore r va v).mem) m (s.afterStore r va v) a r'
      (· = (s.afterStore r va v).memoryWith stores)) :
    s.Ends (· = s.memoryWith [(va, v)]) m r a r' (· = s.memoryWith ((va, v) :: stores)) := h

theorem ends_enterProcedure (hd : s.devices = []) (hb : s.hasBody s.cb pc slot frame next) :
    s.Ends (· = s.mem) (enterProcedure pc gf src) s frame s (· = s.memoryWith (s.entryStores slot next frame gf src)) := by
  obtain ⟨-, htag, hreads, hslot, hitem, hnext, hwrites⟩ := hb
  simp only [State.canReadAll, State.canWriteAll, List.all_cons, List.all_nil, Bool.and_true, Bool.and_eq_true]
    at hreads hwrites
  obtain ⟨hcode, hframe⟩ := hreads
  obtain ⟨hwSlot, hwGf, hwLink⟩ := hwrites
  subst hslot
  have hread : s.Ends (· = s.mem) (readCode (pc >>> 1)) s (s.wordAt (s.cb + zextLong (pc >>> 1))) s (· = s.mem) :=
    ends_getState fun _ _ => ends_wordAt hd hcode
  exact ends_bind hread (ends_bind (ends_alloc hd hwSlot hframe htag hitem hnext)
    (ends_bind (ends_memWriteMds_exact gf hd hwGf) (ends_bind (ends_memWriteMds_exact src hd hwLink) (ends_pure _))))

variable (hd : r.devices = []) (hc : s.mapCanonical = true) (hmds : r.mds = s.mds) (hw : s.canWrite va = true)
include hd hc hmds hw

theorem ends_enterProcedure_stored (hb : (s.stored va v).hasBody r.cb pc slot frame next) :
    s.Ends (· = s.memoryWith [(va, v)]) (enterProcedure pc gf src) r frame r
      (· = s.memoryWith ((va, v) :: s.entryStores slot next frame gf src)) := by
  have hbody : (s.afterStore r va v).hasBody r.cb pc slot frame next :=
    hasBody_congr (fun va' op => translate_stored hc hw va' op) rfl (hmds.trans (State.stored_mds s va v).symm) hb
  rw [← entryStores_congr (s := s) (t := s.afterStore r va v) hmds]
  exact ends_of_afterStore (ends_enterProcedure hd hbody)

theorem ends_xferProcedure_stored (hgf : gf = lowHalf link &&& 0xFFFE) (hm : (s.stored va v).hasModule gf cb)
    (hb : (s.stored va v).hasBody cb (highHalf link) slot frame next) :
    s.Ends (· = s.memoryWith [(va, v)]) (xferProcedure dst link src) r (frame, highHalf link + 1) { r with gf := gf, cb := cb }
      (· = s.memoryWith ((va, v) :: s.entryStores slot next frame gf src)) := by
  have htrans : (s.stored va v).sameTranslation (s.afterStore r va v) := fun va' op => translate_stored hc hw va' op
  have hmds' : (s.afterStore r va v).mds = (s.stored va v).mds := hmds.trans (State.stored_mds s va v).symm
  rw [← entryStores_congr (s := s) (t := s.afterStore r va v) hmds]
  exact ends_of_afterStore (ends_xferProcedure hd hgf (hasModule_congr htrans rfl hmds' hm) (hasBody_congr htrans rfl hmds' hb))

end

/-! ### Calls (47_control_transfers.md R616 to R621) -/

/-- The stores of a call: the caller's `PC`, and those of the procedure's entry (47_control_transfers.md R610, R617). -/
def State.callStores (s : State) (slot next frame gf : Word) : List (LongWord × Word) :=
  (s.lengthen (s.lf - 1), s.pc) :: s.entryStores slot next frame gf s.lf

section

variable {s : State} {link : LongWord} {gf slot frame next : Word} {cb : LongWord}

theorem ends_popLong (h : 2 ≤ s.sp.val) :
    s.Ends (· = s.mem) popLong s (s.topLong 0) (s.dropped 2) (· = s.mem) :=
  ends_registers fun map mem => popLong_topLong (s := s.withMemory map mem) h

variable (hd : s.devices = [])
include hd

/-- `FetchLink` (47_control_transfers.md R630). -/
theorem ends_fetchLink {k : Byte} (h : s.canReadLink k) :
    s.Ends (· = s.mem) (fetchLink k) s (s.longAt (s.linkAddress k)) s (· = s.mem) := by
  simp only [State.canReadLink, State.canReadAll, List.all_cons, List.all_nil, Bool.and_true, Bool.and_eq_true] at h
  obtain ⟨hgf, hlow, hhigh⟩ := h
  have hword : s.Ends (· = s.mem) (memReadMds (s.gf - 3)) s (s.wordAt (s.lengthen (s.gf - 3))) s (· = s.mem) :=
    ends_getState fun _ _ => ends_wordAt hd hgf
  refine ends_getState fun _ _ => ends_bind hword ?_
  unfold State.linkAddress at hlow hhigh ⊢
  split_ifs at hlow hhigh ⊢
  · exact ends_longAt hd hlow hhigh
  · exact ends_getState fun _ _ => ends_longAt hd hlow hhigh

variable (hc : s.mapCanonical = true) (hx : s.xts.getLsbD 0 = false) (hw : s.canWrite (s.lengthen (s.lf - 1)) = true)
include hc hx hw

section

variable (hbit : link.getLsbD 0 = true) (hgf : gf = lowHalf link &&& 0xFFFE)
  (hm : (s.stored (s.lengthen (s.lf - 1)) s.pc).hasModule gf cb)
  (hb : (s.stored (s.lengthen (s.lf - 1)) s.pc).hasBody cb (highHalf link) slot frame next)
include hbit hgf hm hb

/-- `Call` of a procedure, after `n` words are popped (47_control_transfers.md R610, R617). -/
theorem ends_call (n : Nat) : s.Ends (· = s.mem) (call link) (s.dropped n) ()
    ((s.dropped n).entered frame gf cb (highHalf link + 1)) (· = s.memoryWith (s.callStores slot next frame gf)) := by
  refine ends_getState fun _ _ => ends_bind (ends_memWriteMds_concat (stores := []) hd rfl hw) ?_
  exact ends_xfer_of_procedure (controlLinkType_procedure hbit)
    (ends_xferProcedure_stored (r := s.dropped n) hd hc rfl hw hgf hm hb) hx

/-- `Call` through an indirect link (47_control_transfers.md R613). -/
theorem ends_call_indirect {ptr : LongWord} {n : Nat} (hsp : s.sp.val - n < 13) (htag : ptr.extractLsb' 0 2 = 2#2)
    (hr : s.canReadAll [s.lengthen (lowHalf ptr), s.lengthen (lowHalf ptr) + 1] = true)
    (hlink : (s.stored (s.lengthen (s.lf - 1)) s.pc).longAt (s.lengthen (lowHalf ptr)) = link) :
    s.Ends (· = s.mem) (call ptr) (s.dropped n) ()
      (((s.dropped n).withLinks (lowHalf ptr) s.lf).entered frame gf cb (highHalf link + 1))
      (· = s.memoryWith (s.callStores slot next frame gf)) := by
  simp only [State.canReadAll, List.all_cons, List.all_nil, Bool.and_true, Bool.and_eq_true] at hr
  have hprocedure := controlLinkType_procedure hbit
  have hindirect : controlLinkType ptr = .indirect := by
    rw [controlLinkType, htag]
    rfl
  have harm := ends_xferProcedure_stored (r := s.dropped n) (dst := ptr) (src := s.lf) hd hc rfl hw hgf hm hb
  refine ends_getState fun _ _ => ends_bind (ends_memWriteMds_concat (stores := []) hd rfl hw) ?_
  refine ends_xfer_indirect (r1 := { s.dropped n with gf := gf, cb := cb }) (link := link) hd hindirect (by decide) hr.1 hr.2
    ?_ (by rw [hprocedure]; decide) (by rwa [if_pos hprocedure]) hsp hx
  rintro _ rfl
  exact (longAt_stored hc hw _).symm.trans hlink

end

/-- `LFC` (47_control_transfers.md R616). -/
theorem ends_doLfc {word : Word} (hb : (s.stored (s.lengthen (s.lf - 1)) s.pc).hasBody s.cb word slot frame next) :
    s.Ends (· = s.mem) (doLfc word) s () (s.entered frame s.gf s.cb (word + 1))
      (· = s.memoryWith (s.callStores slot next frame s.gf)) := by
  have hword : word ≠ 0 := by
    obtain ⟨hword, -⟩ := hb
    exact hword
  have hcheck : s.Ends (· = s.memoryWith (s.callStores slot next frame s.gf))
      (checkForXferTraps (mkLong (s.gf ||| 1) word) .localCall) { s with lf := frame, pc := word + 1 } ()
      (s.entered frame s.gf s.cb (word + 1)) (· = s.memoryWith (s.callStores slot next frame s.gf)) :=
    fun map mem hs hP => ⟨map, mem, checkForXferTraps_off hx, hs, hP⟩
  refine ends_getState fun _ _ => ends_bind (ends_memWriteMds_concat (stores := []) hd rfl hw) ?_
  rw [if_neg hword]
  refine ends_bind (ends_enterProcedure_stored (r := s) hd hc rfl hw hb) ?_
  exact ends_bind (ends_update (f := fun s => { s with lf := frame, pc := word + 1 })) hcheck

end

/-- Each external call is `Call` of a link that `FetchLink` gives (47_control_transfers.md R618, R619). -/
theorem exec_externalCall {alpha : Byte} (s : State) : ∀ p ∈ ([(.efc0, 0), (.efc1, 1), (.efc2, 2), (.efc3, 3), (.efc4, 4),
    (.efc5, 5), (.efc6, 6), (.efc7, 7), (.efc8, 8), (.efc9, 9), (.efc10, 10), (.efc11, 11), (.efc12, 12),
    (.efcb alpha, alpha)] : List (Instr × Byte)), exec p.1 s = run (externalCall p.2) s := by
  simp only [List.forall_mem_cons, List.not_mem_nil, false_imp_iff, implies_true, and_true]
  and_intros <;> rfl

/-- Settles O40. Each instruction gets its link, and then calls; `LFC` enters the body at its operand itself. -/
theorem procedureCalls : Obligations.ProcedureCalls := by
  intro alpha word s s1 link gf slot frame next cb hd hc hx hw hs1
  subst hs1
  refine ⟨fun hbit hgf hm hb => ?_, fun hb => ?_⟩
  · have hcall := ends_call hd hc hx hw hbit hgf hm hb
    refine ⟨fun p hp hr hlink => ?_, fun hr hlink => ?_, fun hsp hlink => ?_, fun ptr hsp hptr htag hr hlink => ?_⟩
    · have hfetch := ends_fetchLink hd hr
      rw [hlink] at hfetch
      rw [exec_externalCall s p hp]
      exact run_transferred rfl rfl (sameProcess_refl s) hc (ends_bind hfetch (hcall 0))
    · simp only [State.canReadAll, List.all_cons, List.all_nil, Bool.and_true, Bool.and_eq_true] at hr
      have hload := ends_longAt hd hr.1 hr.2
      rw [hlink] at hload
      exact run_transferred rfl rfl (sameProcess_refl s) hc
        (ends_bind (m := readDblMds (sdEntry (zextByte alpha))) (ends_getState fun _ _ => hload) (hcall 0))
    · have hpop := ends_popLong hsp
      rw [hlink] at hpop
      obtain ⟨t, hexec, htsp, ht⟩ :=
        run_transferred (s := s) (r := s.dropped 2) rfl rfl (sameProcess_refl s) hc (ends_bind hpop (hcall 2))
      exact ⟨t, hexec, congrArg Fin.val htsp, ht⟩
    · have hpop := ends_popLong hsp
      rw [hptr] at hpop
      have hspLt := s.sp.isLt
      have hnext : s.sp.val - 2 + 1 = s.sp.val - 1 := by omega
      have hrun := ends_bind hpop (ends_call_indirect hd hc hx hw hbit hgf hm hb (n := 2) (by omega) htag hr hlink)
      obtain ⟨map, _, hok, hmap, rfl⟩ := hrun s.map s.mem (sameAccess_self hc) rfl
      refine ⟨_, run_ok hok, rfl, rfl, ?_, transferred_entered (r := s.dropped 2) rfl rfl (sameProcess_refl s) hmap⟩
      rw [← hnext]
      rfl
  · exact run_transferred rfl rfl (sameProcess_refl s) hc (ends_doLfc hd hc hx hw hb)

/-! ### Transfers to a frame (47_control_transfers.md R600, R610, R623, R656, R657) -/

/-- The stores of a transfer that frees the current frame (47_control_transfers.md R600). -/
def State.freeStores (s : State) (slot item : Word) : List (LongWord × Word) :=
  [(s.lengthen s.lf, item), (s.lengthen slot, s.lf)]

theorem tag_of_hasFrame {s : State} {frame gf pc : Word} {cb : LongWord} (hf : s.hasFrame frame gf cb pc) :
    frame &&& 3 = 0 := by
  obtain ⟨-, htag, -⟩ := hf
  exact htag

theorem not_indirect_of_hasFrame {s : State} {dst : LongWord} {frame gf pc : Word} {cb : LongWord}
    (hdst : lowHalf dst = frame) (hf : s.hasFrame frame gf cb pc) : controlLinkType dst ≠ .indirect := by
  rw [controlLinkType_frame (hdst ▸ tag_of_hasFrame hf)]
  decide

/-- A long loaded after a store. -/
theorem ends_longAt_stored {s r : State} {va : LongWord} {p v : Word} (hd : r.devices = []) (hc : s.mapCanonical = true)
    (hw : s.canWrite va = true) (hlow : s.canRead (r.lengthen p) = true) (hhigh : s.canRead (r.lengthen p + 1) = true) :
    s.Ends (· = s.memoryWith [(va, v)]) (readDblMds p) r ((s.stored va v).longAt (r.lengthen p)) r
      (· = s.memoryWith [(va, v)]) :=
  ends_readDblMds hd hlow hhigh fun m hm => by rw [hm, longAt_stored hc hw]

section

variable {s r : State} {P : List Host.Cell → Prop} {dst : LongWord} {src frame gf pc slot item : Word} {cb : LongWord}
  {type : XferType}

/-- The arm of `XFER` for a frame link, in a transfer that is no trap (47_control_transfers.md R610). -/
theorem ends_arm_of_frame (hd : r.devices = []) (hdst : lowHalf dst = frame) (htag : frame &&& 3 = 0)
    (hf : s.framedIn P r.mds frame gf cb pc) (ht : type ≠ .trap) :
    s.Ends P (if controlLinkType dst = .procedure then xferProcedure dst dst src else xferFrame dst dst src type) r
      (frame, pc) { r with gf := gf, cb := cb } P := by
  subst hdst
  rw [if_neg (by rw [controlLinkType_frame htag]; decide)]
  exact ends_xferFrame hd hf ht

variable (hd : s.devices = [])
include hd

/-- `Free` of the current frame, once the arm of `XFER` has loaded `GF` and `CB` (47_control_transfers.md R600). -/
theorem ends_freeFrame (h : s.canFree s.lf slot item) : s.Ends (· = s.mem) (freeFrame s.lf) { s with gf := gf, cb := cb } ()
    { s with gf := gf, cb := cb } (· = s.memoryWith (s.freeStores slot item)) := by
  obtain ⟨hr, rfl, hwrites, rfl⟩ := h
  simp only [State.canWriteAll, List.all_cons, List.all_nil, Bool.and_true, Bool.and_eq_true] at hwrites
  obtain ⟨hwSlot, hwFrame⟩ := hwrites
  refine ends_bind (ends_getState fun _ _ => ends_wordAt (r := { s with gf := gf, cb := cb }) hd hr) ?_
  refine ends_bind (ends_getState fun _ _ =>
    ends_wordAt (r := { s with gf := gf, cb := cb }) hd (canRead_of_canWrite hwSlot)) ?_
  exact ends_bind (ends_memWriteMds_concat (stores := []) hd rfl hwFrame) (ends_memWriteMds_concat hd rfl hwSlot)

/-- `RET`, up to the check for xfer traps (47_control_transfers.md R623). -/
theorem doRet_eq_check (hc : s.mapCanonical = true) (hf : s.hasFrame frame gf cb pc) (hfree : s.canFree s.lf slot item)
    (hr : s.canRead (s.lengthen (s.lf - 3)) = true) (hlink : s.wordAt (s.lengthen (s.lf - 3)) = frame) :
    ∃ map, s.sameAccess map ∧ doRet s = checkForXferTraps (zextLong frame) .ret
      (State.withMemory { s with lf := frame, gf := gf, cb := cb, pc := pc } map (s.memoryWith (s.freeStores slot item))) := by
  have hlow := lowHalf_zextLong frame
  have hload : s.Ends (· = s.mem) (memReadMds (s.lf - 3)) s frame s (· = s.mem) :=
    hlink ▸ ends_getState fun _ _ => ends_wordAt hd hr
  obtain ⟨map1, _, hrun1, hs1, rfl⟩ := hload s.map s.mem (sameAccess_self hc) rfl
  obtain ⟨map, _, hrun, hs, rfl⟩ := xfer_eq_check (r1 := { s with gf := gf, cb := cb }) (dst := zextLong frame) (src := 0)
    (type := .ret) (free := true) (not_indirect_of_hasFrame hlow hf)
    (ends_arm_of_frame (r := s) hd hlow (tag_of_hasFrame hf) (by rintro _ rfl; exact hf) (by decide))
    (ends_freeFrame hd hfree) hs1 rfl
  exact ⟨map, hs, (bind_ok hrun1).trans hrun⟩

/-- `XF` (47_control_transfers.md R656). -/
theorem ends_doXf {alpha : Byte} (hx : s.xts.getLsbD 0 = false) (hf : s.hasFrame frame gf cb pc)
    (hfree : s.canFree s.lf slot item)
    (hr : s.canReadAll [s.lengthen (s.lf + zextByte alpha), s.lengthen (s.lf + zextByte alpha + 2),
      s.lengthen (s.lf + zextByte alpha + 2) + 1] = true)
    (hlink : lowHalf (s.longAt (s.lengthen (s.lf + zextByte alpha + 2))) = frame) :
    s.Ends (· = s.mem) (doXf alpha) s () (s.entered frame gf cb pc) (· = s.memoryWith (s.freeStores slot item)) := by
  simp only [State.canReadAll, List.all_cons, List.all_nil, Bool.and_true, Bool.and_eq_true] at hr
  obtain ⟨hrSrc, hrLow, hrHigh⟩ := hr
  refine ends_getState fun _ _ => ends_bind (ends_getState fun _ _ => ends_longAt hd hrLow hrHigh) ?_
  refine ends_bind (ends_getState fun _ _ => ends_wordAt hd hrSrc) ?_
  exact ends_xfer_direct (r1 := { s with gf := gf, cb := cb }) (not_indirect_of_hasFrame hlink hf)
    (ends_arm_of_frame hd hlink (tag_of_hasFrame hf) (by rintro _ rfl; exact hf) (by decide)) (ends_freeFrame hd hfree) hx

/-- `XE` (47_control_transfers.md R657). -/
theorem ends_doXe {alpha : Byte} (hc : s.mapCanonical = true) (hx : s.xts.getLsbD 0 = false)
    (hw : s.canWrite (s.lengthen (s.lf - 1)) = true)
    (hf : (s.stored (s.lengthen (s.lf - 1)) s.pc).hasFrame frame gf cb pc)
    (hr : s.canReadAll [s.lengthen (s.lf + zextByte alpha), s.lengthen (s.lf + zextByte alpha + 2),
      s.lengthen (s.lf + zextByte alpha + 2) + 1] = true)
    (hlink : lowHalf ((s.stored (s.lengthen (s.lf - 1)) s.pc).longAt (s.lengthen (s.lf + zextByte alpha + 2))) = frame) :
    s.Ends (· = s.mem) (doXe alpha) s () (State.entered { s with wdc := s.wdc - 1 } frame gf cb pc)
      (· = s.memoryWith [(s.lengthen (s.lf - 1), s.pc)]) := by
  simp only [State.canReadAll, List.all_cons, List.all_nil, Bool.and_true, Bool.and_eq_true] at hr
  obtain ⟨hrSrc, hrLow, hrHigh⟩ := hr
  have hxfer : ∀ src, s.Ends (· = s.memoryWith [(s.lengthen (s.lf - 1), s.pc)])
      (xfer ((s.stored (s.lengthen (s.lf - 1)) s.pc).longAt (s.lengthen (s.lf + zextByte alpha + 2))) src .xfer false) s ()
      (s.entered frame gf cb pc) (· = s.memoryWith [(s.lengthen (s.lf - 1), s.pc)]) := fun src =>
    ends_xfer_direct (r1 := { s with gf := gf, cb := cb }) (not_indirect_of_hasFrame hlink hf)
      (ends_arm_of_frame hd hlink (tag_of_hasFrame hf) (framedIn_stored hc hw hf) (by decide)) (ends_pure ()) hx
  refine ends_noAbort _ (ends_getState fun _ _ => ends_bind (ends_memWriteMds_concat (stores := []) hd rfl hw) ?_)
  refine ends_bind (ends_longAt_stored hd hc hw hrLow hrHigh) ?_
  refine ends_bind (ends_getState fun _ _ => ends_memRead_exact hd hrSrc) (ends_bind (hxfer _) ?_)
  exact ends_update (f := fun s => { s with wdc := s.wdc - 1 })

/-- `RET` with the xfer trap armed takes it or not, by the flag of the module that it enters (60_exceptions.md R790). -/
theorem exec_ret_armed (hc : s.mapCanonical = true) (hx : s.xts.getLsbD 0 = true) (hf : s.hasFrame frame gf cb pc)
    (hfree : s.canFree s.lf slot item) (hr : s.canRead (s.lengthen (s.lf - 3)) = true)
    (hlink : s.wordAt (s.lengthen (s.lf - 3)) = frame) (hflag : s.canRead (s.lengthen (gf - 3)) = true) :
    ∃ t, t.sp = s.sp ∧ t.wdc = s.wdc ∧ s.transferred t frame gf pc cb (s.freeStores slot item)
      ∧ ((t.wordAt (s.lengthen (gf - 3))).getLsbD 1 = false → exec .ret s = .next { t with xts := s.xts })
      ∧ ((t.wordAt (s.lengthen (gf - 3))).getLsbD 1 = true →
        exec .ret s = deliver (.xferTrap (zextLong frame) .ret) t) := by
  obtain ⟨map, hmap, hret⟩ := doRet_eq_check hd hc hf hfree hr hlink
  obtain ⟨map', hmap', hcheck⟩ := checkForXferTraps_armed (dst := zextLong frame) (type := .ret)
    (r := { s with lf := frame, gf := gf, cb := cb, pc := pc }) (s.memoryWith (s.freeStores slot item)) hmap hd hx hflag
  refine ⟨(s.entered frame gf cb pc).withMemory map' (s.memoryWith (s.freeStores slot item)), rfl, rfl,
    transferred_entered rfl rfl (sameProcess_refl s) hmap', fun hclear => ?_, fun hset => ?_⟩
  · rw [wordAt_withMemory hmap'] at hclear
    refine run_ok (hret.trans (hcheck.trans (if_neg ?_)))
    exact fun h => Bool.false_ne_true (hclear.symm.trans h)
  · rw [wordAt_withMemory hmap'] at hset
    exact run_error (hret.trans (hcheck.trans (if_pos hset)))

end

/-- Settles O41. -/
theorem frameTransfers : Obligations.FrameTransfers := by
  intro alpha s frame gf pc slot item cb hd hc
  refine ⟨exec_ret_armed hd hc, fun hx hf hfree => ⟨fun hr hlink => ?_, fun ptr hptr hr hlink => ?_⟩,
    fun s1 ptr hx hptr hw hs1 hf hr hlink => ?_⟩
  · obtain ⟨map, hmap, hret⟩ := doRet_eq_check hd hc hf hfree hr hlink
    exact ⟨_, run_ok (hret.trans (checkForXferTraps_off hx)), rfl, rfl,
      transferred_entered rfl rfl (sameProcess_refl s) hmap⟩
  · subst hptr
    exact run_transferred rfl rfl (sameProcess_refl s) hc (ends_doXf hd hx hf hfree hr hlink)
  · subst hptr hs1
    exact run_transferred (s := s) (r := { s with wdc := s.wdc - 1 }) rfl rfl (sameProcess_refl s) hc
      (ends_doXe hd hc hx hw hf hr hlink)

/-! ### Traps (60_exceptions.md R764 to R767, R790) -/

/-- The abort is a trap through the table entry, with the given parameters for its handler (60_exceptions.md R764, R790). -/
def Abort.trapsThrough (a : Abort) (entry : Word) (parameters : List Word) : Prop :=
  a = .trapZero entry ∧ parameters = [] ∨ (∃ p, a = .trapOne entry p ∧ parameters = [p])
    ∨ (∃ p, a = .trapTwo entry p ∧ parameters = [lowHalf p, highHalf p])
    ∨ ∃ dst type, a = .xferTrap dst type ∧ entry = xferTrapEntry ∧ parameters = [lowHalf dst, highHalf dst, type.code]

theorem Abort.trapsThrough.isTrap {a : Abort} {entry : Word} {parameters : List Word} (h : a.trapsThrough entry parameters) :
    a.isTrap = true := by
  obtain ⟨rfl, -⟩ | ⟨p, rfl, -⟩ | ⟨p, rfl, -⟩ | ⟨dst, type, rfl, -⟩ := h <;> rfl

/-- The parameters of a trap in the first locals of its handler (60_exceptions.md R766). -/
def State.parameterStores (s : State) (frame : Word) (parameters : List Word) : List (LongWord × Word) :=
  (List.range parameters.length).map fun k => (s.lengthen (frame + BitVec.ofNat 16 k), parameters.getD k 0)

section

variable {s r : State} {a : Abort} {entry : Word} {parameters : List Word} {stores : List (LongWord × Word)}

theorem ends_storeParameter {k p : Word} (hd : r.devices = []) (hmds : r.mds = s.mds)
    (hw : s.canWrite (s.lengthen (r.lf + k)) = true) :
    s.Ends (· = s.memoryWith stores) (storeParameter k p) r () r
      (· = s.memoryWith (stores ++ [(s.lengthen (r.lf + k), p)])) :=
  ends_getState fun _ _ => ends_memWriteMds_concat hd hmds hw

/-- A trap is the transfer to its handler and then the stores of its parameters (60_exceptions.md R764, R790). -/
theorem ends_takeTrap (ha : a.trapsThrough entry parameters) (hd : r.devices = []) (hmds : r.mds = s.mds)
    (hw : s.takesParameters r.lf parameters) (htrap : s.Ends (· = s.mem) (trap entry) s () r (· = s.memoryWith stores)) :
    s.Ends (· = s.mem) (takeTrap a) s () r (· = s.memoryWith (stores ++ s.parameterStores r.lf parameters)) := by
  obtain ⟨rfl, rfl⟩ | ⟨p, rfl, rfl⟩ | ⟨p, rfl, rfl⟩ | ⟨dst, type, rfl, rfl, rfl⟩ := ha
  · rw [show stores ++ s.parameterStores r.lf [] = stores from List.append_nil stores]
    exact htrap
  · exact ends_bind htrap (ends_storeParameter hd hmds (hw 0 (by simp)))
  · have hparameters : s.Ends (· = s.memoryWith stores)
        (storeParameter 0 (lowHalf p) >>= fun _ => storeParameter 1 (highHalf p)) r () r (· = s.memoryWith _) :=
      ends_bind (ends_storeParameter hd hmds (hw 0 (by simp))) (ends_storeParameter hd hmds (hw 1 (by simp)))
    rw [List.append_assoc] at hparameters
    exact ends_bind htrap hparameters
  · have hparameters : s.Ends (· = s.memoryWith stores) (storeParameter 0 (lowHalf dst) >>= fun _ =>
        storeParameter 1 (highHalf dst) >>= fun _ => storeParameter 2 type.code) r () r (· = s.memoryWith _) :=
      ends_bind (ends_storeParameter hd hmds (hw 0 (by simp))) (ends_bind
        (ends_storeParameter hd hmds (hw 1 (by simp))) (ends_storeParameter hd hmds (hw 2 (by simp))))
    rw [List.append_assoc, List.append_assoc] at hparameters
    exact ends_bind (ends_noAbort .abortInXferTrap htrap) hparameters

/-- `Trap` to a handler whose table entry is a procedure descriptor (60_exceptions.md R765, 47_control_transfers.md R610). -/
theorem ends_trap_procedure {link : LongWord} {gf slot frame next : Word} {cb : LongWord} (hd : s.devices = [])
    (hc : s.mapCanonical = true) (hpc : 8 ≤ s.savedPC.toNat) (hx : s.xts.getLsbD 0 = false)
    (hr : s.canReadAll [s.lengthen entry, s.lengthen entry + 1] = true) (hw : s.canWrite (s.lengthen (s.lf - 1)) = true)
    (hlink : link = s.longAt (s.lengthen entry)) (hbit : link.getLsbD 0 = true) (hgf : gf = lowHalf link &&& 0xFFFE)
    (hm : (s.stored (s.lengthen (s.lf - 1)) s.savedPC).hasModule gf cb)
    (hb : (s.stored (s.lengthen (s.lf - 1)) s.savedPC).hasBody cb (highHalf link) slot frame next) :
    s.Ends (· = s.mem) (trap entry) s () (State.entered { s with sp := s.savedSP } frame gf cb (highHalf link + 1))
      (· = s.memoryWith ((s.lengthen (s.lf - 1), s.savedPC) :: s.entryStores slot next frame gf s.lf)) := by
  simp only [State.canReadAll, List.all_cons, List.all_nil, Bool.and_true, Bool.and_eq_true] at hr
  subst hlink
  refine ends_bind (ends_getState fun _ _ => ends_longAt hd hr.1 hr.2) ?_
  refine ends_bind (ends_update (f := fun s => { s with pc := s.savedPC, sp := s.savedSP })) ?_
  refine ends_bind (ends_savePC (P1 := (· = s.memoryWith [(s.lengthen (s.lf - 1), s.savedPC)])) hd hpc hw
    fun m hm => by rw [hm]; rfl) (ends_getState fun _ _ => ?_)
  exact ends_xfer_of_procedure (controlLinkType_procedure hbit)
    (ends_xferProcedure_stored (r := { s with pc := s.savedPC, sp := s.savedSP }) hd hc rfl hw hgf hm hb) hx

end

/-- Settles O48. Whatever its handler, a trap is a transfer to it and then the stores of the parameters. -/
theorem trapEntersItsHandler : Obligations.TrapEntersItsHandler := by
  intro s a entry parameters frame gf cb hd hc ha hw
  have htraps : a.trapsThrough entry parameters := ha
  refine ⟨fun pc hready => ?_, ?_⟩
  · have htake := ends_takeTrap htraps (s := s) (r := s.handler frame gf cb pc) hd rfl hw (ends_trap hd hc hready)
    exact deliver_trapped hc htraps.isTrap htake
  · intro s1 link slot next hpc hx hr hwPc hlink hbit hgf hs1 hm hb
    subst hs1
    have htrap := ends_trap_procedure hd hc hpc hx hr hwPc hlink hbit hgf hm hb
    have htake := ends_takeTrap htraps (s := s)
      (r := State.entered { s with sp := s.savedSP } frame gf cb (highHalf link + 1)) hd rfl hw htrap
    obtain ⟨map, _, hrun, hmap, rfl⟩ := htake s.map s.mem (sameAccess_self hc) rfl
    exact ⟨_, deliver_trap htraps.isTrap hrun, rfl, rfl,
      transferred_entered (s := s) (r := { s with sp := s.savedSP }) rfl rfl (sameProcess_refl s) hmap⟩

end Sys2Proof.Machine

namespace Sys2Proof.Machine

/-!
## Processes, monitors and faults (48_process_instructions.md, 60_exceptions.md R794 to R798)
-/

/-- Settles O54. -/
theorem interruptDisabling : Obligations.InterruptDisabling := by
  intro s
  refine ⟨fun h => run_ok (m := doDi) ?_, fun h => run_error (m := doDi) ?_, fun h => run_ok (m := doEi) ?_,
    fun h => run_error (m := doEi) ?_⟩
  · unfold doDi
    rw [getState_bind, if_neg h]
    rfl
  · unfold doDi
    rw [getState_bind, if_pos h]
    rfl
  · unfold doEi
    rw [getState_bind, if_neg h]
    rfl
  · unfold doEi
    rw [getState_bind, if_pos h]
    rfl

/-! ### Changes of index fields alone (48_process_instructions.md R675) -/

theorem withIndex_masked (w : Word) (i : BitVec 10) : withIndex w i &&& 0xE007 = w &&& 0xE007 := by
  ext k hk
  simp only [withIndex, psbHandle, BitVec.getElem_and, BitVec.getElem_or, BitVec.getElem_shiftLeft]
  interval_cases k <;> simp

section

variable {v v' : Word}

theorem getLsbD_of_masked (h : v' &&& 0xE007 = v &&& 0xE007) {k : Nat} (hk : k < 3) : v'.getLsbD k = v.getLsbD k := by
  have hbit := congrArg (fun v : Word => v.getLsbD k) h
  simp only [BitVec.getLsbD_and] at hbit
  interval_cases k <;> simpa using hbit

theorem linkPriority_of_masked (h : v' &&& 0xE007 = v &&& 0xE007) : linkPriority v' = linkPriority v := by
  ext k hk
  have hbit := congrArg (fun v : Word => v.getLsbD (13 + k)) h
  simp only [BitVec.getLsbD_and] at hbit
  rw [linkPriority, linkPriority, BitVec.getElem_extractLsb', BitVec.getElem_extractLsb']
  interval_cases k <;> simpa using hbit

/-- A word is its index field and the rest. -/
theorem eq_of_masked_of_index (h : v' &&& 0xE007 = v &&& 0xE007) (hi : indexField v' = indexField v) : v' = v := by
  ext k hk
  have hbit := congrArg (fun v : Word => v.getLsbD k) h
  simp only [BitVec.getLsbD_and] at hbit
  have hfield : ∀ j, j < 10 → v'.getLsbD (3 + j) = v.getLsbD (3 + j) := by
    intro j hj
    have := congrArg (fun v : BitVec 10 => v.getLsbD j) hi
    simpa [indexField, BitVec.getLsbD_extractLsb', hj] using this
  rw [← BitVec.getLsbD_eq_getElem, ← BitVec.getLsbD_eq_getElem]
  by_cases hrange : 3 ≤ k ∧ k < 13
  · have := hfield (k - 3) (by omega)
    rwa [show 3 + (k - 3) = k by omega] at this
  · have hk' : k = 0 ∨ k = 1 ∨ k = 2 ∨ k = 13 ∨ k = 14 ∨ k = 15 := by omega
    rcases hk' with rfl | rfl | rfl | rfl | rfl | rfl <;> simpa using hbit

end

/-- The words differ in index fields at addresses of `B` at most. -/
def IndexesOnly (B : List LongWord) (w w' : LongWord → Word) : Prop :=
  ∀ va, (va ∉ B → w' va = w va) ∧ w' va &&& 0xE007 = w va &&& 0xE007

section

variable {B B' : List LongWord} {w w1 w2 : LongWord → Word} {va : LongWord}

theorem IndexesOnly.refl : IndexesOnly B w w := fun _ => ⟨fun _ => rfl, rfl⟩

theorem IndexesOnly.trans (h : IndexesOnly B w w1) (h' : IndexesOnly B w1 w2) : IndexesOnly B w w2 := fun va =>
  ⟨fun hva => ((h' va).1 hva).trans ((h va).1 hva), (h' va).2.trans (h va).2⟩

theorem IndexesOnly.mono (h : IndexesOnly B w w1) (hB : B ⊆ B') : IndexesOnly B' w w1 := fun va =>
  ⟨fun hva => (h va).1 fun hmem => hva (hB hmem), (h va).2⟩

theorem IndexesOnly.other (h : IndexesOnly B w w1) (hva : va ∉ B) : w1 va = w va := (h va).1 hva

theorem IndexesOnly.masked (h : IndexesOnly B w w1) (va : LongWord) : w1 va &&& 0xE007 = w va &&& 0xE007 := (h va).2

theorem indexesOnly_update (hva : va ∈ B) (i : BitVec 10) :
    IndexesOnly B w (Function.update w va (withIndex (w va) i)) := by
  intro va'
  by_cases he : va' = va
  · subst he
    rw [Function.update_self]
    exact ⟨fun hne => absurd hva hne, withIndex_masked _ _⟩
  · rw [Function.update_of_ne he]
    exact ⟨fun _ => rfl, rfl⟩

theorem IndexesOnly.getLsbD (h : IndexesOnly B w w1) {k : Nat} (hk : k < 3) :
    (w1 va).getLsbD k = (w va).getLsbD k := getLsbD_of_masked (h.masked va) hk

theorem IndexesOnly.linkPriority (h : IndexesOnly B w w1) : linkPriority (w1 va) = linkPriority (w va) :=
  linkPriority_of_masked (h.masked va)

theorem IndexesOnly.eq_of_index (h : IndexesOnly B w w1) (hi : indexField (w1 va) = indexField (w va)) : w1 va = w va :=
  eq_of_masked_of_index (h.masked va) hi

end

/-! ### Rings of processes (48_process_instructions.md R675) -/

theorem psbLink_injective {p q : BitVec 10} (h : psbLink p = psbLink q) : p = q := by
  have hp := psbLink_toNat p
  have hq := psbLink_toNat q
  rw [h] at hp
  exact BitVec.eq_of_toNat_eq (by omega)

/-- By the words `w`, the process `q` follows `p` on its ring. -/
def Follows (w : LongWord → Word) (p q : BitVec 10) : Prop := indexField (w (psbLink p)) = q

/-- By the words `w`, the processes of `l` make a ring in that order. -/
def IsRing (w : LongWord → Word) (l : List (BitVec 10)) : Prop := ∀ h ∈ l.head?, (l ++ [h]).IsChain (Follows w)

/-- The words after the process `q` is made the one that follows `p`. -/
def relink (w : LongWord → Word) (p q : BitVec 10) : LongWord → Word :=
  Function.update w (psbLink p) (withIndex (w (psbLink p)) q)

section

variable {w w' : LongWord → Word} {p q x y z : BitVec 10} {a b i l : List (BitVec 10)}

theorem isRing_cons : IsRing w (x :: l) ↔ (x :: (l ++ [x])).IsChain (Follows w) := by simp [IsRing]

/-- A ring has no beginning. -/
theorem IsRing.rotate (h : IsRing w (a ++ b)) : IsRing w (b ++ a) := by
  cases a with
  | nil => simpa using h
  | cons x a =>
    cases b with
    | nil => simpa using h
    | cons y b =>
      rw [List.cons_append, isRing_cons, List.append_assoc, List.cons_append, ← List.cons_append,
        List.isChain_split] at h ⊢
      exact h.symm

theorem relink_self (w : LongWord → Word) (p q : BitVec 10) : Follows (relink w p q) p q := by
  rw [Follows, relink, Function.update_self, indexField_withIndex]

theorem relink_other (h : x ≠ p) : relink w p q (psbLink x) = w (psbLink x) :=
  Function.update_of_ne (fun he => h (psbLink_injective he)) _ _

theorem indexesOnly_relink {B : List LongWord} (h : psbLink p ∈ B) : IndexesOnly B w (relink w p q) :=
  indexesOnly_update h q

/-- A chain is about the links of all but its last process. -/
theorem isChain_congr (h : (l ++ [z]).IsChain (Follows w))
    (hw : ∀ p ∈ l, indexField (w' (psbLink p)) = indexField (w (psbLink p))) :
    (l ++ [z]).IsChain (Follows w') := by
  induction l with
  | nil => simp
  | cons p l ih =>
    have hp : ∀ y, Follows w p y → Follows w' p y := fun y hy => by
      rw [Follows, hw p List.mem_cons_self]
      exact hy
    have ih := fun h => ih h fun q hq => hw q (List.mem_cons_of_mem p hq)
    cases l with
    | nil => simpa using hp z (by simpa using h)
    | cons y l =>
      rw [List.cons_append, List.cons_append, List.isChain_cons_cons] at h ⊢
      exact ⟨hp y h.1, ih h.2⟩

theorem IsRing.congr (h : IsRing w l) (hw : ∀ p ∈ l, indexField (w' (psbLink p)) = indexField (w (psbLink p))) :
    IsRing w' l :=
  fun x hx => isChain_congr (h x hx) hw

/-- Another process is made the one that follows the last of a chain. -/
theorem isChain_relink (h : (i ++ [z, x]).IsChain (Follows w)) (hz : z ∉ i) :
    (i ++ [z, y]).IsChain (Follows (relink w z y)) := by
  rw [List.isChain_split] at h ⊢
  refine ⟨isChain_congr h.1 fun p hp => congrArg _ (relink_other fun he => hz (he ▸ hp)), ?_⟩
  rw [List.isChain_pair]
  exact relink_self w z y

theorem isRing_concat : IsRing w (i ++ [z]) ↔ ∀ x ∈ (i ++ [z]).head?, (i ++ [z, x]).IsChain (Follows w) := by
  simp [IsRing]

theorem isRing_concat_two : IsRing w (i ++ [z, p]) ↔
    ∀ x ∈ (i ++ [z]).head?, (i ++ [z, p]).IsChain (Follows w) ∧ Follows w p x := by
  have hhead : (i ++ [z, p]).head? = (i ++ [z]).head? := by cases i <;> rfl
  have hsplit : ∀ x, (i ++ [z, p] ++ [x]).IsChain (Follows w)
      ↔ (i ++ [z, p]).IsChain (Follows w) ∧ Follows w p x := fun x => by
    have := List.isChain_split (R := Follows w) (c := p) (l₁ := i ++ [z]) (l₂ := [x])
    simpa using this
  simp only [IsRing, hhead, hsplit]

/-- The last process of a ring is taken out (48_process_instructions.md R701). -/
theorem IsRing.remove (h : IsRing w (i ++ [z, p])) (hz : z ∉ i) :
    IsRing (relink w z (indexField (w (psbLink p)))) (i ++ [z]) := by
  refine isRing_concat.mpr fun x hx => ?_
  obtain ⟨hchain, hpx⟩ := isRing_concat_two.mp h x hx
  rw [show indexField (w (psbLink p)) = x from hpx]
  exact isChain_relink hchain hz

/-- The words after `p` has entered its ring behind `z` (48_process_instructions.md R702). -/
def insertAfter (w : LongWord → Word) (z p : BitVec 10) : LongWord → Word :=
  relink (relink w p (indexField (w (psbLink z)))) z p

/-- A process enters a ring behind its last one (48_process_instructions.md R702). -/
theorem IsRing.insert (h : IsRing w (i ++ [z])) (hp : p ∉ i ++ [z]) (hz : z ∉ i) :
    IsRing (insertAfter w z p) (i ++ [z, p]) := by
  refine isRing_concat_two.mpr fun x hx => ?_
  have hchain := isRing_concat.mp h x hx
  have hzx : Follows w z x := by simpa using (List.isChain_split.mp hchain).2
  have hkept : (i ++ [z, x]).IsChain (Follows (relink w p x)) := by
    rw [List.append_cons] at hchain ⊢
    exact isChain_congr hchain fun q hq => congrArg _ (relink_other fun he => hp (he ▸ hq))
  rw [insertAfter, show indexField (w (psbLink z)) = x from hzx]
  refine ⟨isChain_relink hkept hz, ?_⟩
  rw [Follows, relink_other fun he => hp (by simp [he])]
  exact relink_self w p x

end

end Sys2Proof.Machine

namespace Sys2Proof.Machine

/-! ### Queues of any length (48_process_instructions.md R700 to R702) -/

/-- By the words `w`, the queue at `que` holds the processes of `l`, head first (48_process_instructions.md R675). -/
structure State.QueueAt (s : State) (w : LongWord → Word) (que : LongWord) (l : List (BitVec 10)) : Prop where
  header : s.canWrite que = true
  tail : indexField (w que) = l.getLastD 0
  nodup : l.Nodup
  psbs : ∀ p ∈ l, 8 ≤ p.toNat
  links : ∀ p ∈ l, s.canWrite (psbLink p) = true
  ring : IsRing w l

/-- The addresses of the header of a queue and of the links of its processes. -/
def queueWords (que : LongWord) (l : List (BitVec 10)) : List LongWord := que :: l.map psbLink

section

variable {s r t : State} {A : Set LongWord} {w w' : LongWord → Word} {que : LongWord} {p c d : BitVec 10}
  {l cs pre post : List (BitVec 10)} {n : Nat} {pri : BitVec 3}

theorem mem_links {q : BitVec 10} : psbLink q ∈ l.map psbLink ↔ q ∈ l := by
  rw [List.mem_map]
  exact ⟨fun ⟨_, hp, he⟩ => psbLink_injective he ▸ hp, fun h => ⟨q, h, rfl⟩⟩

/-- `State.ring` is a ring in the list's order (48_process_instructions.md R675). -/
theorem isRing_iff_getD : IsRing s.wordAt l ↔
    ∀ k, k < l.length → indexField (s.wordAt (psbLink (l.getD k 0))) = l.getD ((k + 1) % l.length) 0 := by
  cases l with
  | nil => simp [IsRing]
  | cons x l =>
    rw [isRing_cons, ← List.cons_append, List.isChain_iff_getElem]
    simp only [List.length_append, List.length_singleton, Nat.add_lt_add_iff_right]
    refine forall_congr' fun k => forall_congr' fun hk => ?_
    have hlink : (x :: l ++ [x])[k]'(by simp only [List.length_append]; omega) = (x :: l).getD k 0 := by
      rw [List.getElem_append_left hk, List.getD_eq_getElem _ _ hk]
    have hnext : (x :: l ++ [x])[k + 1]'(by simpa using hk) = (x :: l).getD ((k + 1) % (x :: l).length) 0 := by
      rcases Nat.lt_or_ge (k + 1) (x :: l).length with hlt | hge
      · rw [List.getElem_append_left hlt, Nat.mod_eq_of_lt hlt, List.getD_eq_getElem _ _ hlt]
      · obtain rfl : k = l.length := by simp only [List.length_cons] at hk hge; omega
        simp
    rw [hlink, hnext]
    rfl

theorem queueAt_wordAt : s.QueueAt s.wordAt que l ↔ s.holdsQueue que l := by
  have hring : s.ring l ↔ l.Nodup ∧ (∀ p ∈ l, 8 ≤ p.toNat) ∧ (∀ p ∈ l, s.canWrite (psbLink p) = true)
      ∧ IsRing s.wordAt l := by
    have hmem : ∀ P : BitVec 10 → Prop, (∀ p ∈ l, P p) ↔ ∀ k, k < l.length → P (l.getD k 0) := fun P => by
      rw [List.forall_mem_iff_forall_getElem]
      exact forall_congr' fun k => forall_congr' fun hk => by rw [List.getD_eq_getElem _ _ hk]
    rw [isRing_iff_getD, hmem, hmem]
    exact ⟨fun ⟨hn, h⟩ => ⟨hn, fun k hk => (h k hk).1, fun k hk => (h k hk).2.1, fun k hk => (h k hk).2.2⟩,
      fun ⟨hn, h1, h2, h3⟩ => ⟨hn, fun k hk => ⟨h1 k hk, h2 k hk, h3 k hk⟩⟩⟩
  rw [State.holdsQueue, hring]
  exact ⟨fun h => ⟨h.header, h.tail, h.nodup, h.psbs, h.links, h.ring⟩,
    fun ⟨h1, h2, h3, h4, h5, h6⟩ => ⟨h1, h2, h3, h4, h5, h6⟩⟩

/-- A queue is a matter of the index fields of its header and links. -/
theorem State.QueueAt.congr (h : s.QueueAt w que l) (hw : ∀ va ∈ queueWords que l, indexField (w' va) = indexField (w va)) :
    s.QueueAt w' que l :=
  ⟨h.header, (hw que List.mem_cons_self).trans h.tail, h.nodup, h.psbs, h.links,
    h.ring.congr fun _ hp => hw _ (List.mem_cons_of_mem _ (mem_links.mpr hp))⟩

theorem State.QueueAt.canRead {va : LongWord} (h : s.QueueAt w que l) (hva : va ∈ queueWords que l) : s.canRead va = true := by
  rcases List.mem_cons.mp hva with rfl | hva
  · exact canRead_of_canWrite h.header
  · obtain ⟨p, hp, rfl⟩ := List.mem_map.mp hva
    exact canRead_of_canWrite (h.links p hp)

/-- A queue is found where the accesses go as before and the words are the same. -/
theorem State.QueueAt.holdsQueue (h : s.QueueAt w que l) (hwrite : ∀ va, t.canWrite va = s.canWrite va)
    (hword : ∀ va, s.canRead va = true → t.wordAt va = w va) : t.holdsQueue que l := by
  have hq : s.QueueAt t.wordAt que l := h.congr fun va hva => congrArg _ (hword va (h.canRead hva))
  exact queueAt_wordAt.mp ⟨(hwrite que).trans hq.header, hq.tail, hq.nodup, hq.psbs,
    fun p hp => (hwrite _).trans (hq.links p hp), hq.ring⟩

theorem getLastD_append (a b : List (BitVec 10)) (x : BitVec 10) :
    (a ++ b).getLastD x = b.getLastD (a.getLastD x) := by
  rcases List.eq_nil_or_concat' b with rfl | ⟨i, z, rfl⟩
  · simp
  · rw [← List.append_assoc, List.getLastD_concat, List.getLastD_concat]

theorem nodup_length_le (h : l.Nodup) : l.length ≤ ringBound := by
  have := (h.map_on fun p _ q _ => BitVec.eq_of_toNat_eq (x := p) (y := q)).subperm
    (l₂ := List.range 1024) fun n hn => by
      obtain ⟨p, -, rfl⟩ := List.mem_map.mp hn
      exact List.mem_range.mpr p.isLt
  simpa [ringBound] using this.length_le

/-! ### A process leaves its queue (48_process_instructions.md R701) -/

/-- The search for the entry before `p` ends at the last process of a chain that leads to it. -/
theorem ends_findPrevious (hd : r.devices = []) (hchain : (c :: (cs ++ [p])).IsChain (Follows w)) (hp : p ∉ cs)
    (hr : ∀ q ∈ c :: cs, s.canRead (psbLink q) = true) (hn : cs.length < n) :
    s.Ends (s.Shows A w) (findPrevious n p c) r (cs.getLastD c, w (psbLink (cs.getLastD c))) r (s.Shows A w) := by
  induction cs generalizing c n with
  | nil =>
    obtain ⟨n, rfl⟩ : ∃ m, n = m + 1 := ⟨n - 1, by omega⟩
    have hc : Follows w c p := by simpa using hchain
    refine ends_bind (ends_read hd (hr c List.mem_cons_self)) ?_
    rw [if_pos (show indexField (w (psbLink c)) = p from hc)]
    exact ends_pure _
  | cons d cs ih =>
    obtain ⟨n, rfl⟩ : ∃ m, n = m + 1 := ⟨n - 1, by omega⟩
    rw [List.cons_append, List.isChain_cons_cons] at hchain
    obtain ⟨hc, hchain⟩ := hchain
    rw [List.mem_cons, not_or] at hp
    refine ends_bind (ends_read hd (hr c List.mem_cons_self)) ?_
    rw [show indexField (w (psbLink c)) = d from hc, if_neg (Ne.symm hp.1), List.getLastD_cons]
    exact ih hchain hp.2 (fun q hq => hr q (List.mem_cons_of_mem c hq)) (by simpa using hn)

/-- The words after `p` has left its ring, on which `prev` stands before it, or 0 where it is alone. -/
def unlinkWords (w : LongWord → Word) (prev p : BitVec 10) : LongWord → Word :=
  if prev = 0 then w else relink w prev (indexField (w (psbLink p)))

/-- A process leaves its ring; the answer is the entry before it, or 0 (48_process_instructions.md R701). -/
theorem ends_unlink (hi : s.Inv) (hd : r.devices = []) (hq : s.QueueAt w que (pre ++ p :: post))
    (hA : ∀ q ∈ pre ++ p :: post, psbLink q ∈ A) (hque : que ≠ 0) :
    s.Ends (s.Shows A w) (unlink que (indexField (w que)) p (w (psbLink p))) r ((post ++ pre).getLastD 0) r
      (s.Shows A (unlinkWords w ((post ++ pre).getLastD 0) p)) := by
  have hnodup : (p :: (post ++ pre)).Nodup := (List.perm_append_comm (l₁ := pre) (l₂ := p :: post)).nodup_iff.mp hq.nodup
  have hring : (p :: (post ++ pre ++ [p])).IsChain (Follows w) := isRing_cons.mp hq.ring.rotate
  have htail : indexField (w que) = post.getLastD p := by rw [hq.tail, getLastD_append, List.getLastD_cons]
  rw [List.nodup_cons] at hnodup
  rw [htail]
  rcases List.eq_nil_or_concat' (post ++ pre) with hnil | ⟨i, z, hz⟩
  · obtain ⟨rfl, rfl⟩ := List.append_eq_nil_iff.mp hnil
    have halone : indexField (w (psbLink p)) = p := by simpa [Follows] using hring
    unfold unlink
    rw [if_pos halone]
    refine ends_getState fun _ _ => ?_
    rw [if_pos (Or.inr (by simp [State.aloneOnQueue]))]
    exact ends_pure 0
  · have hmem : ∀ q ∈ post ++ pre, q ∈ pre ++ p :: post := fun q hq => by
      simp only [List.mem_append, List.mem_cons] at hq ⊢
      tauto
    have hzmem : z ∈ pre ++ p :: post := hmem z (by rw [hz]; simp)
    have hz8 := hq.psbs z hzmem
    have hz0 : z ≠ 0 := by rintro rfl; exact absurd hz8 (by decide)
    have hnext : indexField (w (psbLink p)) ≠ p := by
      obtain ⟨x, l, hl⟩ := List.exists_cons_of_ne_nil (l := post ++ pre) (by rw [hz]; simp)
      have hx : Follows w p x := by
        rw [hl, List.cons_append, List.isChain_cons_cons] at hring
        exact hring.1
      rw [show indexField (w (psbLink p)) = x from hx]
      rintro rfl
      exact hnodup.1 (by rw [hl]; exact List.mem_cons_self)
    have htailMem : post.getLastD p ∈ pre ++ p :: post := by
      rcases List.eq_nil_or_concat' post with rfl | ⟨j, y, rfl⟩ <;> simp
    have htail0 : post.getLastD p ≠ 0 := fun h0 => absurd (hq.psbs _ htailMem) (by rw [h0]; decide)
    have hsearch : (post.getLastD p :: (pre ++ [p])).IsChain (Follows w) := by
      rcases List.eq_nil_or_concat' post with rfl | ⟨j, y, rfl⟩
      · exact hring
      · rw [List.getLastD_concat]
        exact (List.isChain_split (l₁ := p :: j)).mp (by simpa using hring) |>.2
    have hlast : pre.getLastD (post.getLastD p) = z := by rw [← getLastD_append, hz, List.getLastD_concat]
    have hfind := ends_findPrevious (s := s) (A := A) hd hsearch (fun hp => hnodup.1 (List.mem_append_right _ hp))
      (n := ringBound) (fun q hq' => canRead_of_canWrite (hq.links q ?_)) ?_
    · rw [hlast] at hfind
      unfold unlink
      rw [if_neg hnext, if_neg (fun h => htail0 h.2), if_neg hque, hz, List.getLastD_concat, unlinkWords, if_neg hz0]
      exact ends_bind hfind (ends_bind (ends_write hi hd (hq.links z hzmem) (hA z hzmem)) (ends_pure z))
    · rcases List.mem_cons.mp hq' with rfl | hmem'
      · exact htailMem
      · exact List.mem_append_left _ hmem'
    · have := nodup_length_le hq.nodup
      simp only [List.length_append, List.length_cons] at this
      omega

/-- The others are left on the ring in their order. -/
theorem isRing_unlinkWords (h : IsRing w (pre ++ p :: post)) (hn : (pre ++ p :: post).Nodup) (h0 : 0 ∉ pre ++ p :: post) :
    IsRing (unlinkWords w ((post ++ pre).getLastD 0) p) (pre ++ post) := by
  have hnodup : (post ++ (pre ++ [p])).Nodup :=
    (List.perm_append_comm (l₁ := pre ++ [p]) (l₂ := post)).nodup_iff.mp (by simpa using hn)
  have hring : IsRing w (post ++ (pre ++ [p])) := IsRing.rotate (by simpa using h)
  refine IsRing.rotate ?_
  rw [← List.append_assoc] at hnodup hring
  rcases List.eq_nil_or_concat' (post ++ pre) with hnil | ⟨i, z, hz⟩
  · rw [hnil]
    exact fun _ h => absurd h (by simp)
  · have hz0 : z ≠ 0 := by
      have hzmem : z ∈ post ++ pre := by rw [hz]; simp
      rintro rfl
      simp only [List.mem_append, List.mem_cons] at h0 hzmem
      tauto
    rw [hz] at hnodup hring
    rw [hz, List.getLastD_concat, unlinkWords, if_neg hz0]
    refine IsRing.remove (by simpa using hring) fun hi => ?_
    rw [List.append_assoc, List.nodup_append] at hnodup
    exact hnodup.2.2 z hi z (by simp) rfl

theorem indexesOnly_unlinkWords (prev : BitVec 10) {B : List LongWord} (h : prev ≠ 0 → psbLink prev ∈ B) :
    IndexesOnly B w (unlinkWords w prev p) := by
  unfold unlinkWords
  split
  · exact IndexesOnly.refl
  · exact indexesOnly_relink (h ‹_›)

/-- A process leaves the queue that it is on (48_process_instructions.md R701). -/
theorem ends_dequeue (hi : s.Inv) (hd : r.devices = []) (hq : s.QueueAt w que l) (hp : p ∈ l)
    (hlinks : ∀ q ∈ l, psbLink q ≠ que) (hA : ∀ va ∈ queueWords que l, va ∈ A) (hque : que ≠ 0) :
    ∃ w', s.Ends (s.Shows A w) (dequeue que p) r () r (s.Shows A w') ∧ s.QueueAt w' que (l.erase p)
      ∧ IndexesOnly (queueWords que l) w w' := by
  obtain ⟨pre, post, rfl⟩ := List.append_of_mem hp
  set prev := (post ++ pre).getLastD 0 with hprev
  have hpnot : p ∉ pre ∧ p ∉ post := by
    have hnodup := hq.nodup
    rw [List.nodup_append, List.nodup_cons] at hnodup
    exact ⟨fun h => hnodup.2.2 p h p List.mem_cons_self rfl, hnodup.2.1.1⟩
  have herase : (pre ++ p :: post).erase p = pre ++ post := by
    rw [List.erase_append_right _ hpnot.1, List.erase_cons_head]
  have hsub : pre ++ post ⊆ pre ++ p :: post := by simp
  have hwords := indexesOnly_unlinkWords (w := w) (p := p) (B := (pre ++ p :: post).map psbLink) prev fun h0 =>
    mem_links.mpr (by
      rcases List.eq_nil_or_concat' (post ++ pre) with hnil | ⟨i, z, hz⟩
      · exact absurd (by rw [hprev, hnil]; rfl) h0
      · have hzmem : z ∈ post ++ pre := by rw [hz]; simp
        rw [hprev, hz, List.getLastD_concat]
        exact hsub (List.perm_append_comm.mem_iff.mp hzmem))
  have hnot : que ∉ (pre ++ p :: post).map psbLink := fun h => by
    obtain ⟨q, hq', he⟩ := List.mem_map.mp h
    exact hlinks q hq' he
  have hring := isRing_unlinkWords hq.ring hq.nodup fun h0 => absurd (hq.psbs 0 h0) (by decide)
  have htail : indexField (w que) = post.getLastD p := by rw [hq.tail, getLastD_append, List.getLastD_cons]
  have hunlink := ends_unlink (A := A) hi hd hq (fun q hq' => hA _ (List.mem_cons_of_mem _ (mem_links.mpr hq'))) hque
  rw [herase]
  have hrun : ∀ w', s.Ends (s.Shows A (unlinkWords w prev p))
      (if indexField (w que) = p then memWrite que (withIndex (w que) prev) else pure ()) r () r (s.Shows A w') →
      s.Ends (s.Shows A w) (dequeue que p) r () r (s.Shows A w') := fun w' h => by
    unfold dequeue
    dsimp only
    rw [if_neg hque]
    refine ends_bind (ends_read hd (canRead_of_canWrite hq.header))
      (ends_bind (ends_read hd (canRead_of_canWrite (hq.links p hp))) (ends_bind hunlink ?_))
    rw [if_neg hque]
    exact h
  rcases List.eq_nil_or_concat' post with rfl | ⟨j, y, rfl⟩
  · refine ⟨Function.update (unlinkWords w prev p) que (withIndex (unlinkWords w prev p que) prev), hrun _ ?_, ⟨hq.header, ?_,
      hq.nodup.sublist (by simp), fun q hq' => hq.psbs q (hsub hq'), fun q hq' => hq.links q (hsub hq'),
      hring.congr fun q hq' => congrArg _ (Function.update_of_ne (hlinks q (hsub hq')) _ _)⟩,
      (hwords.mono (List.subset_cons_self _ _)).trans (indexesOnly_update List.mem_cons_self _)⟩
    · rw [if_pos (by rw [htail]; rfl), hwords.other hnot]
      exact ends_write hi hd hq.header (hA que List.mem_cons_self)
    · rw [Function.update_self, indexField_withIndex, hprev]
      simp
  · refine ⟨unlinkWords w prev p, hrun _ ?_, ⟨hq.header, ?_,
      hq.nodup.sublist (by simp), fun q hq' => hq.psbs q (hsub hq'), fun q hq' => hq.links q (hsub hq'), hring⟩,
      hwords.mono (List.subset_cons_self _ _)⟩
    · rw [htail, List.getLastD_concat, if_neg (by rintro rfl; exact hpnot.2 (by simp))]
      exact ends_pure ()
    · rw [hwords.other hnot, htail, ← List.append_assoc, List.getLastD_concat, List.getLastD_concat]

end

end Sys2Proof.Machine

namespace Sys2Proof.Machine

/-! ### A process enters a queue behind those of its priority or a higher one (48_process_instructions.md R702) -/

section

variable {s r t : State} {A : Set LongWord} {w w' : LongWord → Word} {que src dst : LongWord} {p c d z : BitVec 10}
  {l m cs a b i : List (BitVec 10)} {n : Nat} {pri : BitVec 3}

/-- The priority of a process, by the words `w` (48_process_instructions.md R677). -/
def priorityIn (w : LongWord → Word) (p : BitVec 10) : BitVec 3 := linkPriority (w (psbLink p))

/-- The search for the place of a process of priority `pri` ends at the last of the processes that are not of a lower one. -/
theorem ends_findPlace (hd : r.devices = []) (hchain : (c :: (cs ++ [d])).IsChain (Follows w))
    (hcs : ∀ q ∈ cs, pri ≤ priorityIn w q) (hlow : priorityIn w d < pri)
    (hr : ∀ q ∈ cs ++ [d], s.canRead (psbLink q) = true) (hn : cs.length < n) :
    s.Ends (s.Shows A w) (findPlace n pri c (w (psbLink c))) r (cs.getLastD c, w (psbLink (cs.getLastD c))) r
      (s.Shows A w) := by
  have hult : ∀ q, ((linkPriority (w (psbLink q))).ult pri = true) = (priorityIn w q < pri) := fun q => by
    simp [priorityIn, BitVec.ult, BitVec.lt_def]
  induction cs generalizing c n with
  | nil =>
    obtain ⟨n, rfl⟩ : ∃ m, n = m + 1 := ⟨n - 1, by omega⟩
    have hc : Follows w c d := by simpa using hchain
    unfold findPlace
    rw [show indexField (w (psbLink c)) = d from hc]
    refine ends_bind (ends_read hd (hr d (by simp))) ?_
    rw [if_pos ((hult d).mpr hlow)]
    exact ends_pure _
  | cons e cs ih =>
    obtain ⟨n, rfl⟩ : ∃ m, n = m + 1 := ⟨n - 1, by omega⟩
    rw [List.cons_append, List.isChain_cons_cons] at hchain
    obtain ⟨hc, hchain⟩ := hchain
    unfold findPlace
    rw [show indexField (w (psbLink c)) = e from hc]
    refine ends_bind (ends_read hd (hr e (by simp))) ?_
    rw [if_neg (by rw [hult e]; exact BitVec.not_lt.mpr (hcs e List.mem_cons_self)), List.getLastD_cons]
    exact ih hchain (fun q hq => hcs q (List.mem_cons_of_mem e hq)) (fun q hq => hr q (by simp at hq ⊢; tauto))
      (by simpa using hn)

/-- The last two stores of `Enqueue` put `p` behind `z` (48_process_instructions.md R702). -/
theorem ends_insertAfter (hi : s.Inv) (hd : r.devices = []) (hp : s.canWrite (psbLink p) = true)
    (hz : s.canWrite (psbLink z) = true) (hpA : psbLink p ∈ A) (hzA : psbLink z ∈ A) (hne : z ≠ p) :
    s.Ends (s.Shows A w) (memWrite (psbLink p) (withIndex (w (psbLink p)) (indexField (w (psbLink z)))) >>= fun _ =>
      memWrite (psbLink z) (withIndex (w (psbLink z)) p)) r () r (s.Shows A (insertAfter w z p)) := by
  refine ends_bind (ends_write hi hd hp hpA) ?_
  rw [insertAfter, relink, relink_other hne]
  exact ends_write hi hd hz hzA

/-- The queue after `p` has entered it between the processes of `a` and of `b`, where its header names the last. -/
theorem queueAt_insertAfter (hq : s.QueueAt w que (a ++ b)) (hp : p ∉ a ++ b) (hp8 : 8 ≤ p.toNat)
    (hpl : s.canWrite (psbLink p) = true) (hring : IsRing w' (a ++ p :: b))
    (htail : indexField (w' que) = (a ++ p :: b).getLastD 0) : s.QueueAt w' que (a ++ p :: b) := by
  have hmem : ∀ q, q ∈ a ++ p :: b ↔ q = p ∨ q ∈ a ++ b := fun q => by
    simp only [List.mem_append, List.mem_cons]
    tauto
  have hperm : (a ++ p :: b).Perm (p :: (a ++ b)) := List.perm_middle
  refine ⟨hq.header, htail, hperm.nodup_iff.mpr (List.nodup_cons.mpr ⟨hp, hq.nodup⟩), fun q h => ?_, fun q h => ?_, hring⟩
  · rcases (hmem q).mp h with rfl | h
    · exact hp8
    · exact hq.psbs q h
  · rcases (hmem q).mp h with rfl | h
    · exact hpl
    · exact hq.links q h

/-- A process enters an empty queue. -/
theorem ends_enqueue_first (hi : s.Inv) (hd : r.devices = []) (hq : s.QueueAt w que []) (hp8 : 8 ≤ p.toNat)
    (hpl : s.canWrite (psbLink p) = true) (hlink : psbLink p ≠ que) (hA : ∀ va ∈ queueWords que [p], va ∈ A) :
    ∃ w', s.Ends (s.Shows A w) (enqueue que p) r () r (s.Shows A w') ∧ s.QueueAt w' que [p]
      ∧ IndexesOnly (queueWords que [p]) w w' := by
  have hpA : psbLink p ∈ queueWords que [p] := List.mem_cons_of_mem _ (mem_links.mpr List.mem_cons_self)
  have hqueA : que ∈ queueWords que [p] := List.mem_cons_self
  have hsame : relink w p p que = w que := Function.update_of_ne hlink.symm _ _
  refine ⟨Function.update (relink w p p) que (withIndex (relink w p p que) p), ?_, ⟨hq.header, ?_, List.nodup_singleton p,
    List.forall_mem_singleton.mpr hp8, List.forall_mem_singleton.mpr hpl, ?_⟩,
    (indexesOnly_relink hpA).trans (indexesOnly_update hqueA p)⟩
  · unfold enqueue
    refine ends_bind (ends_read hd (canRead_of_canWrite hq.header))
      (ends_bind (ends_read hd (canRead_of_canWrite hpl)) ?_)
    rw [if_pos (show indexField (w que) = 0 from hq.tail), hsame]
    exact ends_bind (ends_write hi hd hpl (hA _ hpA)) (ends_write hi hd hq.header (hA _ hqueA))
  · rw [Function.update_self, indexField_withIndex]
    rfl
  · have hring : IsRing (relink w p p) [p] := by
      simpa [isRing_cons] using relink_self w p p
    exact hring.congr fun q hq' =>
      congrArg _ (Function.update_of_ne (by rw [List.mem_singleton.mp hq']; exact hlink) _ _)

/-- The ring after `p` has entered it between the processes of `a` and of `b`, behind `z`. -/
theorem isRing_insertAfter (h : IsRing w (a ++ b)) (hn : (a ++ b).Nodup) (hp : p ∉ a ++ b) (hz : b ++ a = i ++ [z]) :
    IsRing (insertAfter w z p) (a ++ p :: b) := by
  have hnodup : (i ++ [z]).Nodup := hz ▸ List.perm_append_comm.nodup_iff.mp hn
  have hpz : p ∉ i ++ [z] := fun hmem => hp (List.perm_append_comm.mem_iff.mp (hz ▸ hmem))
  have hzi : z ∉ i := fun hmem => (List.nodup_append.mp hnodup).2.2 z hmem z (by simp) rfl
  have hring : IsRing (insertAfter w z p) (b ++ (a ++ [p])) := by
    rw [← List.append_assoc, hz, List.append_assoc]
    exact IsRing.insert (hz ▸ h.rotate) hpz hzi
  simpa using hring.rotate

/-- A process enters a queue of processes of its priority or higher ones, at its end. -/
theorem ends_enqueue_last (hi : s.Inv) (hd : r.devices = []) (hq : s.QueueAt w que (i ++ [z])) (hp : p ∉ i ++ [z])
    (hpl : s.canWrite (psbLink p) = true) (hlinks : ∀ q ∈ p :: (i ++ [z]), psbLink q ≠ que)
    (hA : ∀ va ∈ queueWords que (p :: (i ++ [z])), va ∈ A) (hz : priorityIn w p ≤ priorityIn w z) (hz0 : z ≠ 0) :
    s.Ends (s.Shows A w) (enqueue que p) r () r
      (s.Shows A (insertAfter (Function.update w que (withIndex (w que) p)) z p)) := by
  have htail : indexField (w que) = z := by rw [hq.tail, List.getLastD_concat]
  have hzl := hq.links z (by simp)
  have hpz : z ≠ p := fun he => hp (by simp [he])
  have hlink : ∀ q ∈ p :: (i ++ [z]), Function.update w que (withIndex (w que) p) (psbLink q) = w (psbLink q) :=
    fun q hq' => Function.update_of_ne (hlinks q hq') _ _
  have hinsert := ends_insertAfter (w := Function.update w que (withIndex (w que) p)) (r := r) hi hd hpl hzl
    (hA _ (List.mem_cons_of_mem _ (mem_links.mpr List.mem_cons_self)))
    (hA _ (List.mem_cons_of_mem _ (mem_links.mpr (by simp)))) hpz
  rw [hlink p List.mem_cons_self, hlink z (by simp)] at hinsert
  unfold enqueue
  refine ends_bind (ends_read hd (canRead_of_canWrite hq.header)) (ends_bind (ends_read hd (canRead_of_canWrite hpl)) ?_)
  dsimp only
  rw [htail, if_neg hz0]
  refine ends_bind (ends_read hd (canRead_of_canWrite hzl)) ?_
  rw [if_pos (by simpa [BitVec.ule, BitVec.le_def, priorityIn] using hz)]
  exact ends_bind (ends_write hi hd hq.header (hA _ List.mem_cons_self)) (ends_bind (ends_pure _) hinsert)

/-- A process enters a queue before those of lower priorities. -/
theorem ends_enqueue_amid (hi : s.Inv) (hd : r.devices = []) (hq : s.QueueAt w que (a ++ d :: b)) (hp : p ∉ a ++ d :: b)
    (hpl : s.canWrite (psbLink p) = true) (hA : ∀ va ∈ queueWords que (p :: (a ++ d :: b)), va ∈ A)
    (hahead : ∀ q ∈ a, priorityIn w p ≤ priorityIn w q) (hbehind : ∀ q ∈ d :: b, priorityIn w q < priorityIn w p) :
    s.Ends (s.Shows A w) (enqueue que p) r () r (s.Shows A (insertAfter w ((d :: (b ++ a)).getLastD 0) p)) := by
  have htail : indexField (w que) = b.getLastD d := by rw [hq.tail, getLastD_append, List.getLastD_cons]
  have htailMem : b.getLastD d ∈ d :: b := by
    rcases List.eq_nil_or_concat' b with rfl | ⟨j, y, rfl⟩ <;> simp
  have htailQueue : b.getLastD d ∈ a ++ d :: b := List.mem_append_right _ htailMem
  have htail0 : b.getLastD d ≠ 0 := fun h0 => absurd (hq.psbs _ htailQueue) (by rw [h0]; decide)
  have hlast : (d :: (b ++ a)).getLastD 0 = a.getLastD (b.getLastD d) := by rw [List.getLastD_cons, getLastD_append]
  have hlastQueue : a.getLastD (b.getLastD d) ∈ a ++ d :: b := by
    rcases List.eq_nil_or_concat' a with rfl | ⟨j, y, rfl⟩
    · exact htailQueue
    · simp
  have hring : IsRing w (d :: b ++ a) := hq.ring.rotate
  have hsearch : (b.getLastD d :: (a ++ [d])).IsChain (Follows w) := by
    rw [List.cons_append, isRing_cons] at hring
    rcases List.eq_nil_or_concat' b with rfl | ⟨j, y, rfl⟩
    · exact hring
    · rw [List.getLastD_concat]
      exact (List.isChain_split (l₁ := d :: j)).mp (by simpa using hring) |>.2
  have hbound := nodup_length_le hq.nodup
  simp only [List.length_append, List.length_cons] at hbound
  have hfind := ends_findPlace (s := s) (A := A) hd hsearch hahead (hbehind d List.mem_cons_self)
    (fun q hq' => canRead_of_canWrite (hq.links q (by simp at hq' ⊢; tauto))) (n := ringBound) (by omega)
  unfold enqueue
  refine ends_bind (ends_read hd (canRead_of_canWrite hq.header)) (ends_bind (ends_read hd (canRead_of_canWrite hpl)) ?_)
  dsimp only
  rw [htail, if_neg htail0, hlast]
  refine ends_bind (ends_read hd (canRead_of_canWrite (hq.links _ htailQueue))) ?_
  rw [if_neg (by simpa [BitVec.ule, BitVec.lt_def, priorityIn] using hbehind _ htailMem)]
  exact ends_bind hfind (ends_insertAfter hi hd hpl (hq.links _ hlastQueue)
    (hA _ (List.mem_cons_of_mem _ (mem_links.mpr List.mem_cons_self)))
    (hA _ (List.mem_cons_of_mem _ (mem_links.mpr (List.mem_cons_of_mem _ hlastQueue)))) fun he => hp (he ▸ hlastQueue))

/-- A process enters a queue between those ahead of it and those of a lower priority (48_process_instructions.md R702). -/
theorem ends_enqueue (hi : s.Inv) (hd : r.devices = []) (hq : s.QueueAt w que (a ++ b)) (hp : p ∉ a ++ b) (hp8 : 8 ≤ p.toNat)
    (hpl : s.canWrite (psbLink p) = true) (hlinks : ∀ q ∈ p :: (a ++ b), psbLink q ≠ que)
    (hA : ∀ va ∈ queueWords que (p :: (a ++ b)), va ∈ A) (hahead : ∀ q ∈ a, priorityIn w p ≤ priorityIn w q)
    (hbehind : ∀ q ∈ b, priorityIn w q < priorityIn w p) :
    ∃ w', s.Ends (s.Shows A w) (enqueue que p) r () r (s.Shows A w') ∧ s.QueueAt w' que (a ++ p :: b)
      ∧ IndexesOnly (queueWords que (p :: (a ++ b))) w w' := by
  rcases List.eq_nil_or_concat' (b ++ a) with hnil | ⟨i, z, hz⟩
  · obtain ⟨rfl, rfl⟩ := List.append_eq_nil_iff.mp hnil
    exact ends_enqueue_first hi hd hq hp8 hpl (hlinks p List.mem_cons_self) hA
  have hzmem : z ∈ a ++ b := List.perm_append_comm.mem_iff.mp (by rw [hz]; simp)
  have hz0 : z ≠ 0 := fun h0 => absurd (hq.psbs z hzmem) (by rw [h0]; decide)
  have hqueA : que ∈ queueWords que (p :: (a ++ b)) := List.mem_cons_self
  have hlinkA : ∀ q ∈ p :: (a ++ b), psbLink q ∈ queueWords que (p :: (a ++ b)) := fun q hq' =>
    List.mem_cons_of_mem _ (mem_links.mpr hq')
  have hwords : ∀ w', IndexesOnly (queueWords que (p :: (a ++ b))) w' (insertAfter w' z p) := fun w' =>
    (indexesOnly_relink (hlinkA p List.mem_cons_self)).trans (indexesOnly_relink (hlinkA z (List.mem_cons_of_mem _ hzmem)))
  have hheader : ∀ w', insertAfter w' z p que = w' que := fun w' => by
    rw [insertAfter, relink, Function.update_of_ne (hlinks z (List.mem_cons_of_mem _ hzmem)).symm, relink,
      Function.update_of_ne (hlinks p List.mem_cons_self).symm]
  cases b with
  | nil =>
    obtain rfl : a = i ++ [z] := hz
    rw [List.append_nil] at *
    refine ⟨_, ends_enqueue_last hi hd hq hp hpl hlinks hA (hahead z (by simp)) hz0,
      queueAt_insertAfter (by simpa using hq) (by simpa using hp) hp8 hpl (isRing_insertAfter (i := i) ?_ ?_ ?_ ?_) ?_,
      (indexesOnly_update hqueA p).trans (hwords _)⟩
    · rw [List.append_nil]
      exact hq.ring.congr fun q hq' => congrArg _ (Function.update_of_ne (hlinks q (List.mem_cons_of_mem _ hq')) _ _)
    · simpa using hq.nodup
    · simpa using hp
    · rfl
    · rw [hheader, Function.update_self, indexField_withIndex]
      simp
  | cons d b =>
    have hlast : (d :: (b ++ a)).getLastD 0 = z := by rw [← List.cons_append, hz, List.getLastD_concat]
    have hrun := ends_enqueue_amid hi hd hq hp hpl hA hahead hbehind (r := r)
    rw [hlast] at hrun
    refine ⟨_, hrun, queueAt_insertAfter hq hp hp8 hpl (isRing_insertAfter hq.ring hq.nodup hp hz) ?_, hwords w⟩
    rw [hheader, hq.tail, getLastD_append, getLastD_append, List.getLastD_cons, List.getLastD_cons, List.getLastD_cons]

/-- The addresses of the words that `Requeue` can change: the two headers, and the links of both queues' processes. -/
def requeueWords (src dst : LongWord) (l m : List (BitVec 10)) : List LongWord := [src, dst] ++ (l ++ m).map psbLink

theorem mem_requeueWords {va : LongWord} :
    va ∈ requeueWords src dst l m ↔ va = src ∨ va = dst ∨ va ∈ l.map psbLink ∨ va ∈ m.map psbLink := by
  simp only [requeueWords, List.map_append, List.mem_append, List.mem_cons, List.not_mem_nil, or_false, or_assoc]

/-- Two queues with different headers and no process in common have no word in common. -/
theorem queueWords_disjoint (hne : src ≠ dst) (hl : ∀ q ∈ l, psbLink q ≠ dst) (hm : ∀ q ∈ m, psbLink q ≠ src)
    (hdisjoint : ∀ q ∈ l, q ∉ m) : ∀ va ∈ queueWords src l, va ∉ queueWords dst m := by
  intro va h h'
  rcases List.mem_cons.mp h with rfl | h <;> rcases List.mem_cons.mp h' with h' | h'
  · exact hne h'
  · obtain ⟨q, hq, he⟩ := List.mem_map.mp h'
    exact hm q hq he
  · obtain ⟨q, hq, he⟩ := List.mem_map.mp h
    exact hl q hq (he.trans h')
  · obtain ⟨q, hq, rfl⟩ := List.mem_map.mp h
    exact hdisjoint q hq (mem_links.mp h')

/-- A process goes from its queue to another, or to its place in the same one (48_process_instructions.md R700). -/
theorem ends_requeue (hi : s.Inv) (hd : r.devices = []) (hsrc : s.QueueAt w src l) (hp : p ∈ l) (hsrc0 : src ≠ 0)
    (hdst : src = dst ∧ a ++ b = l.erase p ∨ src ≠ dst ∧ s.QueueAt w dst (a ++ b) ∧ ∀ q ∈ l, q ∉ a ++ b)
    (hlinks : ∀ q : BitVec 10, 8 ≤ q.toNat → psbLink q ≠ src ∧ psbLink q ≠ dst)
    (hA : ∀ va ∈ requeueWords src dst l (a ++ b), va ∈ A) (hahead : ∀ q ∈ a, priorityIn w p ≤ priorityIn w q)
    (hbehind : ∀ q ∈ b, priorityIn w q < priorityIn w p) :
    ∃ w', s.Ends (s.Shows A w) (requeue src dst p) r () r (s.Shows A w') ∧ (src ≠ dst → s.QueueAt w' src (l.erase p))
      ∧ s.QueueAt w' dst (a ++ p :: b) ∧ IndexesOnly (requeueWords src dst l (a ++ b)) w w' := by
  have hp8 := hsrc.psbs p hp
  have hpl := hsrc.links p hp
  have hp0 : p ≠ 0 := by rintro rfl; exact absurd hp8 (by decide)
  have hsrcWords : queueWords src l ⊆ requeueWords src dst l (a ++ b) := fun va h => by
    rw [mem_requeueWords]
    rcases List.mem_cons.mp h with h | h <;> tauto
  have hdstWords : queueWords dst (p :: (a ++ b)) ⊆ requeueWords src dst l (a ++ b) := fun va h => by
    rw [mem_requeueWords]
    rw [queueWords, List.mem_cons, List.map_cons, List.mem_cons] at h
    have : psbLink p ∈ l.map psbLink := mem_links.mpr hp
    rcases h with h | rfl | h <;> tauto
  obtain ⟨w1, hdequeue, hsrc1, hw1⟩ := ends_dequeue (r := r) hi hd hsrc hp (fun q hq => (hlinks q (hsrc.psbs q hq)).1)
    (fun va h => hA va (hsrcWords h)) hsrc0
  have hpriority : ∀ q, priorityIn w1 q = priorityIn w q := fun q => hw1.linkPriority
  have hdst1 : s.QueueAt w1 dst (a ++ b) ∧ p ∉ a ++ b := by
    rcases hdst with ⟨rfl, he⟩ | ⟨hne, hq, hdisjoint⟩
    · rw [he]
      exact ⟨hsrc1, hsrc.nodup.not_mem_erase⟩
    · exact ⟨hq.congr fun va h => congrArg _ (hw1.other (queueWords_disjoint (Ne.symm hne)
        (fun q h => (hlinks q (hq.psbs q h)).1) (fun q h => (hlinks q (hsrc.psbs q h)).2)
        (fun q hm hl => hdisjoint q hl hm) va h)), hdisjoint p hp⟩
  obtain ⟨hdst1, hpm⟩ := hdst1
  have hdst8 : ∀ q ∈ p :: (a ++ b), 8 ≤ q.toNat := List.forall_mem_cons.mpr ⟨hp8, hdst1.psbs⟩
  obtain ⟨w2, henqueue, hdst2, hw2⟩ := ends_enqueue (r := r) (A := A) hi hd hdst1 hpm hp8 hpl
    (fun q hq => (hlinks q (hdst8 q hq)).2) (fun va h => hA va (hdstWords h))
    (fun q hq => by rw [hpriority, hpriority]; exact hahead q hq)
    (fun q hq => by rw [hpriority, hpriority]; exact hbehind q hq)
  refine ⟨w2, ?_, fun hne => ?_, hdst2, (hw1.mono hsrcWords).trans (hw2.mono hdstWords)⟩
  · unfold requeue
    rw [if_neg hp0]
    exact ends_bind hdequeue henqueue
  · obtain ⟨-, -, hdisjoint⟩ := hdst.resolve_left fun h => hne h.1
    refine hsrc1.congr fun va h => congrArg _ (hw2.other (queueWords_disjoint hne
      (fun q h => (hlinks q (hsrc1.psbs q h)).2) (fun q h => (hlinks q (hdst8 q h)).1) (fun q hl hm => ?_) va h))
    rcases List.mem_cons.mp hm with rfl | hm
    · exact hsrc.nodup.not_mem_erase hl
    · exact hdisjoint q (List.mem_of_mem_erase hl) hm

/-- In a queue in order of priorities, all those behind the place of a process are of lower priorities. -/
theorem lt_of_mem_dropWhile (hs : m.Pairwise fun p q => priorityIn w q ≤ priorityIn w p) {q : BitVec 10}
    (hq : q ∈ m.dropWhile fun q => pri ≤ priorityIn w q) : priorityIn w q < pri := by
  induction m with
  | nil => exact absurd hq (by simp)
  | cons x m ih =>
    obtain ⟨hx, hs⟩ := List.pairwise_cons.mp hs
    by_cases hpx : pri ≤ priorityIn w x
    · exact ih hs (by simpa [hpx] using hq)
    · rw [List.dropWhile_cons_of_neg (by simpa using hpx)] at hq
      rcases List.mem_cons.mp hq with rfl | hq
      · exact BitVec.not_le.mp hpx
      · exact Nat.lt_of_le_of_lt (BitVec.le_def.mp (hx q hq)) (BitVec.lt_def.mp (BitVec.not_le.mp hpx))

end

/-- `Requeue` between queues of any length, by what it leaves. -/
theorem requeue_run {s : State} {src dst : LongWord} {psb : BitVec 10} {l m : List (BitVec 10)} (hd : s.devices = [])
    (hi : s.Inv) (hsrc0 : src ≠ 0) (hlinks : ∀ q : BitVec 10, 8 ≤ q.toNat → psbLink q ≠ src ∧ psbLink q ≠ dst)
    (hsrc : s.holdsQueue src l) (hp : psb ∈ l)
    (hdst : src = dst ∧ m = l.erase psb ∨ src ≠ dst ∧ s.holdsQueue dst m ∧ ∀ q ∈ l, q ∉ m)
    (hs : m.Pairwise fun p q => s.priorityOf q ≤ s.priorityOf p) :
    ∃ t, requeue src dst psb s = .ok () t ∧ (src ≠ dst → t.holdsQueue src (l.erase psb))
      ∧ t.holdsQueue dst (m.takeWhile (fun q => s.priorityOf psb ≤ s.priorityOf q)
        ++ psb :: m.dropWhile (fun q => s.priorityOf psb ≤ s.priorityOf q))
      ∧ t.sp = s.sp ∧ t.stack = s.stack ∧ s.sameContext t ∧ s.sameProcess t ∧ s.sameTranslation t
      ∧ (∀ va ∈ requeueWords src dst l m, t.wordAt va &&& 0xE007 = s.wordAt va &&& 0xE007)
      ∧ ∀ key, (∀ va ∈ requeueWords src dst l m, key / 2 ≠ s.realAddress va) → t.byteAt key = s.byteAt key := by
  have hc : s.mapCanonical = true := by obtain ⟨-, hc, -⟩ := hi; exact hc
  have hsplit : (m.takeWhile fun q => priorityIn s.wordAt psb ≤ priorityIn s.wordAt q)
      ++ (m.dropWhile fun q => priorityIn s.wordAt psb ≤ priorityIn s.wordAt q) = m := List.takeWhile_append_dropWhile
  have hwrite : ∀ va ∈ requeueWords src dst l m, s.canWrite va = true := by
    have hdst' : s.canWrite dst = true ∧ ∀ q ∈ m, s.canWrite (psbLink q) = true := by
      rcases hdst with ⟨rfl, rfl⟩ | ⟨-, hq, -⟩
      · exact ⟨(queueAt_wordAt.mpr hsrc).header, fun q h => (queueAt_wordAt.mpr hsrc).links q (List.mem_of_mem_erase h)⟩
      · exact ⟨(queueAt_wordAt.mpr hq).header, (queueAt_wordAt.mpr hq).links⟩
    intro va hva
    rw [mem_requeueWords] at hva
    rcases hva with rfl | rfl | h | h
    · exact (queueAt_wordAt.mpr hsrc).header
    · exact hdst'.1
    · obtain ⟨q, hq, rfl⟩ := List.mem_map.mp h
      exact (queueAt_wordAt.mpr hsrc).links q hq
    · obtain ⟨q, hq, rfl⟩ := List.mem_map.mp h
      exact hdst'.2 q hq
  obtain ⟨w, hrun, hsrc', hdst', hw⟩ := ends_requeue (r := s) (A := {va | va ∈ requeueWords src dst l m})
    (a := m.takeWhile fun q => priorityIn s.wordAt psb ≤ priorityIn s.wordAt q)
    (b := m.dropWhile fun q => priorityIn s.wordAt psb ≤ priorityIn s.wordAt q)
    hi hd (queueAt_wordAt.mpr hsrc) hp hsrc0 (by rw [hsplit, queueAt_wordAt]; exact hdst) hlinks
    (by rw [hsplit]; exact fun _ h => h) (fun q hq => by simpa using List.mem_takeWhile_imp hq)
    fun q hq => lt_of_mem_dropWhile hs hq
  obtain ⟨map, mem, hok, hmap, hshows⟩ := hrun s.map s.mem (sameAccess_self hc) (shows_self hi)
  have hfound : ∀ que l', s.QueueAt w que l' → (s.withMemory map mem).holdsQueue que l' := fun que l' h =>
    h.holdsQueue (canWrite_withMemory hmap s mem) fun va hr => wordAt_of_shows hmap hshows hr
  refine ⟨s.withMemory map mem, hok, fun hne => hfound _ _ (hsrc' hne), hfound _ _ hdst', rfl, rfl,
    ⟨rfl, rfl, rfl, rfl, rfl, rfl⟩, sameProcess_refl s, fun va op => (translate_withMemory hmap s mem va op).symm,
    fun va hva => ?_, fun key hkey => hshows.bytes key hkey⟩
  rw [wordAt_of_shows hmap hshows (canRead_of_canWrite (hwrite va hva))]
  exact hw.masked va

end Sys2Proof.Machine

namespace Sys2Proof.Machine

/-! ### The current process is saved without a state vector (48_process_instructions.md R720, R722) -/

theorem highHalf_toNat (va : LongWord) : (highHalf va).toNat = va.toNat / 65536 := by
  have := va.isLt
  rw [highHalf, BitVec.extractLsb'_toNat, Nat.shiftRight_eq_div_pow]
  omega

/-- An address outside the Process Data Area. -/
theorem outside_toNat {va : LongWord} (h : highHalf va ≠ 1) : va.toNat / 65536 ≠ 1 := fun he =>
  h (BitVec.eq_of_toNat_eq ((highHalf_toNat va).trans he))

/-- The header of the ready queue, and one outside the Process Data Area, are no links of processes. -/
theorem psbLink_ne_header {va : LongWord} (h : va = readyQueue ∨ va.toNat / 65536 ≠ 1 ∨ va.toNat < 65600) {q : BitVec 10} (hq : 8 ≤ q.toNat) :
    psbLink q ≠ va := by
  have hlink := psbLink_toNat q
  have hbound := q.isLt
  have hready := readyQueue_toNat
  refine address_ne ?_
  rcases h with rfl | h | h <;> omega

/-- The words after the current process is saved without a state vector: `PC` in its frame, its frame in its PSB, and its
preempted bit clear (48_process_instructions.md R722). -/
def State.pauseWords (r : State) (w : LongWord → Word) : LongWord → Word :=
  Function.update (Function.update (Function.update w (r.lengthen (r.lf - 1)) r.pc) (psbContext r.psb) r.lf)
    (psbLink r.psb) (Machine.withBit (w (psbLink r.psb)) preemptedBit false)

section

variable {s r r1 : State} {A : Set LongWord} {w w' : LongWord → Word} {va : LongWord} {P P1 : List Host.Cell → Prop}

theorem ends_saveProcess_pause (hi : s.Inv) (hd : r.devices = []) (hmds : s.mds = r.mds) (hpc : 8 ≤ r.pc.toNat)
    (hl : s.canWrite (psbLink r.psb) = true) (hx : s.canWrite (psbContext r.psb) = true)
    (hf : s.canWrite (s.lengthen (r.lf - 1)) = true) (hperm : (w (psbLink r.psb)).getLsbD permanentBit = false) :
    s.Ends (s.Shows Set.univ w) (saveProcess false) r () r (s.Shows Set.univ (r.pauseWords w)) := by
  have hlen : s.lengthen (r.lf - 1) = r.lengthen (r.lf - 1) := congrArg (mkLong _) hmds
  rw [hlen] at hf
  have hsave : s.Ends (s.Shows Set.univ w) savePC r () r
      (s.Shows Set.univ (Function.update w (r.lengthen (r.lf - 1)) r.pc)) :=
    ends_savePC hd hpc hf fun mem hm => shows_write hi hf (Set.mem_univ _) hm
  refine ends_noAbort _ (ends_getState fun map mem => ends_bind (ends_read hd (canRead_of_canWrite hl)) (ends_bind hsave ?_))
  dsimp only [State.withMemory]
  rw [if_neg Bool.false_ne_true, hperm, if_neg Bool.false_ne_true]
  exact ends_bind (ends_write hi hd hx) (ends_write hi hd hl)

/-- The process's own words after it is saved. -/
theorem pauseWords_saved (hmds : r.mds ≠ 1) : r.pauseWords w (psbLink r.psb) = withBit (w (psbLink r.psb)) preemptedBit false
    ∧ r.pauseWords w (psbContext r.psb) = r.lf ∧ r.pauseWords w (r.lengthen (r.lf - 1)) = r.pc := by
  have hpsb := psb_toNat r.psb
  have hbound := r.psb.isLt
  have hlen := lengthen_toNat r (r.lf - 1)
  have hlf := (r.lf - 1).isLt
  have hone : r.mds.toNat ≠ 1 := fun he => hmds (BitVec.eq_of_toNat_eq he)
  refine ⟨?_, ?_, ?_⟩ <;> simp (disch := omega) only [State.pauseWords, update_other, Function.update_self]

/-- Other words of the Process Data Area are as before. -/
theorem pauseWords_other (hmds : r.mds ≠ 1) (harea : va.toNat / 65536 = 1) (hlink : va ≠ psbLink r.psb)
    (hcontext : va ≠ psbContext r.psb) : r.pauseWords w va = w va := by
  have hlen := lengthen_toNat r (r.lf - 1)
  have hlf := (r.lf - 1).isLt
  have hone : r.mds.toNat ≠ 1 := fun he => hmds (BitVec.eq_of_toNat_eq he)
  rw [State.pauseWords, Function.update_of_ne hlink, Function.update_of_ne hcontext, update_other (by omega)]

/-- Outside the Process Data Area the word of `PC` alone changes. -/
theorem pauseWords_outside (hout : va.toNat / 65536 ≠ 1) :
    r.pauseWords w va = Function.update w (r.lengthen (r.lf - 1)) r.pc va := by
  have hpsb := psb_toNat r.psb
  have hbound := r.psb.isLt
  rw [State.pauseWords, update_other (by omega), update_other (by omega)]

/-- With an empty ready queue no process runs, where interrupts are enabled (48_process_instructions.md R720). -/
theorem ends_resume_none (hd : r.devices = []) (hq : s.canRead readyQueue = true) (hempty : indexField (w readyQueue) = 0)
    (hw : r.wdc = 0) :
    s.Ends (s.Shows A w) (chooseProcess >>= resume) r () { r with running := false } (s.Shows A w) := by
  have hchoose : s.Ends (s.Shows A w) chooseProcess r none r (s.Shows A w) := by
    unfold chooseProcess
    refine ends_bind (ends_read hd hq) ?_
    rw [if_pos hempty]
    exact ends_pure none
  refine ends_bind hchoose (ends_getState fun map mem => ?_)
  rw [if_pos (show (r.withMemory map mem).wdc = 0 from hw)]
  exact ends_update (f := fun s => { s with running := false })

theorem ends_refuseProtected {m : M Unit} (hm : s.Ends P m r () r1 P1) : s.Ends P (refuseProtected va m) r () r1 P1 := by
  intro map mem hs hP
  obtain ⟨map', mem', hrun, h⟩ := hm map mem hs hP
  exact ⟨map', mem', by rw [refuseProtected, hrun], h⟩

/-! ### The only ready process leaves (48_process_instructions.md R700, R720, R722) -/

theorem queueAt_nil {que : LongWord} (hq : s.canWrite que = true) (hempty : indexField (w que) = 0) : s.QueueAt w que [] :=
  ⟨hq, hempty, List.nodup_nil, by simp, by simp, fun _ h => absurd h (by simp)⟩

theorem queueAt_singleton {que : LongWord} {p : BitVec 10} (hq : s.canWrite que = true) (hp : 8 ≤ p.toNat)
    (hl : s.canWrite (psbLink p) = true) (htail : indexField (w que) = p) (hring : indexField (w (psbLink p)) = p) :
    s.QueueAt w que [p] :=
  ⟨hq, htail, List.nodup_singleton p, by simpa using hp, by simpa using hl,
    isRing_cons.mpr (List.isChain_pair.mpr hring)⟩

/-- The words `w` are those of `s` as far as the ready queue, whose only process is the current one, and its saving are
concerned. -/
structure State.SoleAt (s r : State) (w : LongWord → Word) : Prop where
  devices : r.devices = []
  registers : r.psb = s.psb ∧ r.mds = s.mds ∧ r.lf = s.lf ∧ r.pc = s.pc ∧ r.running = true
  savable : s.savable
  queue : s.QueueAt w readyQueue [s.psb]
  permanent : (w (psbLink s.psb)).getLsbD permanentBit = false

/-- The current process goes from the ready queue to an empty queue, and no process runs. -/
theorem ends_parks (hi : s.Inv) (h : s.SoleAt r w) (hw : r.wdc = 0) (hva : highHalf va ≠ 1) (hq : s.canWrite va = true)
    (hempty : indexField (w va) = 0) :
    ∃ w1, s.Ends (s.Shows Set.univ w) (requeue readyQueue va s.psb) r () r (s.Shows Set.univ w1)
      ∧ s.Ends (s.Shows Set.univ w1) (reschedule false) r () { r with running := false } (s.Shows Set.univ (s.pauseWords w1))
      ∧ s.QueueAt w1 readyQueue [] ∧ s.QueueAt w1 va [s.psb] ∧ IndexesOnly [readyQueue, va, psbLink s.psb] w w1 := by
  obtain ⟨hpsb, hmds, hlf, hpc, hrun⟩ := h.registers
  obtain ⟨-, hp8, hmds1, hpc8, hwrites, -⟩ := h.savable
  simp only [State.canWriteAll, List.all_cons, List.all_nil, Bool.and_true, Bool.and_eq_true] at hwrites
  obtain ⟨hready, hl, -, hx, -, hf⟩ := hwrites
  have hout := outside_toNat hva
  have hne : readyQueue ≠ va := address_ne (by have := readyQueue_toNat; omega)
  obtain ⟨w1, hmove, hleft, hthere, hw1⟩ := ends_requeue (a := []) (b := []) (A := Set.univ) (dst := va) hi h.devices h.queue
    (List.mem_singleton_self _) (by decide) (.inr ⟨hne, queueAt_nil hq hempty, by simp⟩)
    (fun q hq8 => ⟨psbLink_ne_header (.inl rfl) hq8, psbLink_ne_header (.inr (.inl hout)) hq8⟩) (by simp) (by simp) (by simp)
  rw [List.erase_cons_head] at hleft
  refine ⟨w1, hmove, ?_, hleft hne, hthere, hw1⟩
  have hsame : r.pauseWords w1 = s.pauseWords w1 := by simp only [State.pauseWords, State.lengthen, hpsb, hmds, hlf, hpc]
  have hsave := ends_saveProcess_pause (r := r) (w := w1) hi h.devices hmds.symm (hpc ▸ hpc8) (hpsb ▸ hl) (hpsb ▸ hx) (hlf ▸ hf)
    (by rw [hpsb, hw1.getLsbD (by decide), h.permanent])
  rw [hsame] at hsave
  refine ends_reschedule_running hrun hsave (ends_resume_none h.devices (canRead_of_canWrite hready) ?_ hw)
  have hnot : readyQueue ≠ psbLink s.psb ∧ readyQueue ≠ psbContext s.psb := by
    have hpsb := psb_toNat s.psb
    have hready := readyQueue_toNat
    exact ⟨address_ne (by omega), address_ne (by omega)⟩
  rw [pauseWords_other hmds1 (by decide) hnot.1 hnot.2]
  exact (hleft hne).tail

theorem soleAt_of_sole (hsole : s.soleProcess) {n : Nat} (hd : s.devices = []) (hqueue : w readyQueue = s.wordAt readyQueue)
    (hindex : indexField (w (psbLink s.psb)) = indexField (s.wordAt (psbLink s.psb)))
    (hperm : (w (psbLink s.psb)).getLsbD permanentBit = (s.wordAt (psbLink s.psb)).getLsbD permanentBit) :
    s.SoleAt (s.dropped n) w := by
  obtain ⟨hsavable, htail, hring⟩ := hsole
  obtain ⟨hrun, hp8, -, -, hwrites, hpermanent⟩ := id hsavable
  simp only [State.canWriteAll, List.all_cons, List.all_nil, Bool.and_true, Bool.and_eq_true] at hwrites
  obtain ⟨hready, hl, -⟩ := hwrites
  exact
    { devices := hd, registers := ⟨rfl, rfl, rfl, rfl, hrun⟩, savable := hsavable
      queue := queueAt_singleton hready hp8 hl (hqueue.symm ▸ htail) (hindex.trans hring)
      permanent := hperm.trans hpermanent }

/-- What `State.parked` says, by the words of memory. -/
theorem parked_of_shows {map : List (Nat × MapEntry)} {mem : List Host.Cell} (hmap : s.sameAccess map)
    (hshows : s.Shows Set.univ (s.pauseWords w) mem) (hsavable : s.savable) (hout : s.outside va) (hpsb : r.psb = s.psb)
    (hrun : r.running = false) (hleft : s.QueueAt w readyQueue []) (hthere : s.QueueAt w va [s.psb]) :
    s.parked (r.withMemory map mem) va := by
  obtain ⟨-, hp8, hmds1, -, hwrites, -⟩ := hsavable
  obtain ⟨-, hpda, hmds⟩ := hout
  simp only [State.canWriteAll, List.all_cons, List.all_nil, Bool.and_true, Bool.and_eq_true] at hwrites
  obtain ⟨-, hl, -, hx, -, hf⟩ := hwrites
  obtain ⟨hsLink, hsContext, hsFrame⟩ := pauseWords_saved (w := w) hmds1
  have hsee : ∀ va, s.canWrite va = true → (r.withMemory map mem).wordAt va = s.pauseWords w va := fun va h =>
    wordAt_of_shows hmap hshows (canRead_of_canWrite h)
  have hready := readyQueue_toNat
  have hpsbs := psb_toNat s.psb
  have hring : indexField (w (psbLink s.psb)) = s.psb := by
    simpa [isRing_cons, Follows] using hthere.ring
  have hframe : va ≠ s.lengthen (s.lf - 1) := fun he => hmds (by rw [he, State.lengthen, highHalf_mkLong])
  refine ⟨hrun, ?_, ?_, ?_, ?_, ?_, hpsb⟩
  · rw [hsee _ hleft.header, pauseWords_other hmds1 (by decide) (address_ne (by omega)) (address_ne (by omega))]
    exact hleft.tail
  · rw [hsee _ hthere.header, pauseWords_outside (outside_toNat hpda), Function.update_of_ne hframe]
    exact hthere.tail
  · rw [hsee _ hl, hsLink, indexField_withBit _ _ (by decide), hring]
  · rw [hsee _ hx, hsContext]
  · rw [hsee _ hf, hsFrame]

/-- An instruction that moves the only ready process to an empty queue, in the words `w`, and then reschedules, stops the
processor. -/
theorem run_parks {m : M Unit} (hi : s.Inv) (h : s.SoleAt r w) (hw : s.wdc = 0) (hwdc : r.wdc = s.wdc) (hout : s.outside va)
    (hempty : indexField (w va) = 0)
    (hm : ∀ r' P1 P', s.Ends (s.Shows Set.univ w) (requeue readyQueue va s.psb) r () r P1 →
      s.Ends P1 (reschedule false) r () r' P' → s.Ends (s.Shows Set.univ s.wordAt) m s () r' P') :
    ∃ t, run m s = .next t ∧ s.parked t va
      ∧ (t.wordAt (psbLink s.psb)).getLsbD failedBit = (w (psbLink s.psb)).getLsbD failedBit
      ∧ ∀ x, s.canRead x = true → x ≠ readyQueue → x ≠ va → x ≠ psbLink s.psb → x ≠ psbContext s.psb →
        x ≠ s.lengthen (s.lf - 1) → t.wordAt x = w x := by
  obtain ⟨hq, hpda, -⟩ := id hout
  obtain ⟨w1, hmove, hresched, hleft, hthere, hw1⟩ := ends_parks hi h (hwdc.trans hw) hpda hq hempty
  obtain ⟨map, mem, hrun, hmap, hshows⟩ := hm _ _ _ hmove hresched s.map s.mem
    (sameAccess_self (by obtain ⟨-, hc, -⟩ := hi; exact hc)) (shows_self hi)
  obtain ⟨hpsb, -⟩ := h.registers
  obtain ⟨-, -, hmds1, -, hwrites, -⟩ := id h.savable
  simp only [State.canWriteAll, List.all_cons, List.all_nil, Bool.and_true, Bool.and_eq_true] at hwrites
  obtain ⟨hsLink, -⟩ := pauseWords_saved (w := w1) hmds1
  refine ⟨_, run_ok hrun, parked_of_shows hmap hshows h.savable hout hpsb rfl hleft hthere, ?_, fun x hr h1 h2 h3 h4 h5 => ?_⟩
  · rw [wordAt_of_shows hmap hshows (canRead_of_canWrite hwrites.2.1), hsLink, getLsbD_withBit _ _ (by decide),
      if_neg (by decide), hw1.getLsbD (by decide)]
  · rw [wordAt_of_shows hmap hshows hr, State.pauseWords, Function.update_of_ne h3, Function.update_of_ne h4,
      Function.update_of_ne h5, hw1.other (by simp [h1, h2, h3])]

end

/-! ### The instructions that park the current process -/

section

variable {s r : State} {P : List Host.Cell → Prop} {n : Nat}

theorem ends_pop (h : n < r.sp.val) : s.Ends P pop (r.dropped n) (r.top n) (r.dropped (n + 1)) P :=
  ends_registers fun map mem => pop_run (s := (r.dropped n).withMemory map mem) (show 0 < r.sp.val - n by omega)

theorem ends_popLong_dropped (h : n + 1 < r.sp.val) :
    s.Ends P popLong (r.dropped n) (r.topLong n) (r.dropped (n + 2)) P :=
  ends_bind (ends_pop (by omega)) (ends_bind (ends_pop h) (ends_pure _))

theorem ends_read_eq {A : Set LongWord} {w : LongWord → Word} {va : LongWord} {v : Word} (hd : r.devices = [])
    (hr : s.canRead va = true) (hv : w va = v) : s.Ends (s.Shows A w) (memRead va) r v r (s.Shows A w) :=
  hv ▸ ends_read hd hr

theorem ends_minimalStack_dropped (h : r.sp.val = n) : s.Ends P minimalStack (r.dropped n) () (r.dropped n) P :=
  ends_minimalStack (show r.sp.val - n = 0 by omega)

end

section

variable {s : State} {m c : LongWord}

/-- `REQ` of the current process (48_process_instructions.md R698). -/
theorem exec_req_parks (hi : s.Inv) (hd : s.devices = []) (hw : s.wdc = 0) (hsole : s.soleProcess) (hc : s.outside c)
    (hsp : s.sp.val = 5) (hpsb : psbIndex (s.top 0) = s.psb) (hdst : s.topLong 1 = c) (hsrc : s.topLong 3 = readyQueue)
    (hempty : indexField (s.wordAt c) = 0) : ∃ t, exec .req s = .next t ∧ s.parked t c := by
  obtain ⟨t, hrun, hparked, -⟩ := run_parks (m := doReq) hi (soleAt_of_sole (n := 5) hsole hd rfl rfl rfl) hw rfl hc hempty
    fun r' P1 P' hmove hresched => by
      refine ends_bind (ends_pop (n := 0) (by omega)) (ends_bind (ends_popLong_dropped (by omega))
        (ends_bind (ends_popLong_dropped (by omega)) (ends_bind (ends_minimalStack_dropped hsp) ?_)))
      rw [hpsb, hdst, hsrc]
      exact ends_bind hmove hresched
  exact ⟨t, hrun, hparked⟩

/-- The current process enters the queue of a locked monitor (48_process_instructions.md R691). -/
theorem run_enterFailed_parks {d : M Unit} (hi : s.Inv) (hd : s.devices = []) (hw : s.wdc = 0) (hsole : s.soleProcess)
    (hm : s.outside m) (hempty : indexField (s.wordAt m) = 0)
    (hrun : ∀ r' P', s.Ends (s.Shows Set.univ s.wordAt) (enterFailed m) (s.dropped n) () r' P' →
      s.Ends (s.Shows Set.univ s.wordAt) d s () r' P') :
    ∃ t, run d s = .next t ∧ s.parked t m ∧ (t.wordAt (psbLink s.psb)).getLsbD failedBit = true := by
  obtain ⟨⟨-, hp8, -, -, hwrites, -⟩, -⟩ := id hsole
  simp only [State.canWriteAll, List.all_cons, List.all_nil, Bool.and_true, Bool.and_eq_true] at hwrites
  obtain ⟨-, hl, -⟩ := hwrites
  have hlinkNat := psbLink_toNat s.psb
  have hbound := s.psb.isLt
  have hready := readyQueue_toNat
  obtain ⟨-, hpda, -⟩ := id hm
  have hmNat := outside_toNat hpda
  set w := Function.update s.wordAt (psbLink s.psb) (withBit (s.wordAt (psbLink s.psb)) failedBit true) with hwdef
  have hlink : w (psbLink s.psb) = withBit (s.wordAt (psbLink s.psb)) failedBit true := Function.update_self ..
  have hsole' : s.SoleAt (s.dropped n) w := soleAt_of_sole hsole hd (update_other (by omega)) (by rw [hlink, indexField_withBit _ _ (by decide)])
    (by rw [hlink, getLsbD_withBit _ _ (by decide), if_neg (by decide)])
  obtain ⟨t, hrun, hparked, hfailed, -⟩ := run_parks (m := d) hi hsole' hw rfl hm
    (by rw [hwdef, update_other (by omega), hempty])
    fun r' P1 P' hmove hresched => by
      refine hrun _ _ (ends_getState fun _ _ => ends_bind (ends_read hd (canRead_of_canWrite hl)) (ends_bind (ends_write hi hd hl) ?_))
      exact ends_bind (ends_refuseProtected hmove) hresched
  refine ⟨t, hrun, hparked, ?_⟩
  rw [hfailed, hlink, getLsbD_withBit_self _ _ (by decide)]

/-- The words after the current process has given up the monitor at `m` and begun to wait, before it leaves the ready queue
(48_process_instructions.md R693). -/
def State.waitWords (s : State) (m : LongWord) (timeout : Word) : LongWord → Word :=
  Function.update (Function.update (Function.update s.wordAt m (Machine.withBit (s.wordAt m) lockedBit false))
    (psbTimeout s.psb) timeout) (psbFlags s.psb) (Machine.withBit (s.wordAt (psbFlags s.psb)) waitingBit true)

/-- An exit from a monitor that nobody wants to enter (48_process_instructions.md R692). -/
theorem ends_exitMonitor_alone {r : State} {w : LongWord → Word} (hi : s.Inv) (hd : r.devices = []) (hm : s.canWrite m = true)
    (hlocked : (w m).getLsbD lockedBit = true) (hempty : indexField (w m) = 0) :
    s.Ends (s.Shows Set.univ w) (exitMonitor m) r false r
      (s.Shows Set.univ (Function.update w m (withBit (w m) lockedBit false))) := by
  unfold exitMonitor
  refine ends_bind (ends_read hd (canRead_of_canWrite hm)) ?_
  rw [if_pos hlocked, if_pos hempty]
  exact ends_bind (ends_write hi hd hm) (ends_pure false)

/-- `MW` on a condition without a wakeup (48_process_instructions.md R693). -/
theorem exec_mw_parks (hi : s.Inv) (hd : s.devices = []) (hw : s.wdc = 0) (hsole : s.soleProcess) (hm : s.outside m)
    (hc : s.outside c) (hne : m ≠ c) (hsp : s.sp.val = 5) (hcond : s.topLong 1 = c) (hmon : s.topLong 3 = m)
    (hlocked : (s.wordAt m).getLsbD lockedBit = true) (hempty : indexField (s.wordAt m) = 0)
    (hnobody : indexField (s.wordAt c) = 0) (hwakeup : (s.wordAt c).getLsbD wakeupBit = false)
    (habort : ((s.wordAt (psbFlags s.psb)).getLsbD abortBit && (s.wordAt c).getLsbD abortableBit) = false) :
    ∃ t, exec .mw s = .next t ∧ s.parked t c ∧ (t.wordAt m).getLsbD lockedBit = false
      ∧ (t.wordAt (psbFlags s.psb)).getLsbD waitingBit = true
      ∧ t.wordAt (psbTimeout s.psb) = waitTimeout s.ptc (s.top 0) := by
  obtain ⟨⟨-, hp8, hmds1, -, hwrites, -⟩, -⟩ := id hsole
  obtain ⟨hmw, hmpda, hmmds⟩ := id hm
  obtain ⟨hcw, hcpda, -⟩ := id hc
  simp only [State.canWriteAll, List.all_cons, List.all_nil, Bool.and_true, Bool.and_eq_true] at hwrites
  obtain ⟨-, -, hf, -, ht, -⟩ := hwrites
  have hpsb := psb_toNat s.psb
  have hbound := s.psb.isLt
  have hready := readyQueue_toNat
  have hmNat := outside_toNat hmpda
  have hcNat := outside_toNat hcpda
  have hlen := lengthen_toNat s (s.lf - 1)
  have hlf := (s.lf - 1).isLt
  have hone : s.mds.toNat ≠ 1 := fun he => hmds1 (BitVec.eq_of_toNat_eq he)
  have hfm : (psbFlags s.psb).toNat ≠ m.toNat := by omega
  have hframe : m ≠ s.lengthen (s.lf - 1) := fun he => hmmds (by rw [he, State.lengthen, highHalf_mkLong])
  obtain ⟨t, hrun, hparked, -, hother⟩ := run_parks (m := doMw) (w := s.waitWords m (waitTimeout s.ptc (s.top 0))) hi
    (soleAt_of_sole (n := 5) hsole hd (by simp (disch := omega) only [State.waitWords, update_other])
      (by simp (disch := omega) only [State.waitWords, update_other])
      (by simp (disch := omega) only [State.waitWords, update_other])) hw rfl hc
    (by simp (disch := omega) only [State.waitWords, update_other, Function.update_of_ne hne.symm, hnobody])
    fun r' P1 P' hmove hresched => by
      refine ends_bind (ends_pop (n := 0) (by omega)) (ends_bind (ends_popLong_dropped (by omega))
        (ends_bind (ends_popLong_dropped (by omega)) (ends_bind (ends_minimalStack_dropped hsp) ?_)))
      rw [hcond, hmon]
      refine ends_bind (ends_cleanupCondition hd (canRead_of_canWrite hcw) (.inl hnobody))
        (ends_bind (ends_exitMonitor_alone hi hd hmw hlocked hempty) (ends_getState fun _ _ => ?_))
      refine ends_bind (ends_read_eq (v := s.wordAt (psbFlags s.psb)) hd (canRead_of_canWrite hf) (update_other hfm))
        (ends_bind (ends_read_eq hd (canRead_of_canWrite hcw) (Function.update_of_ne hne.symm _ _)) ?_)
      rw [habort, if_neg Bool.false_ne_true, hwakeup, if_neg Bool.false_ne_true]
      refine ends_bind (a := ()) (ends_getState fun _ _ => ?_) hresched
      exact ends_bind (ends_write hi hd ht) (ends_bind (ends_write hi hd hf) (ends_refuseProtected hmove))
  refine ⟨t, hrun, hparked, ?_, ?_, ?_⟩
  · rw [hother m (canRead_of_canWrite hmw) (address_ne (by omega)) hne (address_ne (by omega)) (address_ne (by omega)) hframe]
    simp (disch := omega) only [State.waitWords, update_other, Function.update_self]
    exact getLsbD_withBit_self _ _ (by decide)
  · rw [hother _ (canRead_of_canWrite hf) (address_ne (by omega)) (address_ne (by omega)) (address_ne (by omega))
      (address_ne (by omega)) (address_ne (by omega)), State.waitWords, Function.update_self]
    exact getLsbD_withBit_self _ _ (by decide)
  · rw [hother _ (canRead_of_canWrite ht) (address_ne (by omega)) (address_ne (by omega)) (address_ne (by omega))
      (address_ne (by omega)) (address_ne (by omega))]
    simp (disch := omega) only [State.waitWords, update_other, Function.update_self]

/-- Settles O52. -/
theorem blockedProcessStopsProcessor : Obligations.BlockedProcessStopsProcessor := by
  intro s m c hd hi hw hsole hm hc hne
  refine ⟨exec_req_parks hi hd hw hsole hc, exec_mw_parks hi hd hw hsole hm hc hne, fun hsp hmon hlocked hempty => ?_,
    fun hsp hmon hlocked hempty => ?_⟩
  · refine run_enterFailed_parks (d := doMe) (n := 2) hi hd hw hsole hm hempty fun r' P' henter => ?_
    refine ends_bind (ends_popLong_dropped (n := 0) (by omega)) (ends_bind (ends_minimalStack_dropped hsp) ?_)
    rw [hmon]
    refine ends_bind (ends_read hd (canRead_of_canWrite hm.1)) ?_
    rw [if_pos hlocked]
    exact henter
  · refine run_enterFailed_parks (d := doMr) (n := 4) hi hd hw hsole hm hempty fun r' P' henter => ?_
    refine ends_bind (ends_popLong_dropped (n := 0) (by omega)) (ends_bind (ends_popLong_dropped (by omega))
      (ends_bind (ends_minimalStack_dropped hsp) ?_))
    rw [hmon]
    refine ends_bind (ends_read hd (canRead_of_canWrite hm.1)) ?_
    rw [if_pos hlocked]
    exact henter

end

end Sys2Proof.Machine

namespace Sys2Proof.Machine

/-! ### A process of another priority (48_process_instructions.md R677, R699) -/

@[simp] theorem linkPriority_withPriority (w : Word) (pri : BitVec 3) : linkPriority (withPriority w pri) = pri := by
  ext k hk
  simp only [linkPriority, withPriority, BitVec.getElem_extractLsb', BitVec.getLsbD_or, BitVec.getLsbD_and,
    BitVec.getLsbD_shiftLeft, BitVec.getLsbD_setWidth]
  interval_cases k <;> simp

theorem getLsbD_withPriority (w : Word) (pri : BitVec 3) {k : Nat} (hk : k < 13) :
    (withPriority w pri).getLsbD k = w.getLsbD k := by
  simp only [withPriority, BitVec.getLsbD_or, BitVec.getLsbD_and, BitVec.getLsbD_shiftLeft]
  interval_cases k <;> simp

@[simp] theorem indexField_withPriority (w : Word) (pri : BitVec 3) : indexField (withPriority w pri) = indexField w := by
  ext k hk
  rw [indexField, indexField, BitVec.getElem_extractLsb', BitVec.getElem_extractLsb', getLsbD_withPriority _ _ (by omega)]

/-! ### The frame of a process that goes on in its MDS -/

section

variable {s b r : State} {w w1 : LongWord → Word} {mds frame gf pc : Word} {cb va : LongWord}

/-- A context is found where the words that `XFER` reads are those of `b`. -/
theorem framedIn_of_agree (htrans : b.sameTranslation s) (hmds : b.mds = mds) (hf : b.hasFrame frame gf cb pc)
    (hw : ∀ va ∈ [mkLong (frame - 2) mds, mkLong (gf - 2) mds, mkLong (gf - 2) mds + 1, mkLong (frame - 1) mds],
      s.canRead va = true → w va = b.wordAt va) : s.framedIn (s.Shows Set.univ w) mds frame gf cb pc := by
  intro mem hm
  have hlen : ∀ p, b.lengthen p = mkLong p mds := fun p => congrArg (mkLong p) hmds
  have hread : ∀ va, State.canRead { s with mds := mds, mem := mem } va = b.canRead va :=
    fun va => congrArg Except.isOk (htrans va .read).symm
  have hsee : ∀ va, b.canRead va = true → (s.canRead va = true → w va = b.wordAt va) →
      State.wordAt { s with mds := mds, mem := mem } va = b.wordAt va := fun va hr h => by
    have hr' : s.canRead va = true := (hread va).trans hr
    exact (hm.words va hr').trans (h hr')
  obtain ⟨hframe, htag, hgf0, hpc, heven, hreads, hgfAt, hcbAt, hpcAt⟩ := hf
  simp only [State.canReadAll, List.all_cons, List.all_nil, Bool.and_true, Bool.and_eq_true, hlen, State.longAt] at *
  simp only [List.forall_mem_cons] at hw
  obtain ⟨hwGf, hwLow, hwHigh, hwPc, -⟩ := hw
  obtain ⟨hrGf, hrLow, hrHigh, hrPc⟩ := hreads
  refine ⟨hframe, htag, hgf0, hpc, heven, ?_, (hsee _ hrGf hwGf).trans hgfAt,
    (congrArg₂ mkLong (hsee _ hrLow hwLow) (hsee _ hrHigh hwHigh)).trans hcbAt, (hsee _ hrPc hwPc).trans hpcAt⟩
  simp only [State.canReadAll, List.all_cons, List.all_nil, Bool.and_true, Bool.and_eq_true, hread]
  exact ⟨hrGf, hrLow, hrHigh, hrPc⟩

/-- Behind a word of an MDS other than the Process Data Area stands none of that area but the header of the ready queue. -/
theorem mkLong_succ_area (low : Word) (hmds : mds ≠ 1) :
    (mkLong low mds + 1).toNat / 65536 ≠ 1 ∨ mkLong low mds + 1 = readyQueue := by
  have hone : mds.toNat ≠ 1 := fun he => hmds (BitVec.eq_of_toNat_eq he)
  have hlow := low.isLt
  have hbound := mds.isLt
  have hnat : (mkLong low mds + 1).toNat = (65536 * mds.toNat + low.toNat + 1) % 4294967296 := by
    rw [BitVec.toNat_add, mkLong_toNat]
    rfl
  by_cases h : mds.toNat = 0 ∧ low.toNat = 65535
  · refine .inr (BitVec.eq_of_toNat_eq ?_)
    rw [hnat, readyQueue_toNat]
    omega
  · exact .inl (by omega)

theorem mkLong_area (low : Word) (hmds : mds ≠ 1) : (mkLong low mds).toNat / 65536 ≠ 1 := by
  have hone : mds.toNat ≠ 1 := fun he => hmds (BitVec.eq_of_toNat_eq he)
  have hlow := low.isLt
  rw [mkLong_toNat]
  omega

/-- The frame of the current process is as it was but for its `PC`, once the process has been requeued in the ready queue and
saved; `GF` may be 1 here, and the word behind the MDS the header of that queue. -/
theorem framedIn_paused (hi : s.Inv) (hmds : s.mds ≠ 1) (hp8 : 8 ≤ s.psb.toNat) (hframe : s.canWrite (s.lengthen (s.lf - 1)) = true)
    (hready : w1 readyQueue = s.wordAt readyQueue) (hw1 : ∀ va, va.toNat / 65536 ≠ 1 → w1 va = s.wordAt va)
    (hf : (s.stored (s.lengthen (s.lf - 1)) s.pc).hasFrame s.lf gf cb s.pc) :
    s.framedIn (s.Shows Set.univ (s.pauseWords w1)) s.mds s.lf gf cb s.pc := by
  have hc : s.mapCanonical = true := by obtain ⟨-, hc, -⟩ := hi; exact hc
  have hpsb := psb_toNat s.psb
  have hrq := readyQueue_toNat
  have hagree : ∀ va, va.toNat / 65536 ≠ 1 ∨ va = readyQueue → s.canRead va = true →
      s.pauseWords w1 va = (s.stored (s.lengthen (s.lf - 1)) s.pc).wordAt va := by
    intro va hva hr
    rw [wordAt_stored_update hi hframe hr]
    rcases hva with hout | rfl
    · rw [pauseWords_outside hout, Function.update_apply, Function.update_apply, hw1 va hout]
    · rw [pauseWords_other hmds (by decide) (address_ne (by omega)) (address_ne (by omega)), hready,
        Function.update_of_ne fun he => mkLong_area (s.lf - 1) hmds (by rw [← State.lengthen, ← he]; decide)]
  refine framedIn_of_agree (b := s.stored (s.lengthen (s.lf - 1)) s.pc) (translate_stored hc hframe)
    (State.stored_mds ..) hf fun va hva hr => hagree va ?_ hr
  simp only [List.mem_cons, List.not_mem_nil, or_false] at hva
  rcases hva with rfl | rfl | rfl | rfl
  · exact .inl (mkLong_area _ hmds)
  · exact .inl (mkLong_area _ hmds)
  · exact mkLong_succ_area _ hmds
  · exact .inl (mkLong_area _ hmds)

end

/-! ### `SPP` of the only ready process (48_process_instructions.md R699, R720 to R723) -/

section

variable {s r : State} {w w1 : LongWord → Word} {pri : BitVec 3} {gf : Word} {cb : LongWord}

/-- The only ready process is found again, saved without a state vector, and resumed where it was. -/
theorem ends_goesOn (hi : s.Inv) (h : s.SoleAt r w) (hx : r.xts.getLsbD 0 = false)
    (hready : w readyQueue = s.wordAt readyQueue) (hout : ∀ va, va.toNat / 65536 ≠ 1 → w va = s.wordAt va)
    (hlist : s.canRead (stateList (priorityIn w s.psb)) = true) (hvector : w (stateList (priorityIn w s.psb)) ≠ 0)
    (hdata : s.canRead (psbMds s.psb) = true) (hmdsWord : w (psbMds s.psb) = s.mds)
    (hfailed : (w (psbLink s.psb)).getLsbD failedBit = false)
    (hf : (s.stored (s.lengthen (s.lf - 1)) s.pc).hasFrame s.lf gf cb s.pc) :
    s.Ends (s.Shows Set.univ w) (reschedule false) r () (r.resumed s.psb s.mds s.lf gf cb s.pc)
      (s.Shows Set.univ (s.pauseWords w)) := by
  obtain ⟨hpsb, hmds, hlf, hpc, hrun⟩ := h.registers
  obtain ⟨-, hp8, hmds1, hpc8, hwrites, -⟩ := h.savable
  simp only [State.canWriteAll, List.all_cons, List.all_nil, Bool.and_true, Bool.and_eq_true] at hwrites
  obtain ⟨hq, hl, -, hxt, -, hframe⟩ := hwrites
  have hp0 : s.psb ≠ 0 := fun he => absurd hp8 (by rw [he]; decide)
  have hpsbs := psb_toNat s.psb
  have hbound := s.psb.isLt
  have hrq := readyQueue_toNat
  have hlistNat := stateList_toNat (priorityIn w s.psb)
  have hpri := (priorityIn w s.psb).isLt
  have htag : s.lf &&& 3 = 0 := by obtain ⟨-, htag, -⟩ := hf; exact htag
  have hsame : r.pauseWords w = s.pauseWords w := by simp only [State.pauseWords, State.lengthen, hpsb, hmds, hlf, hpc]
  have hsave := ends_saveProcess_pause (r := r) (w := w) hi h.devices hmds.symm (hpc ▸ hpc8) (hpsb ▸ hl) (hpsb ▸ hxt)
    (hlf ▸ hframe) (by rw [hpsb, h.permanent])
  rw [hsame] at hsave
  obtain ⟨hsLink, hsContext, -⟩ := pauseWords_saved (w := w) hmds1
  have hqueue : s.pauseWords w readyQueue = w readyQueue :=
    pauseWords_other hmds1 (by decide) (address_ne (by omega)) (address_ne (by omega))
  have htail : indexField (s.pauseWords w readyQueue) = s.psb := by rw [hqueue, h.queue.tail]; rfl
  have hring : indexField (w (psbLink s.psb)) = s.psb := by simpa [isRing_cons, Follows] using h.queue.ring
  have hpriority : linkPriority (s.pauseWords w (psbLink s.psb)) = priorityIn w s.psb := by
    rw [hsLink, linkPriority_withBit _ _ (by decide)]
    rfl
  have hkept : ∀ k < 3, k ≠ preemptedBit →
      (s.pauseWords w (psbLink s.psb)).getLsbD k = (w (psbLink s.psb)).getLsbD k := fun k hk hne => by
    rw [hsLink, getLsbD_withBit _ _ (by omega), if_neg hne]
  have hfresh : s.FreshAt (s.pauseWords w) s.psb s.mds s.lf :=
    { queue := canRead_of_canWrite hq, some := htail.trans_ne hp0
      tail := by rw [htail]; exact canRead_of_canWrite hl
      head := by rw [htail, hsLink, indexField_withBit _ _ (by decide), hring]
      link := canRead_of_canWrite hl, context := canRead_of_canWrite hxt, data := hdata
      list := by rw [hpriority]; exact hlist
      permanent := (hkept _ (by decide) (by decide)).trans h.permanent
      preempted := by rw [hsLink, getLsbD_withBit_self _ _ (by decide)]
      failed := (hkept _ (by decide) (by decide)).trans hfailed
      vector := by
        rw [hpriority, pauseWords_other hmds1 (by omega) (address_ne (by omega)) (address_ne (by omega))]
        exact hvector
      frameWord := hsContext
      mdsWord := by
        rw [pauseWords_other hmds1 (by omega) (address_ne (by omega)) (address_ne (by omega)), hmdsWord] }
  exact ends_reschedule_running hrun hsave
    (ends_resume h.devices hx hfresh (framedIn_paused hi hmds1 hp8 hframe hready hout hf) htag)

/-- `SPP` (48_process_instructions.md R699). -/
theorem exec_spp_goesOn (hd : s.devices = []) (hi : s.Inv) (hsole : s.soleProcess) (hsp : s.sp.val = 1)
    (hx : s.xts.getLsbD 0 = false) (hpri : pri = (s.top 0).extractLsb' 0 3)
    (hreads : s.canReadAll [stateList pri, psbMds s.psb] = true) (hvector : s.wordAt (stateList pri) ≠ 0)
    (hmdsWord : s.wordAt (psbMds s.psb) = s.mds) (hfailed : (s.wordAt (psbLink s.psb)).getLsbD failedBit = false)
    (hf : (s.stored (s.lengthen (s.lf - 1)) s.pc).hasFrame s.lf gf cb s.pc) :
    ∃ t, exec .spp s = .next t ∧ linkPriority (t.wordAt (psbLink s.psb)) = pri ∧ t.psb = s.psb ∧ t.mds = s.mds
      ∧ t.lf = s.lf ∧ t.gf = gf ∧ t.cb = cb ∧ t.pc = s.pc ∧ t.sp = 0 ∧ t.running = true ∧ t.wdc = s.wdc
      ∧ indexField (t.wordAt readyQueue) = s.psb := by
  obtain ⟨⟨hrun, hp8, hmds1, -, hwrites, -⟩, htail, -⟩ := id hsole
  simp only [State.canWriteAll, List.all_cons, List.all_nil, Bool.and_true, Bool.and_eq_true] at hwrites
  obtain ⟨hq, hl, -⟩ := hwrites
  simp only [State.canReadAll, List.all_cons, List.all_nil, Bool.and_true, Bool.and_eq_true] at hreads
  obtain ⟨hrList, hrMds⟩ := hreads
  have hpsbs := psb_toNat s.psb
  have hbound := s.psb.isLt
  have hrq := readyQueue_toNat
  have hlistNat := stateList_toNat pri
  have hpriBound := pri.isLt
  set w := Function.update s.wordAt (psbLink s.psb) (withPriority (s.wordAt (psbLink s.psb)) pri) with hw
  have hlink : w (psbLink s.psb) = withPriority (s.wordAt (psbLink s.psb)) pri := Function.update_self ..
  have hother : ∀ va, va ≠ psbLink s.psb → w va = s.wordAt va := fun va hne => Function.update_of_ne hne _ _
  have hsole0 : s.SoleAt (s.dropped 1) w := soleAt_of_sole hsole hd (hother _ (address_ne (by omega)))
    (by rw [hlink, indexField_withPriority]) (by rw [hlink, getLsbD_withPriority _ _ (by decide)])
  obtain ⟨w1, hmove, -, hthere, hw1⟩ := ends_requeue (a := []) (b := []) (A := Set.univ) (dst := readyQueue) hi
    hsole0.devices hsole0.queue (List.mem_singleton_self _) (by decide) (.inl ⟨rfl, by simp⟩)
    (fun q hq8 => ⟨psbLink_ne_header (.inl rfl) hq8, psbLink_ne_header (.inl rfl) hq8⟩) (by simp) (by simp) (by simp)
  have hready : w1 readyQueue = s.wordAt readyQueue := by
    rw [← hother _ (address_ne (by omega))]
    refine hw1.eq_of_index ?_
    rw [hthere.tail, hother _ (address_ne (by omega)), htail]
    rfl
  have hkept : ∀ va, va ≠ readyQueue → va ≠ psbLink s.psb → w1 va = s.wordAt va := fun va h1 h2 => by
    rw [hw1.other (by simp [requeueWords, h1, h2]), hother va h2]
  have hpriority : priorityIn w1 s.psb = pri := by
    rw [priorityIn, hw1.linkPriority, hlink, linkPriority_withPriority]
  have hsole1 : s.SoleAt (s.dropped 1) w1 :=
    { hsole0 with queue := hthere, permanent := by rw [hw1.getLsbD (by decide), hsole0.permanent] }
  have hgoes := ends_goesOn (gf := gf) (cb := cb) hi hsole1 hx hready
    (fun va hout => hkept va (address_ne (by omega)) (address_ne (by omega))) (by rw [hpriority]; exact hrList)
    (by rw [hpriority, hkept _ (address_ne (by omega)) (address_ne (by omega))]; exact hvector) hrMds
    (by rw [hkept _ (address_ne (by omega)) (address_ne (by omega)), hmdsWord])
    (by rw [hw1.getLsbD (by decide), hlink, getLsbD_withPriority _ _ (by decide), hfailed]) hf
  have hspp : s.Ends (s.Shows Set.univ s.wordAt) doSpp s () ((s.dropped 1).resumed s.psb s.mds s.lf gf cb s.pc)
      (s.Shows Set.univ (s.pauseWords w1)) := by
    refine ends_bind (ends_pop (n := 0) (by omega)) (ends_bind (ends_minimalStack_dropped hsp)
      (ends_getState fun _ _ => ends_bind (ends_read hd (canRead_of_canWrite hl)) ?_))
    rw [← hpri]
    exact ends_bind (ends_write hi hd hl) (ends_bind hmove hgoes)
  obtain ⟨map, mem, hok, hmap, hshows⟩ := hspp s.map s.mem (sameAccess_self (by obtain ⟨-, hc, -⟩ := hi; exact hc))
    (shows_self hi)
  obtain ⟨hsLink, -⟩ := pauseWords_saved (w := w1) hmds1
  refine ⟨_, run_ok hok, ?_, rfl, rfl, rfl, rfl, rfl, rfl, Fin.ext (show s.sp.val - 1 = 0 by omega), rfl, rfl, ?_⟩
  · rw [wordAt_of_shows hmap hshows (canRead_of_canWrite hl), hsLink, linkPriority_withBit _ _ (by decide)]
    exact hpriority
  · rw [wordAt_of_shows hmap hshows (canRead_of_canWrite hq),
      pauseWords_other hmds1 (by decide) (address_ne (by omega)) (address_ne (by omega)), hready, htail]

end

/-- Settles O53. -/
theorem setPriorityGoesOn : Obligations.SetPriorityGoesOn :=
  ⟨fun _ _ _ _ hd hi hsole hsp hx hpri hreads hvector hmds hfailed hf =>
    exec_spp_goesOn hd hi hsole hsp hx hpri hreads hvector hmds hfailed hf,
    fun _ _ _ _ _ _ hd hi hsrc0 hlinks hsrc hp hdst hs => requeue_run hd hi hsrc0 hlinks hsrc hp hdst hs⟩

end Sys2Proof.Machine

namespace Sys2Proof.Machine

/-! ### A fault suspends its process (60_exceptions.md R794 to R798, 48_process_instructions.md R700, R720, R722) -/

theorem faultQueue_toNat (fi : FaultIndex) : (faultQueue fi).toNat = 65584 + 2 * fi.code.toNat := by cases fi <;> rfl

theorem faultCondition_toNat (fi : FaultIndex) : (faultCondition fi).toNat = 65585 + 2 * fi.code.toNat := by
  cases fi <;> rfl

theorem faultIndex_code_lt (fi : FaultIndex) : fi.code.toNat < 3 := by cases fi <;> decide

/-- The words `w` are those of `s` but that the current process has left the ready queue `l` for the queue of the fault, whose
condition keeps a wakeup. -/
structure State.FaultedAt (s : State) (w : LongWord → Word) (fi : FaultIndex) (l : List (BitVec 10)) : Prop where
  ready : s.QueueAt w readyQueue (l.erase s.psb)
  queue : s.QueueAt w (faultQueue fi) [s.psb]
  condition : (w (faultCondition fi)).getLsbD wakeupBit = true
  masked : ∀ va, va ≠ faultCondition fi → w va &&& 0xE007 = s.wordAt va &&& 0xE007
  other : ∀ va, va ∉ requeueWords readyQueue (faultQueue fi) l [] → va ≠ faultCondition fi → w va = s.wordAt va

/-- The faulted process as `Reschedule` saves it: at the faulted instruction (60_exceptions.md R794). -/
def State.faulted (s : State) : State := { s with pc := s.savedPC, sp := s.savedSP }

section

variable {s r3 : State} {w : LongWord → Word} {fi : FaultIndex} {l : List (BitVec 10)} {offset next : Word}
  {P : List Host.Cell → Prop} {a : Abort} {parameters : List Word}

/-- The process goes to the fault's queue and the fault's condition is notified, and then another is chosen. -/
theorem ends_switchFromFault (hi : s.Inv) (hd : s.devices = []) (hrun : s.running = true)
    (hl : s.holdsQueue readyQueue l) (hp : s.psb ∈ l) (hwrites : s.canWriteAll [faultQueue fi, faultCondition fi] = true)
    (hqueue : indexField (s.wordAt (faultQueue fi)) = 0) (hcondition : indexField (s.wordAt (faultCondition fi)) = 0) :
    ∃ w, s.FaultedAt w fi l ∧ ∀ r2 r3 P1 P, s.Ends (s.Shows Set.univ w) (saveProcess true) s.faulted () r2 P1 →
      s.Ends P1 (chooseProcess >>= resume) r2 () r3 P →
      s.Ends (s.Shows Set.univ s.wordAt) (switchFromFault fi) s s.psb r3 P := by
  simp only [State.canWriteAll, List.all_cons, List.all_nil, Bool.and_true, Bool.and_eq_true] at hwrites
  obtain ⟨hqw, hcw⟩ := hwrites
  have hqNat := faultQueue_toNat fi
  have hcNat := faultCondition_toNat fi
  have hcode := faultIndex_code_lt fi
  have hrq := readyQueue_toNat
  have hready := queueAt_wordAt.mpr hl
  have hne : readyQueue ≠ faultQueue fi := address_ne (by omega)
  obtain ⟨w1, hmove, hleft, hthere, hw1⟩ := ends_requeue (r := s) (a := []) (b := []) (A := Set.univ)
    (dst := faultQueue fi) hi hd hready hp (by decide) (.inr ⟨hne, queueAt_nil hqw hqueue, by simp⟩)
    (fun q hq8 => ⟨psbLink_ne_header (.inl rfl) hq8, psbLink_ne_header (.inr (.inr (by omega))) hq8⟩)
    (fun _ _ => trivial) (by simp) (by simp)
  have hcnot : faultCondition fi ∉ requeueWords readyQueue (faultQueue fi) l [] := fun h => by
    rw [mem_requeueWords] at h
    rcases h with h | h | h | h
    · exact absurd h (address_ne (by omega))
    · exact absurd h (address_ne (by omega))
    · obtain ⟨q, hq, he⟩ := List.mem_map.mp h
      exact psbLink_ne_header (.inr (.inr (by omega))) (hready.psbs q hq) he
    · simp at h
  have hnotify := ends_notifyWakeup_idle (r := s) (w := w1) (A := Set.univ) hi hd hcw trivial
    (by rw [hw1.other hcnot, hcondition])
  have hkept : ∀ va ≠ faultCondition fi, Function.update w1 (faultCondition fi)
      (withBit (w1 (faultCondition fi)) wakeupBit true) va = w1 va := fun va hva => Function.update_of_ne hva _ _
  have hqueues : ∀ que l', s.QueueAt w1 que l' → que ≠ faultCondition fi → s.QueueAt (Function.update w1 (faultCondition fi)
      (withBit (w1 (faultCondition fi)) wakeupBit true)) que l' := fun que l' hq hque =>
    hq.congr fun va hva => congrArg _ (hkept va (by
      rcases List.mem_cons.mp hva with rfl | hva
      · exact hque
      · obtain ⟨q, hq', rfl⟩ := List.mem_map.mp hva
        exact psbLink_ne_header (.inr (.inr (by omega))) (hq.psbs q hq')))
  refine ⟨Function.update w1 (faultCondition fi) (withBit (w1 (faultCondition fi)) wakeupBit true),
    ⟨hqueues _ _ (hleft hne) (address_ne (by omega)), hqueues _ _ hthere (address_ne (by omega)), ?_, fun va hva => ?_,
      fun va hva hc => ?_⟩, fun r2 r3 P1 P hsave hresume => ?_⟩
  · rw [Function.update_self, getLsbD_withBit_self _ _ (by decide)]
  · rw [hkept va hva, hw1.masked]
  · rw [hkept va hc, hw1.other hva]
  · exact ends_getState fun _ _ => ends_bind (ends_noAbort _ (ends_bind hmove (ends_bind hnotify (ends_pure ()))))
      (ends_bind (ends_update (f := fun s => { s with pc := s.savedPC, sp := s.savedSP }))
        (ends_bind (ends_reschedule_running hrun hsave hresume) (ends_pure s.psb)))

/-- The words after the parameters are stored in the state vector at `offset` (60_exceptions.md R794). -/
def parameterWords (offset : Word) (parameters : List Word) (w : LongWord → Word) : LongWord → Word :=
  vectorWords (offset + 16) (fun k => parameters.getD k 0) parameters.length 0 w

/-- A fault switches processes and then stores its parameters in the state vector that the faulted process names. -/
theorem ends_takeFault (hi : s.Inv) (hd : r3.devices = [])
    (ha : (∃ p, a = .faultOne fi p ∧ parameters = [p]) ∨ ∃ p, a = .faultTwo fi p ∧ parameters = [lowHalf p, highHalf p])
    (hswitch : s.Ends P (switchFromFault fi) s s.psb r3 (s.Shows Set.univ w)) (hr : s.canRead (psbContext s.psb) = true)
    (hcontext : w (psbContext s.psb) = offset)
    (hw : ∀ k < parameters.length, s.canWrite (pdaAddress (offset + 16 + BitVec.ofNat 16 k)) = true) :
    s.Ends P (takeFault a) s () r3 (s.Shows Set.univ (parameterWords offset parameters w)) := by
  have hstate : s.Ends (s.Shows Set.univ w) (faultState s.psb) r3 offset r3 (s.Shows Set.univ w) :=
    ends_noAbort _ (ends_read_eq hd hr hcontext)
  have hstore : ∀ (k p : Word) (w' : LongWord → Word), s.canWrite (pdaAddress (offset + 16 + k)) = true →
      s.Ends (s.Shows Set.univ w') (storeFaultParameter offset k p) r3 () r3
        (s.Shows Set.univ (Function.update w' (pdaAddress (offset + 16 + k)) p)) := fun k p w' h =>
    ends_noAbort _ (ends_write hi hd h)
  obtain ⟨p, rfl, rfl⟩ | ⟨p, rfl, rfl⟩ := ha
  · exact ends_bind hswitch (ends_bind hstate (hstore 0 p w (hw 0 (by simp))))
  · exact ends_bind hswitch (ends_bind hstate (ends_bind (hstore 0 _ w (hw 0 (by simp)))
      (hstore 1 _ _ (hw 1 (by simp)))))

/-- Words of the Process Data Area other than headers and links, and all beyond it, are as in `s`. -/
theorem State.FaultedAt.kept (h : s.FaultedAt w fi l) (hl : s.holdsQueue readyQueue l) {va : LongWord}
    (hva : va.toNat / 65536 ≠ 1 ∨ 65536 < va.toNat ∧ va.toNat < 65584 ∨ 65600 ≤ va.toNat ∧ va.toNat % 8 ≠ 0
      ∨ 65536 + 0x2000 ≤ va.toNat) : w va = s.wordAt va := by
  have hqNat := faultQueue_toNat fi
  have hcNat := faultCondition_toNat fi
  have hcode := faultIndex_code_lt fi
  have hrq := readyQueue_toNat
  refine h.other va (fun hmem => ?_) (address_ne (by omega))
  rw [mem_requeueWords] at hmem
  rcases hmem with rfl | rfl | hmem | hmem
  · omega
  · omega
  · obtain ⟨q, hq, rfl⟩ := List.mem_map.mp hmem
    have hlink := psbLink_toNat q
    have hbound := q.isLt
    have hq8 := (queueAt_wordAt.mpr hl).psbs q hq
    omega
  · simp at hmem

/-- A process's link word keeps all but its index. -/
theorem State.FaultedAt.link (h : s.FaultedAt w fi l) {q : BitVec 10} (hq : 8 ≤ q.toNat) :
    w (psbLink q) &&& 0xE007 = s.wordAt (psbLink q) &&& 0xE007 := by
  have hcNat := faultCondition_toNat fi
  have hcode := faultIndex_code_lt fi
  exact h.masked _ (psbLink_ne_header (.inr (.inr (by omega))) hq)

end

/-! ### The faulted process in its state vector (60_exceptions.md R794, 48_process_instructions.md R722, R725) -/

/-- The fault `a`, with its parameters, can suspend the current process: the queue of the fault is empty, and a state vector is
free at `offset`. -/
structure State.Faults (s : State) (a : Abort) (fi : FaultIndex) (parameters : List Word) (offset next : Word) : Prop where
  devices : s.devices = []
  inv : s.Inv
  abort : (∃ p, a = .faultOne fi p ∧ parameters = [p]) ∨ ∃ p, a = .faultTwo fi p ∧ parameters = [lowHalf p, highHalf p]
  savable : s.savable
  pc : 8 ≤ s.savedPC.toNat
  writes : s.canWriteAll [faultQueue fi, faultCondition fi] = true
  queue : indexField (s.wordAt (faultQueue fi)) = 0
  condition : indexField (s.wordAt (faultCondition fi)) = 0
  vector : s.hasStateVector offset next 18

/-- The words after the faulted process is saved in the state vector at `offset`. -/
def State.faultedWords (s : State) (offset next : Word) (w : LongWord → Word) : LongWord → Word :=
  s.faulted.preemptWords offset next w

/-- The fault has been taken in `t`: the process has left the ready queue `l` for the queue of the fault, whose condition keeps
the wakeup, and it stands in the state vector at `offset`, with the parameters behind it. -/
def State.suspendedIn (s t : State) (fi : FaultIndex) (parameters : List Word) (offset next : Word) (l : List (BitVec 10)) : Prop :=
  t.holdsQueue readyQueue (l.erase s.psb) ∧ t.holdsQueue (faultQueue fi) [s.psb]
    ∧ (t.wordAt (faultCondition fi)).getLsbD wakeupBit = true ∧ s.preemptedTo t offset next s.savedPC s.savedSP
    ∧ ∀ k, k < parameters.length → t.wordAt (pdaAddress (offset + 16 + BitVec.ofNat 16 k)) = parameters.getD k 0

section

variable {s r3 t b : State} {w : LongWord → Word} {fi : FaultIndex} {l : List (BitVec 10)} {offset next mds frame gf pc : Word}
  {cb : LongWord} {q : BitVec 10} {a : Abort} {parameters : List Word} {va : LongWord}

theorem State.Faults.parameters_length (hf : s.Faults a fi parameters offset next) : parameters.length ≤ 2 := by
  obtain ⟨p, -, h⟩ | ⟨p, -, h⟩ := hf.abort <;> simp [h]

theorem State.Faults.parameters_toNat (hf : s.Faults a fi parameters offset next) : (offset + 16).toNat = offset.toNat + 16 := by
  obtain ⟨-, -, -, hwithin, -⟩ := hf.vector
  rw [BitVec.toNat_add]
  exact Nat.mod_eq_of_lt (show offset.toNat + 16 < 65536 by omega)

theorem State.Faults.canWriteParameter (hf : s.Faults a fi parameters offset next) {k : Nat} (hk : k < parameters.length) :
    s.canWrite (pdaAddress (offset + 16 + BitVec.ofNat 16 k)) = true := by
  obtain ⟨-, -, -, -, hvw, -⟩ := hf.vector
  have := hvw (16 + k) (by have := hf.parameters_length; omega)
  rwa [BitVec.ofNat_add, ← BitVec.add_assoc] at this

theorem preemptibleAt_of_faultedAt (hf : s.Faults a fi parameters offset next) (hl : s.holdsQueue readyQueue l)
    (h : s.FaultedAt w fi l) : s.PreemptibleAt s.faulted w offset next := by
  obtain ⟨-, hp8, hmds, -, hwrites, hperm⟩ := hf.savable
  simp only [State.canWriteAll, List.all_cons, List.all_nil, Bool.and_true, Bool.and_eq_true] at hwrites
  obtain ⟨-, hlink, -, hcontext, -, hframe⟩ := hwrites
  obtain ⟨hlist, hhead, hbeyond, hwithin, hvw, hnext⟩ := hf.vector
  have hpriority : linkPriority (w (psbLink s.psb)) = s.priorityOf s.psb := linkPriority_of_masked (h.link hp8)
  have hlistNat := stateList_toNat (s.priorityOf s.psb)
  have hpri := (s.priorityOf s.psb).isLt
  have hoffsetNat := pdaAddress_toNat offset
  exact
    { psb := hp8, mds := hmds, pc := hf.pc, link := hlink, context := hcontext, frame := hframe
      permanent := (getLsbD_of_masked (h.link hp8) (by decide)).trans hperm
      list := hpriority ▸ hlist
      head := (congrArg (w ∘ stateList) hpriority).trans ((h.kept hl (by omega)).trans hhead)
      beyond := hbeyond, within := hwithin, vector := fun k hk => hvw k (by omega)
      nextWord := (h.kept hl (by omega)).trans hnext }

/-- Words of the Process Data Area that the save of the faulted process does not store to. -/
theorem faultedWords_other (hf : s.Faults a fi parameters offset next) (h : s.FaultedAt w fi l) (harea : va.toNat / 65536 = 1)
    (hbelow : va.toNat < 65536 + 0x2000) (hlist : va.toNat ≠ 65544 + (s.priorityOf s.psb).toNat)
    (hlink : va.toNat ≠ 65536 + 8 * s.psb.toNat) (hcontext : va.toNat ≠ 65536 + 8 * s.psb.toNat + 2) :
    s.faultedWords offset next w va = w va := by
  obtain ⟨-, hp8, hmds, -⟩ := hf.savable
  obtain ⟨-, -, hbeyond, hwithin, -⟩ := hf.vector
  have hpriority : linkPriority (w (psbLink s.psb)) = s.priorityOf s.psb := linkPriority_of_masked (h.link hp8)
  exact preemptWords_other (s := s.faulted) hmds hbeyond hwithin harea hbelow (hpriority ▸ hlist) hlink hcontext

/-- What the save of the faulted process stores. -/
theorem faultedWords_saved (hf : s.Faults a fi parameters offset next) (h : s.FaultedAt w fi l) :
    s.faultedWords offset next w (psbLink s.psb) = withBit (w (psbLink s.psb)) preemptedBit true
      ∧ s.faultedWords offset next w (psbContext s.psb) = offset
      ∧ s.faultedWords offset next w (stateList (s.priorityOf s.psb)) = next
      ∧ s.faultedWords offset next w (s.lengthen (s.lf - 1)) = s.savedPC
      ∧ (∀ k, k < min (s.savedSP.val + 2) 14 →
        s.faultedWords offset next w (pdaAddress (offset + BitVec.ofNat 16 k)) = s.slot k)
      ∧ s.faultedWords offset next w (pdaAddress (offset + 14)) = bytePair s.brk (BitVec.ofNat 8 s.savedSP.val)
      ∧ s.faultedWords offset next w (pdaAddress (offset + 15)) = s.lf := by
  obtain ⟨-, hp8, hmds, -⟩ := hf.savable
  obtain ⟨-, -, hbeyond, hwithin, -⟩ := hf.vector
  have hpriority : linkPriority (w (psbLink s.psb)) = s.priorityOf s.psb := linkPriority_of_masked (h.link hp8)
  rw [← hpriority]
  exact preemptWords_saved (s := s.faulted) hmds hbeyond hwithin hp8

/-- Outside the Process Data Area the fault changes the word of `PC` alone. -/
theorem faultedWords_outside (hf : s.Faults a fi parameters offset next) (hl : s.holdsQueue readyQueue l) (h : s.FaultedAt w fi l)
    (hr : s.canRead va = true) (hout : va.toNat / 65536 ≠ 1) :
    s.faultedWords offset next w va = (s.stored (s.lengthen (s.lf - 1)) s.savedPC).wordAt va := by
  obtain ⟨-, hp8, -, -, hwrites, -⟩ := hf.savable
  simp only [State.canWriteAll, List.all_cons, List.all_nil, Bool.and_true, Bool.and_eq_true] at hwrites
  obtain ⟨-, -, -, -, -, hframe⟩ := hwrites
  obtain ⟨-, -, hbeyond, hwithin, -⟩ := hf.vector
  rw [wordAt_stored_update hf.inv hframe hr, State.faultedWords,
    preemptWords_outside (s := s.faulted) hbeyond hwithin hp8 hout, Function.update_apply, Function.update_apply,
    h.kept hl (.inl hout)]
  rfl

/-- The save of the faulted process changes no index of a header or link. -/
theorem faultedWords_queueAt (hf : s.Faults a fi parameters offset next) (h : s.FaultedAt w fi l) {que : LongWord}
    {m : List (BitVec 10)} (hque : que = readyQueue ∨ que = faultQueue fi) (hq : s.QueueAt w que m) :
    s.QueueAt (s.faultedWords offset next w) que m := by
  obtain ⟨-, hp8, -⟩ := hf.savable
  have hbound := s.psb.isLt
  have hpri := (s.priorityOf s.psb).isLt
  have hpsb := psbLink_toNat s.psb
  obtain ⟨hsLink, -⟩ := faultedWords_saved hf h
  refine hq.congr fun va hva => ?_
  rcases List.mem_cons.mp hva with rfl | hva
  · have hqNat := faultQueue_toNat fi
    have hcode := faultIndex_code_lt fi
    have hrq := readyQueue_toNat
    have hqueNat : va.toNat = 65536 ∨ 65584 ≤ va.toNat ∧ va.toNat < 65590 := by rcases hque with rfl | rfl <;> omega
    rw [faultedWords_other hf h (by omega) (by omega) (by omega) (by omega) (by omega)]
  · obtain ⟨p, hp, rfl⟩ := List.mem_map.mp hva
    have hp8 := hq.psbs p hp
    have hpBound := p.isLt
    have hpNat := psbLink_toNat p
    by_cases he : p = s.psb
    · rw [he, hsLink, indexField_withBit _ _ (by decide)]
    · have hne : p.toNat ≠ s.psb.toNat := fun h => he (BitVec.eq_of_toNat_eq h)
      rw [faultedWords_other hf h (by omega) (by omega) (by omega) (by omega) (by omega)]

/-- The parameters are stored behind the saved process; other words are left alone. -/
theorem parameterWords_below (hf : s.Faults a fi parameters offset next)
    (hva : va.toNat < 65536 + offset.toNat + 16 ∨ va.toNat / 65536 ≠ 1) : parameterWords offset parameters w va = w va := by
  obtain ⟨-, -, -, hwithin, -⟩ := hf.vector
  have hlength := hf.parameters_length
  have hnat := hf.parameters_toNat
  exact vectorWords_other (by omega) (by omega)

theorem parameterWords_at (hf : s.Faults a fi parameters offset next) {k : Nat} (hk : k < parameters.length) :
    parameterWords offset parameters w (pdaAddress (offset + 16 + BitVec.ofNat 16 k)) = parameters.getD k 0 := by
  obtain ⟨-, -, -, hwithin, -⟩ := hf.vector
  have hlength := hf.parameters_length
  have hnat := hf.parameters_toNat
  exact vectorWords_slot (by omega) (by omega) (by omega)

theorem parameterWords_queueAt (hf : s.Faults a fi parameters offset next) {que : LongWord} {m : List (BitVec 10)}
    (hque : que = readyQueue ∨ que = faultQueue fi) (hq : s.QueueAt w que m) :
    s.QueueAt (parameterWords offset parameters w) que m := by
  obtain ⟨-, -, hbeyond, -⟩ := hf.vector
  refine hq.congr fun va hva => congrArg indexField (parameterWords_below hf (.inl ?_))
  rcases List.mem_cons.mp hva with rfl | hva
  · have hqNat := faultQueue_toNat fi
    have hcode := faultIndex_code_lt fi
    have hrq := readyQueue_toNat
    rcases hque with rfl | rfl <;> omega
  · obtain ⟨p, -, rfl⟩ := List.mem_map.mp hva
    have hpBound := p.isLt
    have hpNat := psbLink_toNat p
    omega

/-- A state that shows the words after the fault has been taken. -/
theorem suspendedIn_of_words (hf : s.Faults a fi parameters offset next) (h : s.FaultedAt w fi l)
    (hwrite : ∀ va, t.canWrite va = s.canWrite va)
    (hword : ∀ va, s.canRead va = true → t.wordAt va = parameterWords offset parameters (s.faultedWords offset next w) va) :
    s.suspendedIn t fi parameters offset next l := by
  obtain ⟨-, hp8, hmds, -, hwrites, -⟩ := hf.savable
  simp only [State.canWriteAll, List.all_cons, List.all_nil, Bool.and_true, Bool.and_eq_true] at hwrites
  obtain ⟨-, hlink, -, hcontext, -, hframe⟩ := hwrites
  obtain ⟨hlist, -, hbeyond, hwithin, hvw, -⟩ := hf.vector
  have hfault := hf.writes
  simp only [State.canWriteAll, List.all_cons, List.all_nil, Bool.and_true, Bool.and_eq_true] at hfault
  obtain ⟨-, hcw⟩ := hfault
  have hbound := s.psb.isLt
  have hpsb := psb_toNat s.psb
  have hpri := (s.priorityOf s.psb).isLt
  have hlistNat := stateList_toNat (s.priorityOf s.psb)
  have hcNat := faultCondition_toNat fi
  have hcode := faultIndex_code_lt fi
  have hlenNat := lengthen_toNat s (s.lf - 1)
  have hone : s.mds.toNat ≠ 1 := fun he => hmds (BitVec.eq_of_toNat_eq he)
  have hlf := (s.lf - 1).isLt
  have hslotNat : ∀ k < 16, (pdaAddress (offset + BitVec.ofNat 16 k)).toNat = 65536 + offset.toNat + k := fun k hk =>
    vectorWord_toNat_eq (by omega)
  have hsee : ∀ va, s.canWrite va = true → (va.toNat < 65536 + offset.toNat + 16 ∨ va.toNat / 65536 ≠ 1) →
      t.wordAt va = s.faultedWords offset next w va := fun va hva hbelow =>
    (hword va (canRead_of_canWrite hva)).trans (parameterWords_below hf hbelow)
  have hqueues : ∀ que m, que = readyQueue ∨ que = faultQueue fi → s.QueueAt w que m → t.holdsQueue que m :=
    fun que m hque hq => (parameterWords_queueAt hf hque (faultedWords_queueAt hf h hque hq)).holdsQueue hwrite hword
  obtain ⟨hsLink, hsContext, hsList, hsFrame, hsSlots, hsSp, hsLf⟩ := faultedWords_saved hf h
  refine ⟨hqueues _ _ (.inl rfl) h.ready, hqueues _ _ (.inr rfl) h.queue, ?_,
    ⟨?_, (hsee _ hcontext (.inl (by omega))).trans hsContext, (hsee _ hlist (.inl (by omega))).trans hsList,
      (hsee _ hframe (.inr (by omega))).trans hsFrame, fun k hk => ?_, ?_, ?_⟩, fun k hk => ?_⟩
  · rw [hsee _ hcw (.inl (by omega)), faultedWords_other hf h (by omega) (by omega) (by omega) (by omega) (by omega),
      h.condition]
  · rw [hsee _ hlink (.inl (by omega)), hsLink, getLsbD_withBit_self _ _ (by decide)]
  · have hk16 : k < 16 := by omega
    have hslot := hslotNat k hk16
    exact (hsee _ (hvw k (by omega)) (.inl (by omega))).trans (hsSlots k hk)
  · have h14 := hslotNat 14 (by omega)
    exact (hsee _ (hvw 14 (by omega)) (.inl (by omega))).trans hsSp
  · have h15 := hslotNat 15 (by omega)
    exact (hsee _ (hvw 15 (by omega)) (.inl (by omega))).trans hsLf
  · rw [hword _ (canRead_of_canWrite (hf.canWriteParameter hk)), parameterWords_at hf hk]

/-- The registers once the faulted process is saved. -/
def State.suspended (s : State) : State := { s.faulted with sp := 0, savedSP := 0, brk := 0 }

/-- A fault suspends its process, whatever `Reschedule` finds then. -/
theorem deliver_suspends (hf : s.Faults a fi parameters offset next) (hl : s.holdsQueue readyQueue l) (hp : s.psb ∈ l)
    (hd3 : r3.devices = [])
    (hresume : ∀ w, s.FaultedAt w fi l → s.Ends (s.Shows Set.univ (s.faultedWords offset next w)) (chooseProcess >>= resume)
      s.suspended () r3 (s.Shows Set.univ (s.faultedWords offset next w))) :
    ∃ map mem, deliver a s = .next (r3.withMemory map mem)
      ∧ s.suspendedIn (r3.withMemory map mem) fi parameters offset next l := by
  obtain ⟨hrun, -, -, -, hwrites, -⟩ := hf.savable
  simp only [State.canWriteAll, List.all_cons, List.all_nil, Bool.and_true, Bool.and_eq_true] at hwrites
  obtain ⟨-, -, -, hcontext, -⟩ := hwrites
  have hc : s.mapCanonical = true := by obtain ⟨-, hc, -⟩ := hf.inv; exact hc
  obtain ⟨w, hw, hswitch⟩ := ends_switchFromFault hf.inv hf.devices hrun hl hp hf.writes hf.queue hf.condition
  have hsave := ends_saveProcess (r := s.faulted) hf.inv hf.devices rfl (preemptibleAt_of_faultedAt hf hl hw)
  obtain ⟨-, hsContext, -⟩ := faultedWords_saved hf hw
  have htake := ends_takeFault hf.inv hd3 hf.abort (hswitch _ _ _ _ hsave (hresume w hw)) (canRead_of_canWrite hcontext)
    hsContext fun k hk => hf.canWriteParameter hk
  obtain ⟨map, mem, hok, hmap, hshows⟩ := htake s.map s.mem (sameAccess_self hc) (shows_self hf.inv)
  exact ⟨map, mem, deliver_fault hok, suspendedIn_of_words hf hw (canWrite_withMemory hmap _ _)
    fun va hr => wordAt_of_shows hmap hshows hr⟩

/-! ### What runs after a fault (48_process_instructions.md R720, R723) -/

/-- A fault of the only ready process leaves none to run. -/
theorem deliver_fault_sole (hf : s.Faults a fi parameters offset next) (hw : s.wdc = 0) (hsole : s.soleProcess) :
    ∃ t, deliver a s = .next t ∧ t.running = false ∧ s.suspendedIn t fi parameters offset next [s.psb] := by
  obtain ⟨⟨-, hp8, -, -, hwrites, -⟩, htail, hring⟩ := hsole
  simp only [State.canWriteAll, List.all_cons, List.all_nil, Bool.and_true, Bool.and_eq_true] at hwrites
  obtain ⟨hq, hlink, -⟩ := hwrites
  have hl : s.holdsQueue readyQueue [s.psb] := queueAt_wordAt.mp (queueAt_singleton hq hp8 hlink htail hring)
  obtain ⟨map, mem, hrun, hsuspended⟩ := deliver_suspends (r3 := { s.suspended with running := false }) hf hl
    List.mem_cons_self hf.devices fun w h => by
      have hempty := faultedWords_queueAt hf h (.inl rfl) h.ready
      rw [List.erase_cons_head] at hempty
      exact ends_resume_none hf.devices (canRead_of_canWrite hq) hempty.tail hw
  exact ⟨_, hrun, rfl, hsuspended⟩

/-- After the fault the one other ready process can be started. -/
theorem freshAt_of_faultedAt (hf : s.Faults a fi parameters offset next) (hl : s.holdsQueue readyQueue l)
    (h : s.FaultedAt w fi l) (hq : q ≠ s.psb) (hrest : l.erase s.psb = [q])
    (hst : (s.stored (s.lengthen (s.lf - 1)) s.savedPC).startable q false mds frame gf cb pc)
    (hnext : s.priorityOf q = s.priorityOf s.psb → next ≠ 0) :
    s.FreshAt (s.faultedWords offset next w) q mds frame := by
  obtain ⟨-, hp8, hmds1, -, hwrites, -⟩ := hf.savable
  simp only [State.canWriteAll, List.all_cons, List.all_nil, Bool.and_true, Bool.and_eq_true] at hwrites
  obtain ⟨-, -, -, -, -, hframe⟩ := hwrites
  have hc : s.mapCanonical = true := by obtain ⟨-, hc, -⟩ := hf.inv; exact hc
  have hready := faultedWords_queueAt hf h (.inl rfl) h.ready
  rw [hrest] at hready
  have hq8 := hready.psbs q (List.mem_singleton_self q)
  have hqw := hready.links q (List.mem_singleton_self q)
  have htail : indexField (s.faultedWords offset next w readyQueue) = q := hready.tail
  have hring : indexField (s.faultedWords offset next w (psbLink q)) = q := by
    simpa [isRing_cons, Follows] using hready.ring
  have hqs := psb_toNat q
  have hps := psb_toNat s.psb
  have hqBound := q.isLt
  have hneNat : q.toNat ≠ s.psb.toNat := fun he => hq (BitVec.eq_of_toNat_eq he)
  have hlistNat := stateList_toNat (s.priorityOf q)
  have hpriBound := (s.priorityOf q).isLt
  have hpriBound' := (s.priorityOf s.psb).isLt
  have hlenNat := lengthen_toNat s (s.lf - 1)
  have hone : s.mds.toNat ≠ 1 := fun he => hmds1 (BitVec.eq_of_toNat_eq he)
  have hlf := (s.lf - 1).isLt
  have hstored : ∀ va, s.canRead va = true → va.toNat / 65536 = 1 →
      (s.stored (s.lengthen (s.lf - 1)) s.savedPC).wordAt va = s.wordAt va := by
    intro va hr harea
    rw [wordAt_stored_update hf.inv hframe hr, update_other (by omega)]
  have hstoredLink := hstored (psbLink q) (canRead_of_canWrite hqw) (by omega)
  have hstoredPri : (s.stored (s.lengthen (s.lf - 1)) s.savedPC).priorityOf q = s.priorityOf q :=
    congrArg linkPriority hstoredLink
  have hmasked : s.faultedWords offset next w (psbLink q) &&& 0xE007 = s.wordAt (psbLink q) &&& 0xE007 := by
    rw [faultedWords_other hf h (by omega) (by omega) (by omega) (by omega) (by omega), h.link hq8]
  have hpriority : linkPriority (s.faultedWords offset next w (psbLink q)) = s.priorityOf q := linkPriority_of_masked hmasked
  have hdata : ∀ va, va.toNat = 65536 + 8 * q.toNat + 2 ∨ va.toNat = 65536 + 8 * q.toNat + 4 →
      s.faultedWords offset next w va = s.wordAt va := fun va hva => by
    rw [faultedWords_other hf h (by omega) (by omega) (by omega) (by omega) (by omega), h.kept hl (by omega)]
  obtain ⟨hreads, hperm, hpre, hfail, hvector, hcontext, hmdsWord, -⟩ := hst
  simp only [State.canReadAll, List.all_cons, List.all_nil, Bool.and_true, Bool.and_eq_true, hstoredPri,
    canRead_stored hc hframe] at hreads
  obtain ⟨hrContext, hrMds, hrList⟩ := hreads
  rw [hstoredLink] at hperm hpre hfail
  rw [hstoredPri, hstored _ hrList (by omega)] at hvector
  have hlist : s.faultedWords offset next w (stateList (s.priorityOf q)) ≠ 0 := by
    by_cases hpri : s.priorityOf q = s.priorityOf s.psb
    · obtain ⟨-, -, hsList, -⟩ := faultedWords_saved hf h
      rw [hpri, hsList]
      exact hnext hpri
    · have hpriNat : (s.priorityOf q).toNat ≠ (s.priorityOf s.psb).toNat := fun he => hpri (BitVec.eq_of_toNat_eq he)
      rw [faultedWords_other hf h (by omega) (by omega) (by omega) (by omega) (by omega), h.kept hl (by omega)]
      exact hvector
  exact
    { queue := canRead_of_canWrite hready.header
      some := htail.trans_ne fun h0 => absurd hq8 (by rw [h0]; decide)
      tail := htail.symm ▸ canRead_of_canWrite hqw
      head := htail.symm ▸ hring
      link := canRead_of_canWrite hqw, context := hrContext, data := hrMds, list := hpriority.symm ▸ hrList
      permanent := (getLsbD_of_masked hmasked (by decide)).trans hperm
      preempted := (getLsbD_of_masked hmasked (by decide)).trans hpre
      failed := (getLsbD_of_masked hmasked (by decide)).trans hfail
      vector := hpriority.symm ▸ hlist
      frameWord := (hdata _ (by omega)).trans ((hstored _ hrContext (by omega)).symm.trans hcontext)
      mdsWord := (hdata _ (by omega)).trans ((hstored _ hrMds (by omega)).symm.trans hmdsWord) }

/-- A fault while one other process is ready starts that one. -/
theorem deliver_fault_ready (hf : s.Faults a fi parameters offset next) (hx : s.xts.getLsbD 0 = false)
    (hl : s.holdsQueue readyQueue l) (hp : s.psb ∈ l) (hq : q ≠ s.psb) (hrest : l.erase s.psb = [q])
    (hst : (s.stored (s.lengthen (s.lf - 1)) s.savedPC).startable q false mds frame gf cb pc)
    (hnext : s.priorityOf q = s.priorityOf s.psb → next ≠ 0) :
    ∃ t, deliver a s = .next t ∧ t.started q mds frame gf cb pc ∧ t.sp = 0 ∧ t.wdc = s.wdc
      ∧ s.suspendedIn t fi parameters offset next l := by
  obtain ⟨-, -, -, -, hwrites, -⟩ := hf.savable
  simp only [State.canWriteAll, List.all_cons, List.all_nil, Bool.and_true, Bool.and_eq_true] at hwrites
  obtain ⟨-, -, -, -, -, hframe⟩ := hwrites
  have hc : s.mapCanonical = true := by obtain ⟨-, hc, -⟩ := hf.inv; exact hc
  obtain ⟨map, mem, hrun, hsuspended⟩ := deliver_suspends (r3 := s.suspended.resumed q mds frame gf cb pc) hf hl hp hf.devices
    fun w h => by
      have hfresh := freshAt_of_faultedAt hf hl h hq hrest hst hnext
      obtain ⟨-, -, -, -, -, -, -, hmds, hgf, hframed⟩ := hst
      exact ends_resume hf.devices hx hfresh (framedIn_of_hasFrame (translate_stored hc hframe) hmds hgf hframed
        fun va hr hout => faultedWords_outside hf hl h hr hout) (tag_of_hasFrame hframed)
  exact ⟨_, hrun, ⟨rfl, rfl, rfl, rfl, rfl, rfl, rfl⟩, rfl, rfl, hsuspended⟩

end

/-- Settles O50. -/
theorem faultSuspendsTheProcess : Obligations.FaultSuspendsTheProcess := by
  intro s a fi parameters offset next hd hi ha hsavable hpc hwrites hqueue hcondition hvector
  have hf : s.Faults a fi parameters offset next := ⟨hd, hi, ha, hsavable, hpc, hwrites, hqueue, hcondition, hvector⟩
  refine ⟨fun hw hsole => ?_, fun q mds frame gf cb pc hx hl hst hnext => ?_⟩
  · obtain ⟨t, hrun, hstopped, hready, hfault, hwakeup, hsaved, hparameters⟩ := deliver_fault_sole hf hw hsole
    rw [List.erase_cons_head] at hready
    obtain ⟨-, hreadyTail, -⟩ := hready
    obtain ⟨-, hfaultTail, -⟩ := hfault
    exact ⟨t, hrun, hstopped, hreadyTail, hfaultTail, hwakeup, hsaved, hparameters⟩
  · have hready : ∃ l, s.holdsQueue readyQueue l ∧ s.psb ∈ l ∧ q ≠ s.psb ∧ l.erase s.psb = [q] := by
      rcases hl with hl | hl
      · have hne : s.psb ≠ q := by simpa using (queueAt_wordAt.mpr hl).nodup
        exact ⟨_, hl, by simp, hne.symm, by simp⟩
      · have hne : q ≠ s.psb := by simpa using (queueAt_wordAt.mpr hl).nodup
        exact ⟨_, hl, by simp, hne, by simp [hne]⟩
    obtain ⟨l, hl, hp, hne, hrest⟩ := hready
    obtain ⟨t, hrun, hstarted, hsp, hwdc, hreadyQueue, hfault, hwakeup, hsaved, hparameters⟩ :=
      deliver_fault_ready hf hx hl hp hne hrest hst hnext
    exact ⟨t, hrun, hstarted, hrest ▸ hreadyQueue, hfault, hwakeup, hsaved, hsp, hwdc, hparameters⟩

end Sys2Proof.Machine

namespace Sys2Proof.Machine

/-! ### A condition at address 0 (48_process_instructions.md R697, R701) -/

/-- PSB 8 waits alone on the condition at address 0, which the current MDS, 2, does not hold. -/
def waiterAtNil : State := { State.reset with mds := 2, mem := writeReal (writeReal [] 0x10040 0x40) 0 0x40 }

theorem waiterAtNil_inv : waiterAtNil.Inv := inv_of_unlisted_map rfl (by decide +kernel : Memory.wf waiterAtNil.mem = true) rfl rfl

/-- `Dequeue` takes queue 0 for a queue that is not known and leaves its header alone: the condition still names PSB 8 once
`WakeHead` has moved that process to the ready queue. -/
theorem header_wakeHead_nil {t : State} (h : wakeHead 0 waiterAtNil = .ok () t) : indexField (t.wordAt 0) = 8 := by
  have hrun : (match wakeHead 0 waiterAtNil with
      | .ok () t => indexField (t.wordAt 0)
      | .error _ _ => 8) = 8 := by decide +kernel
  rwa [h] at hrun

/-- Refutes O51: a condition at address 0 outside the current MDS meets every premise of the clause about `WakeHead`, but there
`Dequeue` does not store the header (48_process_instructions.md R701), so the condition does not hold the rest of its queue. -/
theorem not_monitorsAndConditions : ¬ Obligations.MonitorsAndConditions := by
  intro h
  obtain ⟨-, -, -, -, -, -, -, hwakeHead, -⟩ := h waiterAtNil 0x20300 0 rfl waiterAtNil_inv (by decide +kernel) (by decide)
    (by decide +kernel) (by decide +kernel)
  obtain ⟨t, hrun, ⟨-, hempty, -⟩, -⟩ := hwakeHead 8 [] [] (by decide +kernel) (by decide +kernel) (by decide +kernel) (by simp)
    List.Pairwise.nil (by decide +kernel)
  rw [header_wakeHead_nil hrun] at hempty
  exact absurd hempty (by decide)

end Sys2Proof.Machine
